-- ==== Sys2Proof/Word.lean ====
section
/-! DEFINITION. The plain words of the SW74 block: bytes, 64-byte lines, ledger words, and the
sparse list every table of the state is held in. Operations on them stand in Machine/Sparse.lean. -/
namespace Sys2Proof

/-- One byte. -/
abbrev Byte := BitVec 8

/-- A line, the unit of host access and of ECC (00 R5, Table 00.2): 64 bytes, byte i in bits
[8i+7:8i]. -/
abbrev Line := BitVec 512

/-- One word of a ledger (19 R402). -/
abbrev LWord := BitVec 64

/-- Data written to or read from a STRING or DOMAIN object, byte 0 first (15 R338). -/
abbrev Bytes := List Byte

/-- A table by number, held as the entries that differ from the table's default, keys strictly
rising. -/
abbrev Sparse (α : Type) := List (Nat × α)

end Sys2Proof
end

