-- ==== Sys2Proof/Syntax.lean ====
section
/-! DEFINITION. The commands of the SW74 block: one constructor of `Instr` per row of
spec/opcode_table.json, with the operands the row's rules name. A row that is a step of the
package's own hardware names the unit it happens at and what the outside parts answer. -/
namespace Sys2Proof

/-- Header fields of an ODP frame that the answer repeats (15 R351). -/
structure OdpHead where
  prio : Nat
  src : Nat
  tag : Nat
  deriving DecidableEq, Repr

/-- Payload of a FOLLOW: its sync number, and the rack time in microseconds (15 Table 15.8). -/
structure SyncTime where
  num : Nat
  rackTime : Nat
  deriving DecidableEq, Repr

/-- The path an operation on the dictionary arrived by (15 R339); it fixes the realm. -/
inductive Origin where
  /-- CXL mailbox of a link (global port, link within the port). -/
  | mailbox (port link : Nat)
  /-- Field bus: the request's identifier, with its source node, and its session (0–3) or none (31). -/
  | fieldBus (head : OdpHead) (sid : Nat)
  /-- Two-wire port. -/
  | twoWire
  deriving DecidableEq, Repr

/-- What a CXL.io request targets (02 R54, R37, Table 02.2). -/
inductive IoTarget where
  | vendorId | deviceId | classCode | serialNumber
  /-- Memory Device Status: Media Status and Mailbox Interface Ready (02 R42). -/
  | memDevStatus
  /-- GPF DVSEC, phase 2 duration (02 R44). -/
  | gpfPhase2
  /-- One of the four HDM decoders of the link: field 0 base, 1 size, 2 ways, 3 granularity. -/
  | hdm (dec field : Nat)
  /-- One of the 16 MSI-X vectors of the link. -/
  | msix (vec : Nat)
  /-- Another register that the PCIe or CXL specification requires (02 R37). -/
  | standard (reg : Nat)
  /-- An unimplemented register or BAR offset. -/
  | unimplemented (off : Nat)
  deriving DecidableEq, Repr

/-- What the partner of a host link offers at training (02 R34, R36). -/
structure Partner where
  /-- Highest speed it supports, GT/s; 0 when training finds no partner. -/
  maxGts : Nat
  /-- It can enter 256-byte flit mode. -/
  flit256 : Bool
  /-- It supports the latency-optimised flit. -/
  latOpt : Bool
  deriving DecidableEq, Repr

/-- IDE_KM messages carried in SPDM VENDOR_DEFINED (02 R52). -/
inductive IdeKm where
  | query
  | keyProg
  | kSetGo
  | kSetStop
  deriving DecidableEq, Repr

/-- What a sweep measures for one nibble: how many of the 16 bursts matched at each code, in the order of
the codes (05 R117). -/
abbrev Sweep := List Nat

/-- The three passes of one side of a nibble (05 R117). -/
structure EyeSweeps where
  delay1 : Sweep
  ref : Sweep
  delay3 : Sweep
  deriving DecidableEq, Repr

/-- The read eye and the write eye of a nibble (05 R117, R118). -/
structure NibbleSweeps where
  read : EyeSweeps
  write : EyeSweeps
  deriving DecidableEq, Repr

/-- One run of a rank position through the steps of Table 05.2, as far as it came. -/
inductive Attempt where
  /-- Nothing answered at step 2. -/
  | silent
  /-- Step 3 fixed no density and stack height. -/
  | unidentified
  /-- Write levelling failed (step 4) on a rank of this density (Gb) and stack height. -/
  | levellingFails (density stack : Nat)
  /-- Read gate and preamble placement failed (step 5). -/
  | gateFails (density stack : Nat)
  /-- Steps 6 to 8: the sweeps of nibbles 0–19, whether verification matched throughout, and the
  oscillator counts of the devices at the end. -/
  | swept (density stack : Nat) (nibbles : List NibbleSweeps) (verified : Bool) (osc : List Nat)
  deriving DecidableEq, Repr

/-- Start-up training of one rank position: its first run, and the run again from step 2 that counts
where the first fails (05 R119). -/
structure RankTrain where
  first : Attempt
  again : Attempt
  deriving DecidableEq, Repr

/-- A check of a rank: the oscillator counts of nibbles 0–19, or for each nibble the read delay codes at
which a probe would match now, bit c for code c (05 R121, R122). -/
inductive Check where
  | osc (counts : List Nat)
  | probe (codes : List Nat)
  deriving DecidableEq, Repr

/-- The check of a rank at Idle-Deep exit: oscillator counts and probe answers of nibbles 0–19 (05 R129). -/
structure WakeCheck where
  osc : List Nat
  probe : List Nat
  deriving DecidableEq, Repr

/-- What a back-to-back recalibration measures, should it be due: the sweeps of nibbles 0–19 around the
settings in force, and the oscillator counts at their end (05 R129). -/
structure WakeRecal where
  delay : List Sweep
  ref : List Sweep
  after : List Nat
  deriving DecidableEq, Repr

/-- A check of a rank that is forced at P10 (05 R123). -/
structure ForcedCheck where
  rank : Nat
  check : Check
  deriving DecidableEq, Repr

/-- A line read by a rekey sweep: the tenancy, and the device positions in error as for DRAM_READ_COMPLETE
(03 R77, 04 R99). -/
structure SweptLine where
  tenancy : Nat
  errs : List Nat
  deriving DecidableEq, Repr

/-- The reads of a flake by a pump: lines (0–255) whose read stays uncorrectable after the retry, lines read
corrected, with the device position, and lines that their second read gave (07 R160, 04 R99, R102). -/
structure FlakeRead where
  bad : List Nat
  corrected : List (Nat × Nat)
  second : List Nat
  deriving DecidableEq, Repr

/-- An MR4 reading (04 Table 04.3). -/
inductive Mr4 where
  | single
  | double
  /-- Shorter than the 2x interval required, or above the operating range. -/
  | beyond
  deriving DecidableEq, Repr

/-- The decode of one of the four codewords of a flash page (08 R190, R200, R207). -/
inductive PageDecode where
  | clean
  /-- Decodes with more than 75 % of the LDPC capability used. -/
  | weak
  /-- Does not decode at this level. -/
  | fails
  deriving DecidableEq, Repr

/-- A read of the verification walk: the read-retry levels it took, 0–8, and the codewords at the last
(08 R200, R207). -/
structure PageVerify where
  levels : Nat
  words : List PageDecode
  deriving DecidableEq, Repr

/-- What fails of a die's flash: one LUN, or a channel whose interface has stopped responding (08 R209). -/
inductive FlashUnit where
  | lun (lun : Nat)
  | channel (channel : Nat)
  deriving DecidableEq, Repr

/-- A die's read of its glacier at the thaw, the addresses of pages that cannot be read at any level, and of those
that decoded at a read-retry level (09 R230, 08 R200). -/
structure MapRead where
  die : Nat
  bad : List Nat
  retried : List Nat
  deriving DecidableEq, Repr

/-- Events of 11 Table 11.4 that end a learn cycle and have no other row of their own. -/
inductive LearnEvent where
  | temperature
  | snowline
  | timeLimit
  deriving DecidableEq, Repr

/-- How a two-wire transaction ends (17 R374, R379). -/
inductive WireEnd where
  | stop
  | repeatedStart
  /-- It ended without either (abandoned). -/
  | neither
  deriving DecidableEq, Repr

/-- Outcome of a Host Notify attempt (17 R378). -/
inductive NotifyEnd where
  | success
  | noFreeBus
  | arbitrationLost
  | notAcknowledged
  | notComplete
  deriving DecidableEq, Repr

/-- A report put to a die's event recorder (19 R407): TYPE, severity, payload. -/
structure Report where
  typ : Nat
  sev : Nat
  payload : Bytes
  /-- The dictionary description file marks the type as single: it never coalesces. -/
  single : Bool
  deriving DecidableEq, Repr

/-- One constructor per row of spec/opcode_table.json. -/
inductive Instr where
  -- Host ports (02, 06)
  -- at a host physical address, which the link's HDM decoders translate (02 R37)
  | cxlMemRead (port link tag hpa : Nat)
  | cxlMemWrite (port link tag hpa : Nat) (data : Line)
  | cxlMemPartialWrite (port link tag hpa : Nat) (data : Line) (be : BitVec 64)
  | class0TokenRefill (port link : Nat)
  | cxlIoRequest (port link : Nat) (tgt : IoTarget) (wr : Option Nat)
  -- Die-to-die fabric (01); lk is 0 for A, 1 for B, 2 for C
  | flitCrcFailure (die lk : Nat)
  | linkRetrain (die lk : Nat)
  /-- `inFlight`: the outstanding requests that are on the link if it goes down. -/
  | linkRetrainEnd (die lk : Nat) (ok : Bool) (inFlight : List Nat)
  | routeHoldEnd (ingress owner : Nat)
  -- Port and link events (02, 14)
  | perstNFall (port : Nat)
  | perstNRise (port : Nat)
  | linkTrainingDone (port link : Nat) (partner : Partner)
  | linkReset (port link : Nat)
  | ideCheckFail (port link : Nat)
  | globalPersistentFlush (port link : Nat)
  | gpfDrainComplete
  -- Mailbox (02)
  | identify (port link : Nat)
  | getEventRecords (port link log : Nat)
  /-- `handles`: the records named, or all of the log when `all` is set. -/
  | clearEventRecords (port link log : Nat) (all : Bool) (handles : List Nat)
  | getEventInterruptPolicy (port link : Nat)
  | setEventInterruptPolicy (port link policy : Nat)
  | getFwInfo (port link : Nat)
  /-- Offsets of Transfer FW are in 128-byte units (18 R389). -/
  | transferFwInitiate (port link : Nat) (data : Bytes)
  | transferFwContinue (port link off : Nat) (data : Bytes)
  | transferFwEnd (port link slot off : Nat) (data : Bytes)
  | activateFwOnline (port link slot : Nat)
  | activateFwOffline (port link slot : Nat)
  | getTimestamp (port link : Nat)
  /-- CXL timestamps are in nanoseconds. -/
  | setTimestamp (port link ns : Nat)
  | getSupportedLogs (port link : Nat)
  | getLog (port link : Nat) (cel : Bool) (off len : Nat)
  | identifyMemoryDevice (port link : Nat)
  | getPartitionInfo (port link : Nat)
  | setPartitionInfo (port link : Nat)
  | getLsa (port link off len : Nat)
  | setLsa (port link off : Nat) (data : Bytes)
  | getHealthInfo (port link : Nat)
  | getAlertConfig (port link : Nat)
  | setAlertConfig (port link cfg : Nat)
  | getShutdownState (port link : Nat)
  | setShutdownState (port link st : Nat)
  /-- `len` in bytes. -/
  | getPoisonList (port link dpa len : Nat)
  | injectPoison (port link dpa : Nat)
  | clearPoison (port link dpa : Nat) (data : Line)
  /-- The whole input payload of Table 02.5. -/
  | dictionaryAccessRead (port link : Nat) (payload : Bytes)
  | dictionaryAccessWrite (port link : Nat) (payload : Bytes)
  /-- The whole input payload of Table 02.6. -/
  | recorderStream (port link : Nat) (payload : Bytes)
  | unsupportedOpcode (port link opcode : Nat)
  -- DOE and SPDM (02, 18)
  | tableAccess (port link entry : Nat)
  | getVersion (port link : Nat)
  | getCapabilities (port link : Nat)
  /-- Bits of the request: 0 ECDSA P-384, 1 SHA-384, 2 secp384r1, 3 AES-256-GCM. -/
  | negotiateAlgorithms (port link algs : Nat)
  | getDigests (port link : Nat)
  | getCertificate (port link slot off len : Nat)
  | challenge (port link slot nonce : Nat)
  /-- `index` 0 asks for the count, 0xFF for every block; `raw` asks for the raw bit stream. -/
  | getMeasurements (port link index nonce : Nat) (raw : Bool)
  | keyExchange (port link slot nonce : Nat)
  | finish (port link : Nat) (verified : Bool)
  | heartbeat (port link : Nat)
  | keyUpdate (port link : Nat)
  | endSession (port link : Nat)
  | ideKm (port link : Nat) (msg : IdeKm)
  -- Tenancies and keys (03)
  | create (o : Origin) (n : Nat)
  | resize (o : Origin) (n : Nat)
  | fence (o : Origin) (n : Nat)
  | unfence (o : Origin) (n : Nat)
  | retire (o : Origin) (n : Nat)
  | rekey (o : Origin) (n : Nat)
  | tenancyFieldWrite (o : Origin) (n sub value : Nat)
  | zeroFillComplete
  | retireDrainEnd (n : Nat)
  | retireTrimEnd (n : Nat)
  | refusalAnswer
  /-- `idx` is the slot's index: 0x3400 + n or 0x3800 + t. -/
  | keyLoad (o : Origin) (idx : Nat) (data : Bytes)
  | keyZeroise (o : Origin) (idx value : Nat)
  | rekeySweepLine (line : SweptLine)
  -- DRAM channels (04); sc is the global subchannel, 2 x global channel + s
  | commandSlot (sc : Nat)
  | pageIdleTimeout (sc rank bank : Nat)
  /-- `bank` is the REFsb bank 0–3 of one chip ID of one global rank. -/
  | refreshDue (sc rank chip bank : Nat)
  | refreshComplete (sc rank chip bank : Nat)
  | rfmCountMax (sc rank bank : Nat)
  | mr4Poll (rank : Nat) (reading : Mr4) (field : Nat)
  /-- `errs`: device positions 0–9 whose symbols are in error. -/
  | dramReadComplete (sc : Nat) (errs : List Nat)
  | retryReadComplete (sc : Nat) (errs : List Nat)
  | partialWriteMerge (sc : Nat) (errs : List Nat)
  /-- `rank`: the rank whose chip select the command carried, none when it was not rank-specific. -/
  | caParityError (ch : Nat) (rank : Option Nat)
  | scrubReadDue (ch : Nat)
  | scrubReadResult (ch : Nat) (errs : List Nat)
  | scrubInitPass (rank : Nat)
  | refreshModeWrite (o : Origin) (ch value : Nat)
  | idleDeepPermitWrite (o : Origin) (die q value : Nat)
  | quadrantIdle (die q : Nat)
  | idleDeepEntry (die q : Nat)
  /-- `checks`, `recals`: the four rank positions of the quadrant, lowest local rank first (05 R129). -/
  | idleDeepExit (die q : Nat) (checks : List WakeCheck) (recals : List WakeRecal)
  -- Training (05)
  /-- `quad`: 4 x die + quadrant; `res`: what its rank positions have come to by the limit, `none`: not
  finished. -/
  | trainingTimeLimit (quad : Nat) (res : List (Option RankTrain))
  /-- `res`: the four rank positions of the quadrant, lowest local rank first. -/
  | trainingDone (die q : Nat) (res : List RankTrain)
  /-- `counts`: oscillator counts of nibbles 0–19. -/
  | oscillatorCheck (rank : Nat) (counts : List Nat)
  /-- `codes`: for each nibble, the codes at which a probe would match, bit c for code c. -/
  | edgeProbe (rank : Nat) (codes : List Nat)
  | checkForced (check : ForcedCheck)
  | recalSlice (sc rank : Nat)
  /-- `bursts`: of the 16 at the slice's code, those that matched for each of the subchannel's nibbles;
  `osc`: oscillator counts of nibbles 0–19 should the recalibration end. -/
  | recalSliceEnd (sc rank : Nat) (bursts osc : List Nat)
  | class3Promotion (sc id : Nat)
  -- Shadowing (07)
  | dirtyNotice (die : Nat)
  | noticeConfirmed (die : Nat)
  | admissionStageEntry (die : Nat)
  | writeAdmitted (die : Nat)
  | snowCountMessage (die : Nat)
  | pumpDispatch (die : Nat)
  | pumpReadDone (die pump : Nat) (res : FlakeRead)
  /-- `fresh`: the block taken from the LUN's free blocks when none is open for filling, as a block
  number (page address without its low 20 bits). -/
  | pumpTransfer (die pump fresh : Nat)
  | unitFillTimeout (die unit : Nat)
  | programStatus (die unit : Nat) (pass : Bool)
  | epochBoundary
  /-- `whole`: false where the AON supply falls within the write, which leaves the slot half written. -/
  | epochSealWrite (die : Nat) (whole : Bool)
  | persistenceArm
  | checkpointStart (o : Origin) (n : Nat)
  | wearHorizonUpdate
  -- Flash (08); lun is 32 x local channel + 4 x CE + LUN
  | operationTimeout (die lun : Nat)
  | eraseStart (die lun blk : Nat)
  | eraseSuspended (die lun : Nat)
  | eraseStatus (die lun : Nat) (pass : Bool)
  /-- `res`: the codewords of the page at the level it was read at. -/
  | pageReadResult (die page : Nat) (res : List PageDecode)
  | gcTrigger (die lun : Nat)
  | relocatePage (die page : Nat)
  | verifyRead (die page : Nat) (res : PageVerify)
  | lunFail (die : Nat) (unit : FlashUnit)
  -- Freeze and thaw (09)
  | pwrfailDetect
  | senseVinLow
  | sledFreezeSignal
  | freezeSnowDrained (die : Nat)
  /-- `whole`: as for EPOCH_SEAL_WRITE. -/
  | freezeSeal (die : Nat) (whole : Bool)
  | freezeAllSealed
  | freezeHoldExit
  | seqsyncRise
  /-- `erased`: outcome of the second erase; `bits`: the most programmed bits that the blank check sees in a
  codeword. -/
  | intentReerase (die lun : Nat) (erased : Bool) (bits : Nat)
  | mapRestoreDone (read : MapRead)
  /-- `torn`: dies whose seal the fall of the AON supply leaves half written; none where it stays. -/
  | recoverySeal (torn : List Nat)
  | restoreFetch (die flake : Nat)
  | fetchComplete (die flake : Nat)
  | restoreFill (die flake : Nat)
  | thawComplete
  | heatHalving
  -- Sparing and healing (10)
  | retireBucketRoll
  /-- `reason`: code of 0x6920+g.06. -/
  | rankRetireTrigger (rank reason : Nat)
  | migrationLine (die : Nat) (errs : List Nat)
  | rebuildLine (die rank : Nat)
  | healPageArrived (die flake : Nat)
  | hibernateEntry (die q : Nat)
  | hibernateRailsOff (die q : Nat)
  | hibernateReturn (die q : Nat)
  -- Battery (11)
  | fullAnchor
  | endOfDischarge
  | energyLimitLoad
  | limitDecayStart
  | limitDecayFloor
  | learnStart (o : Origin)
  | learnAbort (o : Origin)
  | learnScheduledStart
  | learnTail
  | learnTailResume
  | learnCutoff
  | learnAbortEvent (ev : LearnEvent)
  | learnedRecordWrite
  | packRemoved
  | packInserted
  | learnedValueRestore (o : Origin) (data : Bytes)
  -- Power (12)
  | stateTimeLimit
  | railEnable (die : Nat)
  | railPowerGood (die rail : Nat)
  /-- `reason`: code of R.0A. -/
  | railFail (die rail reason : Nat)
  | railRetry (die rail : Nat)
  | railRelease (die : Nat)
  | domainSwitchOff (o : Origin) (die mask : Nat)
  | domainDrainEnd (die dom : Nat)
  | domainDrainTimeout (die dom : Nat)
  | padRelease (o : Origin) (die mask : Nat)
  | wakeAlarm
  | wake (dst : Nat)
  -- Analogue monitor (13)
  | adcTimerFire (die timer : Nat)
  | learnPwmEdge (rising : Bool)
  | entryPending (die entry : Nat)
  /-- `microvolts`: the input at each sample of the burst, kept or not, as the converter saw it (one for a SAR
  conversion), its own errors included; `cycles`: ACLK cycles since the previous entry 0 result. -/
  | conversionComplete (die : Nat) (microvolts : List Int) (cycles : Nat)
  | injectedRequest (o : Origin) (die word : Nat)
  | captureArm (o : Origin) (die value : Nat)
  | dataRegisterRead (o : Origin) (die : Nat)
  | sliceCalibration (die : Nat) (ok : Bool)
  | sliceSwap (die : Nat)
  -- Clocks and resets (14); dom is the clock domain number of Table 14.1
  | pllLossOfLock (die dom : Nat)
  | referenceLoss
  | oscillatorOutOfRange (die : Nat) (sclk : Bool) (kHz : Nat)
  | aonPowerOn
  | deviceTimeSave
  | managementRestart (o : Origin)
  | watchdogTimeout
  | managementRestartReady
  | restartTimeout
  | testReset
  -- Dictionary and field bus (15)
  | objectWrite (o : Origin) (idx sub off : Nat) (data : Bytes)
  | odpRead (h : OdpHead) (idx sub off : Nat)
  | odpOpen (h : OdpHead) (nr : BitVec 128)
  /-- `mac`: bytes 56 to 63 of the frame, byte 56 in the low bits. -/
  | odpClose (h : OdpHead) (sid : Nat) (mac : BitVec 64)
  | sread (h : OdpHead) (sid : Nat) (mac : BitVec 64) (idx sub off : Nat)
  /-- First or only frame of an SWRITE; `total` the transfer's data length, `seg` its SEG bit. -/
  | swrite (h : OdpHead) (sid : Nat) (mac : BitVec 64) (idx sub off total : Nat) (data : Bytes) (seg : Bool)
  | flow (h : OdpHead) (sid : Nat) (mac : BitVec 64) (seqNo : Nat)
  | segmentFrame (h : OdpHead) (sid : Nat) (mac : BitVec 64) (seqNo : Nat) (last : Bool) (data : Bytes)
  | segmentTimeout (id : Nat)
  | chunk (h : OdpHead) (sid : Nat) (mac : BitVec 64) (num : Nat) (data : Bytes)
  | chunkProgressPoll (h : OdpHead) (sid : Nat) (mac : BitVec 64)
  | chunkTokenRefill
  | sync (num : Nat)
  | follow (h : OdpHead) (x : SyncTime) (mac : BitVec 64)
  | macFailure (src sid : Nat)
  | sessionIdleTimeout (sid : Nat)
  | responseSlot
  | txFrameTimeout
  | busOff
  | busOffRecovery
  | rackKeyWrite (o : Origin) (data : Bytes)
  -- Two-wire port (17)
  | twoWireWrite (bytes : Bytes) (fin : WireEnd)
  | twoWireRead (count : Nat) (fin : WireEnd)
  | twoWireReadCommand
  | twoWireWriteCommand
  | attnClear
  | sclStuckTimeout
  | hostNotifyRetry
  -- Firmware (18)
  | transferDescriptorWrite (o : Origin) (data : Bytes)
  | transferAbort (o : Origin)
  | imageWrite (o : Origin) (off : Nat) (data : Bytes)
  | activationArm (o : Origin) (time : Nat)
  | activationAlarm
  | signedReportRead (o : Origin) (len : Nat)
  -- Event recorder (19)
  | eventReport (die : Nat) (r : Report)
  | recordWrite (die : Nat)
  | recordRead (o : Origin) (die len : Nat)
  -- Power and link events
  | aonPowerLoss
  | inputPowerReturn
  | corePllLock (die : Nat)
  | pllRelockEnd (die dom : Nat) (ok : Bool)
  | hostLinkDown (port link : Nat)
  /-- `tx`: the node was the transmitter; `amount`: the step of the standard's counter. -/
  | busError (tx : Bool) (amount : Nat)
  /-- `own`: the frame bears the node's own source number. -/
  | frameIgnored (own : Bool)
  | hostNotifyAttemptEnd (res : NotifyEnd)
  /-- Read-back of a page of the boot region; `failed`: those of flash channels 0 and 8 whose copy does not
  match. -/
  | pageReadBack (failed : List Nat)
  deriving DecidableEq, Repr

end Sys2Proof
end

