-- ==== Sys2Proof/WellFormed.lean ====
section
/-! DEFINITION. Well-formed commands: every operand lies in the range that the largest variant of
the part gives it. A command that names hardware the variant or the board lacks is well-formed; its
meaning changes nothing but what the spec says of absent hardware. -/
namespace Sys2Proof

/-- Global port 0–15, link of a port 0–3 (01 Table 01.6). -/
def okPort (v : Nat) : Bool := decide (v < 16)
def okLink (v : Nat) : Bool := decide (v < 4)
/-- Die 0–7, quadrant 0–3, channel 0–63, subchannel 0–127, rank 0–127 (01 Table 01.5). -/
def okDie (v : Nat) : Bool := decide (v < 8)
def okQuad (v : Nat) : Bool := decide (v < 4)
def okChan (v : Nat) : Bool := decide (v < 64)
def okSub (v : Nat) : Bool := decide (v < 128)
def okRank (v : Nat) : Bool := decide (v < 128)
def okRankOpt : Option Nat → Bool
  | none => true
  | some r => okRank r
/-- Bank of a rank: chip ID, bank group, bank (04 Table 04.2). -/
def okBank (v : Nat) : Bool := decide (v < 256)
/-- A line's device physical address: 48 bits, on a line (03). -/
def okDpa (v : Nat) : Bool := decide (v < 2 ^ 48) && decide (v % 64 = 0)
/-- A line's host physical address: the 52 bits that CXL carries, on a line (02 R37). -/
def okHpa (v : Nat) : Bool := decide (v < 2 ^ 52) && decide (v % 64 = 0)
/-- A flake number (03 R65). -/
def okFlake (v : Nat) : Bool := decide (v < 2 ^ 34)
/-- A glacier page address (08 Table 08.2), and a block number. -/
def okPage (v : Nat) : Bool := decide (v < 2 ^ 48) && decide (v % 256 = 0)
def okBlk (v : Nat) : Bool := decide (v < 2 ^ 28)
/-- The four codewords of a page (08 R190). -/
def okWords (l : List PageDecode) : Bool := decide (l.length = 4)
/-- LUN of a die: 32 x channel + 4 x chip enable + LUN (08 Table 08.1). -/
def okLun (v : Nat) : Bool := decide (v < 512)
/-- A tenancy number (03 R66); a key slot's index (03 Table 03.7). -/
def okTen (v : Nat) : Bool := decide (v < 1024)
def okKeyIdx (v : Nat) : Bool :=
  (decide (0x3400 ≤ v) && decide (v < 0x3800)) || (decide (0x3800 ≤ v) && decide (v < 0x3840))
/-- Clock domain 1–25 and power domain 1–30 (01 Table 01.1). -/
def okClock (v : Nat) : Bool := decide (1 ≤ v) && decide (v ≤ 25)
def okDomain (v : Nat) : Bool := decide (1 ≤ v) && decide (v ≤ 30)
/-- A session number of an ODP header (15 Table 15.7). -/
def okSid (v : Nat) : Bool := decide (v < 32)
def okU8 (v : Nat) : Bool := decide (v < 2 ^ 8)
def okU16 (v : Nat) : Bool := decide (v < 2 ^ 16)
def okU32 (v : Nat) : Bool := decide (v < 2 ^ 32)
def okU64 (v : Nat) : Bool := decide (v < 2 ^ 64)
def okTime (v : Nat) : Bool := decide (v < 2 ^ 48)
/-- Bytes of a payload or of data written: at most 16 MiB (15 Table 15.1). -/
def okBytes (b : Bytes) : Bool := decide (b.length ≤ 2 ^ 24)
/-- Numbers in a list, rising. -/
def rising : List Nat → Bool
  | a :: b :: l => decide (a < b) && rising (b :: l)
  | _ => true
/-- Device positions in error: 0–9, rising (04 R99). -/
def okErrs (l : List Nat) : Bool := rising l && l.all fun p => decide (p < 10)
/-- Lines of a flake, rising. -/
def okLines (l : List Nat) : Bool := rising l && l.all fun p => decide (p < 256)
/-- Handles of event records. -/
def okHandles (l : List Nat) : Bool := l.all okU16
/-- A sweep over n codes, with 16 bursts a code (05 R117). -/
def okSweep (n : Nat) (l : Sweep) : Bool := decide (l.length = n) && l.all fun b => decide (b ≤ 16)
def EyeSweeps.wf (e : EyeSweeps) : Bool := okSweep 128 e.delay1 && okSweep 126 e.ref && okSweep 128 e.delay3
/-- Density and stack height of Table 04.1. -/
def okDev (density stack : Nat) : Bool :=
  (decide (density = 16) || decide (density = 24) || decide (density = 32) ||
      decide (density = 64)) &&
    (decide (stack = 1) || decide (stack = 2) || decide (stack = 4) || decide (stack = 8))
/-- Oscillator counts of the 20 nibbles (05 R121). -/
def okCounts (l : List Nat) : Bool := decide (l.length = 20) && l.all okU16
/-- Probe answers of the 20 nibbles over codes 0–127 (05 R122). -/
def okProbe (l : List Nat) : Bool := decide (l.length = 20) && l.all fun w => decide (w < 2 ^ 128)
def Attempt.wf : Attempt → Bool
  | .silent | .unidentified => true
  | .levellingFails density stack | .gateFails density stack => okDev density stack
  | .swept density stack nibbles _ osc =>
    okDev density stack && decide (nibbles.length = 20) && okCounts osc &&
      nibbles.all fun x => x.read.wf && x.write.wf
def RankTrain.wf (x : RankTrain) : Bool := x.first.wf && x.again.wf
def Check.wf : Check → Bool
  | .osc counts => okCounts counts
  | .probe codes => okProbe codes
def WakeCheck.wf (c : WakeCheck) : Bool :=
  okCounts c.osc && okProbe c.probe
def WakeRecal.wf (c : WakeRecal) : Bool :=
  okCounts c.after && decide (c.delay.length = 20) && decide (c.ref.length = 20) &&
    c.delay.all (okSweep 49) && c.ref.all (okSweep 17)
def ForcedCheck.wf (c : ForcedCheck) : Bool := okRank c.rank && c.check.wf
def SweptLine.wf (l : SweptLine) : Bool := okTen l.tenancy && okErrs l.errs
def FlakeRead.wf (f : FlakeRead) : Bool :=
  okLines f.bad && decide (f.corrected.Pairwise (·.1 < ·.1)) &&
    (f.corrected.all fun p => decide (p.1 < 256) && decide (p.2 < 10)) &&
    okLines f.second && f.second.all fun i => !f.bad.elem i
def PageVerify.wf (v : PageVerify) : Bool := decide (v.levels ≤ 8) && okWords v.words
def FlashUnit.wf : FlashUnit → Bool
  | .lun l => okLun l
  | .channel f => decide (f < 16)
def MapRead.wf (r : MapRead) : Bool := okDie r.die && r.bad.all okPage && r.retried.all okPage
/-- Dies in a list, rising. -/
def okDies (l : List Nat) : Bool := rising l && l.all okDie
/-- The four rank positions of a quadrant (05 R119). -/
def okTrain (l : List RankTrain) : Bool := decide (l.length = 4) && l.all (·.wf)

def OdpHead.wf (h : OdpHead) : Bool :=
  decide (h.prio < 8) && decide (1 ≤ h.src) && decide (h.src ≤ 126) && okU8 h.tag

def Origin.wf : Origin → Bool
  | .mailbox port link => okPort port && okLink link
  | .fieldBus h sid => h.wf && okSid sid
  | .twoWire => true

def Partner.wf (p : Partner) : Bool :=
  decide (p.maxGts = 0) || decide (p.maxGts = 32) || decide (p.maxGts = 64) ||
    decide (p.maxGts = 128)

def IoTarget.wf : IoTarget → Bool
  | .hdm dec field => decide (dec < 4) && decide (field < 4)
  | .msix vec => decide (vec < 16)
  | _ => true

def Report.wf (r : Report) : Bool :=
  okU16 r.typ && decide (r.sev < 4) && decide (r.payload.length ≤ 240)

/-- Every operand of a command lies in its range. -/
def Instr.wf : Instr → Bool
  | .cxlMemRead port link tag hpa => okPort port && okLink link && okU16 tag && okHpa hpa
  | .cxlMemWrite port link tag hpa _ => okPort port && okLink link && okU16 tag && okHpa hpa
  | .cxlMemPartialWrite port link tag hpa _ _ =>
    okPort port && okLink link && okU16 tag && okHpa hpa
  | .class0TokenRefill port link => okPort port && okLink link
  | .cxlIoRequest port link tgt _ => okPort port && okLink link && tgt.wf
  | .flitCrcFailure die lk => okDie die && decide (lk < 3)
  | .linkRetrain die lk => okDie die && decide (lk < 3)
  | .linkRetrainEnd die lk _ _ => okDie die && decide (lk < 3)
  | .routeHoldEnd ingress owner => okDie ingress && okDie owner
  | .perstNFall port => okPort port
  | .perstNRise port => okPort port
  | .linkTrainingDone port link partner => okPort port && okLink link && partner.wf
  | .linkReset port link => okPort port && okLink link
  | .ideCheckFail port link => okPort port && okLink link
  | .globalPersistentFlush port link => okPort port && okLink link
  | .gpfDrainComplete => true
  | .identify port link => okPort port && okLink link
  | .getEventRecords port link log => okPort port && okLink link && decide (log < 4)
  | .clearEventRecords port link log _ handles =>
    okPort port && okLink link && decide (log < 4) && okHandles handles
  | .getEventInterruptPolicy port link => okPort port && okLink link
  | .setEventInterruptPolicy port link policy => okPort port && okLink link && okU32 policy
  | .getFwInfo port link => okPort port && okLink link
  | .transferFwInitiate port link data => okPort port && okLink link && okBytes data
  | .transferFwContinue port link off data =>
    okPort port && okLink link && okU32 off && okBytes data
  | .transferFwEnd port link slot off data =>
    okPort port && okLink link && okU8 slot && okU32 off && okBytes data
  | .activateFwOnline port link slot => okPort port && okLink link && okU8 slot
  | .activateFwOffline port link slot => okPort port && okLink link && okU8 slot
  | .getTimestamp port link => okPort port && okLink link
  | .setTimestamp port link ns => okPort port && okLink link && okU64 ns
  | .getSupportedLogs port link => okPort port && okLink link
  | .getLog port link _ off len => okPort port && okLink link && okU32 off && okU32 len
  | .identifyMemoryDevice port link => okPort port && okLink link
  | .getPartitionInfo port link => okPort port && okLink link
  | .setPartitionInfo port link => okPort port && okLink link
  | .getLsa port link off len => okPort port && okLink link && okU32 off && okU32 len
  | .setLsa port link off data => okPort port && okLink link && okU32 off && okBytes data
  | .getHealthInfo port link => okPort port && okLink link
  | .getAlertConfig port link => okPort port && okLink link
  | .setAlertConfig port link cfg => okPort port && okLink link && okU64 cfg
  | .getShutdownState port link => okPort port && okLink link
  | .setShutdownState port link st => okPort port && okLink link && okU8 st
  | .getPoisonList port link dpa len => okPort port && okLink link && okDpa dpa && okU32 len
  | .injectPoison port link dpa => okPort port && okLink link && okDpa dpa
  | .clearPoison port link dpa _ => okPort port && okLink link && okDpa dpa
  | .dictionaryAccessRead port link payload => okPort port && okLink link && okBytes payload
  | .dictionaryAccessWrite port link payload => okPort port && okLink link && okBytes payload
  | .recorderStream port link payload => okPort port && okLink link && okBytes payload
  | .unsupportedOpcode port link opcode => okPort port && okLink link && okU16 opcode
  | .tableAccess port link entry => okPort port && okLink link && okU16 entry
  | .getVersion port link => okPort port && okLink link
  | .getCapabilities port link => okPort port && okLink link
  | .negotiateAlgorithms port link _ => okPort port && okLink link
  | .getDigests port link => okPort port && okLink link
  | .getCertificate port link slot off len =>
    okPort port && okLink link && okU8 slot && okU32 off && okU32 len
  | .challenge port link slot _ => okPort port && okLink link && okU8 slot
  | .getMeasurements port link _ _ _ => okPort port && okLink link
  | .keyExchange port link slot _ => okPort port && okLink link && okU8 slot
  | .finish port link _ => okPort port && okLink link
  | .heartbeat port link => okPort port && okLink link
  | .keyUpdate port link => okPort port && okLink link
  | .endSession port link => okPort port && okLink link
  | .ideKm port link _ => okPort port && okLink link
  | .create o n => o.wf && okTen n
  | .resize o n => o.wf && okTen n
  | .fence o n => o.wf && okTen n
  | .unfence o n => o.wf && okTen n
  | .retire o n => o.wf && okTen n
  | .rekey o n => o.wf && okTen n
  | .tenancyFieldWrite o n sub value => o.wf && okTen n && okU8 sub && okU64 value
  | .zeroFillComplete => true
  | .retireDrainEnd n => okTen n
  | .retireTrimEnd n => okTen n
  | .refusalAnswer => true
  | .keyLoad o idx data => o.wf && okKeyIdx idx && okBytes data
  | .keyZeroise o idx value => o.wf && okKeyIdx idx && okU8 value
  | .rekeySweepLine line => line.wf
  | .commandSlot sc => okSub sc
  | .pageIdleTimeout sc rank bank => okSub sc && decide (rank < 2) && okBank bank
  | .refreshDue sc rank chip bank =>
    okSub sc && okRank rank && decide (chip < 8) && decide (bank < 4)
  | .refreshComplete sc rank chip bank =>
    okSub sc && okRank rank && decide (chip < 8) && decide (bank < 4)
  | .rfmCountMax sc rank bank => okSub sc && decide (rank < 2) && okBank bank
  | .mr4Poll rank _ field => okRank rank && okU8 field
  | .dramReadComplete sc errs => okSub sc && okErrs errs
  | .retryReadComplete sc errs => okSub sc && okErrs errs
  | .partialWriteMerge sc errs => okSub sc && okErrs errs
  | .caParityError ch rank => okChan ch && okRankOpt rank
  | .scrubReadDue ch => okChan ch
  | .scrubReadResult ch errs => okChan ch && okErrs errs
  | .scrubInitPass rank => okRank rank
  | .refreshModeWrite o ch value => o.wf && okChan ch && okU8 value
  | .idleDeepPermitWrite o die q value => o.wf && okDie die && okQuad q && okU8 value
  | .quadrantIdle die q => okDie die && okQuad q
  | .idleDeepEntry die q => okDie die && okQuad q
  | .idleDeepExit die q checks recals =>
    okDie die && okQuad q && decide (checks.length = 4) && checks.all (·.wf) && decide (recals.length = 4) &&
      recals.all (·.wf)
  | .trainingTimeLimit quad res =>
    decide (quad < 32) && decide (res.length = 4) && res.all fun x => x.all (·.wf)
  | .trainingDone die q res => okDie die && okQuad q && okTrain res
  | .oscillatorCheck rank counts => okRank rank && okCounts counts
  | .edgeProbe rank codes => okRank rank && okProbe codes
  | .checkForced check => check.wf
  | .recalSlice sc rank => okSub sc && okRank rank
  | .recalSliceEnd sc rank bursts osc => okSub sc && okRank rank && okSweep 10 bursts && okCounts osc
  | .class3Promotion sc _ => okSub sc
  | .dirtyNotice die => okDie die
  | .noticeConfirmed die => okDie die
  | .admissionStageEntry die => okDie die
  | .writeAdmitted die => okDie die
  | .snowCountMessage die => okDie die
  | .pumpDispatch die => okDie die
  | .pumpReadDone die pump res => okDie die && decide (pump < 128) && res.wf
  | .pumpTransfer die pump fresh => okDie die && decide (pump < 128) && okBlk fresh
  | .unitFillTimeout die _ => okDie die
  | .programStatus die _ _ => okDie die
  | .epochBoundary => true
  | .epochSealWrite die _ => okDie die
  | .persistenceArm => true
  | .checkpointStart o n => o.wf && okTen n
  | .wearHorizonUpdate => true
  | .operationTimeout die lun => okDie die && okLun lun
  | .eraseStart die lun blk => okDie die && okLun lun && okBlk blk
  | .eraseSuspended die lun => okDie die && okLun lun
  | .eraseStatus die lun _ => okDie die && okLun lun
  | .pageReadResult die page res => okDie die && okPage page && okWords res
  | .gcTrigger die lun => okDie die && okLun lun
  | .relocatePage die page => okDie die && okPage page
  | .verifyRead die page res => okDie die && okPage page && res.wf
  | .lunFail die unit => okDie die && unit.wf
  | .pwrfailDetect => true
  | .senseVinLow => true
  | .sledFreezeSignal => true
  | .freezeSnowDrained die => okDie die
  | .freezeSeal die _ => okDie die
  | .freezeAllSealed => true
  | .freezeHoldExit => true
  | .seqsyncRise => true
  | .intentReerase die lun _ bits => okDie die && okLun lun && decide (bits ≤ 32768)
  | .mapRestoreDone read => read.wf
  | .recoverySeal torn => okDies torn
  | .restoreFetch die flake => okDie die && okFlake flake
  | .fetchComplete die flake => okDie die && okFlake flake
  | .restoreFill die flake => okDie die && okFlake flake
  | .thawComplete => true
  | .heatHalving => true
  | .retireBucketRoll => true
  | .rankRetireTrigger rank reason => okRank rank && decide (1 ≤ reason) && decide (reason ≤ 7)
  | .migrationLine die errs => okDie die && okErrs errs
  | .rebuildLine die rank => okDie die && okRank rank
  | .healPageArrived die flake => okDie die && okFlake flake
  | .hibernateEntry die q => okDie die && okQuad q
  | .hibernateRailsOff die q => okDie die && okQuad q
  | .hibernateReturn die q => okDie die && okQuad q
  | .fullAnchor => true
  | .endOfDischarge => true
  | .energyLimitLoad => true
  | .limitDecayStart => true
  | .limitDecayFloor => true
  | .learnStart o => o.wf
  | .learnAbort o => o.wf
  | .learnScheduledStart => true
  | .learnTail => true
  | .learnTailResume => true
  | .learnCutoff => true
  | .learnAbortEvent _ => true
  | .learnedRecordWrite => true
  | .packRemoved => true
  | .packInserted => true
  | .learnedValueRestore o data => o.wf && okBytes data
  | .stateTimeLimit => true
  | .railEnable die => okDie die
  | .railPowerGood die rail => okDie die && decide (rail < 24)
  | .railFail die rail reason =>
    okDie die && decide (rail < 24) && decide (1 ≤ reason) && decide (reason ≤ 5)
  | .railRetry die rail => okDie die && decide (rail < 24)
  | .railRelease die => okDie die
  | .domainSwitchOff o die mask => o.wf && okDie die && okU32 mask
  | .domainDrainEnd die dom => okDie die && okDomain dom
  | .domainDrainTimeout die dom => okDie die && okDomain dom
  | .padRelease o die mask => o.wf && okDie die && okU32 mask
  | .wakeAlarm => true
  | .wake dst => decide (dst < 127)
  | .adcTimerFire die timer => okDie die && decide (timer < 4)
  | .learnPwmEdge _ => true
  | .entryPending die entry => okDie die && decide (entry < 16)
  | .conversionComplete die samples _ => okDie die && decide (samples.length ≤ 4096 * 4096)
  | .injectedRequest o die word => o.wf && okDie die && okU32 word
  | .captureArm o die value => o.wf && okDie die && okU8 value
  | .dataRegisterRead o die => o.wf && okDie die
  | .sliceCalibration die _ => okDie die
  | .sliceSwap die => okDie die
  | .pllLossOfLock die dom => okDie die && okClock dom
  | .referenceLoss => true
  | .oscillatorOutOfRange die _ _ => okDie die
  | .aonPowerOn => true
  | .deviceTimeSave => true
  | .managementRestart o => o.wf
  | .watchdogTimeout => true
  | .managementRestartReady => true
  | .restartTimeout => true
  | .testReset => true
  | .objectWrite o idx sub off data => o.wf && okU16 idx && okU8 sub && okU32 off && okBytes data
  | .odpRead h idx sub off => h.wf && okU16 idx && okU8 sub && okU32 off
  | .odpOpen h _ => h.wf
  | .odpClose h sid _ => h.wf && okSid sid
  | .sread h sid _ idx sub off =>
    h.wf && okSid sid && okU16 idx && okU8 sub && okU32 off
  | .swrite h sid _ idx sub off total data _ =>
    h.wf && okSid sid && okU16 idx && okU8 sub && okU32 off && okU32 total &&
    okBytes data
  | .flow h sid _ seqNo => h.wf && okSid sid && okU16 seqNo
  | .segmentFrame h sid _ seqNo _ data =>
    h.wf && okSid sid && okU16 seqNo && okBytes data
  | .segmentTimeout _ => true
  | .chunk h sid _ num data => h.wf && okSid sid && okU32 num && okBytes data
  | .chunkProgressPoll h sid _ => h.wf && okSid sid
  | .chunkTokenRefill => true
  | .sync num => okU16 num
  | .follow h x _ => h.wf && okU16 x.num && okTime x.rackTime
  | .macFailure src sid => decide (src < 128) && okSid sid
  | .sessionIdleTimeout sid => decide (sid < 4)
  | .responseSlot => true
  | .txFrameTimeout => true
  | .busOff => true
  | .busOffRecovery => true
  | .rackKeyWrite o data => o.wf && okBytes data
  | .twoWireWrite bytes _ => okBytes bytes
  | .twoWireRead count _ => decide (count ≤ 256)
  | .twoWireReadCommand => true
  | .twoWireWriteCommand => true
  | .attnClear => true
  | .sclStuckTimeout => true
  | .hostNotifyRetry => true
  | .transferDescriptorWrite o data => o.wf && okBytes data
  | .transferAbort o => o.wf
  | .imageWrite o off data => o.wf && okU32 off && okBytes data
  | .activationArm o time => o.wf && okTime time
  | .activationAlarm => true
  | .signedReportRead o len => o.wf && okU32 len
  | .eventReport die r => okDie die && r.wf
  | .recordWrite die => okDie die
  | .recordRead o die len => o.wf && okDie die && okU32 len
  | .aonPowerLoss => true
  | .inputPowerReturn => true
  | .corePllLock die => okDie die
  | .pllRelockEnd die dom _ => okDie die && okClock dom
  | .hostLinkDown port link => okPort port && okLink link
  | .busError _ amount => decide (amount ≤ 8)
  | .frameIgnored _ => true
  | .hostNotifyAttemptEnd _ => true
  | .pageReadBack failed => rising failed && failed.all fun f => decide (f = 0) || decide (f = 8)

end Sys2Proof
end

