-- ==== Sys2Proof/Decode.lean ====
section
/-! DEFINITION. The command that a word spells by the opcode table's bits. The table gives no row of
this block any bits ("fields" is empty in every row), so no word spells a command. -/
namespace Sys2Proof

/-- The command of a word: none, for no row of the table has bits. -/
def decodeTableWord (_nbits _w : Nat) : Option Instr := none

end Sys2Proof
end

