-- ==== Sys2Proof/Config.lean ====
section
/-! DEFINITION. What the spec leaves to a published standard, to the dictionary description file, to
manufacture, or open: constants without a body, so that nothing can be proved of their values, and
the plain figures of the spec's constant tables. -/
namespace Sys2Proof.Config

/-- A value the spec leaves open, by the number of the draw (log 7). -/
opaque freeNat : Nat → Nat

/-- 64 bytes the spec leaves open, by the number of the draw (log 7, log 8). -/
opaque freeLine : Nat → Line

/-- What a line stored under one key decrypts to under another: key in use, key stored under (none
for an unkeyed line), tweak (line address) and the plaintext stored (03 R74, log 5). -/
opaque garble : BitVec 512 → Option (BitVec 512) → Nat → Line → Line

/-- The device key, which never leaves the security engine (03 R74; log 5). -/
opaque deviceKey : BitVec 512

/-- AES-CMAC of NIST SP 800-38B, key and message; byte i of the tag is bits 8i + 7 to 8i (15 R354, R355, R360; log 6). -/
opaque aesCmac : Bytes → Bytes → BitVec 128

/-- SHA-384 (18, log 6). -/
opaque sha384 : Bytes → BitVec 384

/-- ECDSA P-384 under the signing key of an index: digest and signature bytes (18 R394, log 6). -/
opaque ecdsaVerify : Nat → BitVec 384 → Bytes → Bool

/-- ECDSA P-384 signature by the attestation key (18 R399, R400; log 6). -/
opaque attest : BitVec 384 → Bytes

/-- AES-256-GCM opening under an image key: nonce, associated data, tag, ciphertext; none when the
tag fails (18 R382, log 6). -/
opaque gcmOpen : Nat → Bytes → Bytes → Bytes → Bytes → Option Bytes

/-- Certificate chain of slot 0 (18 R399), as manufactured. -/
opaque certChain : Bytes

/-- Digest of the boot ROM, fused at manufacture (18 Table 18.6). -/
opaque romDigest : BitVec 384

/-- Digests of the image that the package leaves manufacture with, by measurement slot (18 Table 18.6,
log 15). -/
opaque factoryDigest : Nat → BitVec 384

/-- Ledger contents as bytes, in the ledgers' own format, by measurement slot: numeric objects and
STRING or DOMAIN objects (18 Table 18.6, slots 6 to 9; log 15). -/
opaque ledgerBytes : Nat → List Nat → Sparse Nat → Sparse Bytes → Bytes

/-- Low byte of the TYPE of a record that the dictionary description file fixes (19 R403, log 9),
by cause. -/
opaque recordLow : Nat → Byte

/-- Whether a report of a TYPE is an event of 02 Table 02.7, and of which type: 1 General Media, 2 DRAM, 3 Memory
Module, 4 Vendor-defined; else none (the type list is the description file's, 19 R403; log 9). -/
opaque reportKind : Nat → Nat

/-- Record UUID of a record type of the CXL specification, 1 to 3 as in `reportKind` (02 Table 02.7; log 18). -/
opaque standardUuid : Nat → Bytes

/-- Payload of such a record, by cause and arguments (19 R403, log 9). -/
opaque recordPayload : Nat → List Nat → Bytes

/-- The dictionary description file marks records of the cause as single (19 R407, log 9). -/
opaque recordSingle : Nat → Bool

/-- A temperature between two tenths of a degree, from its thermistor code and B constant, is taken as the upper one:
11 R266 gives its formula and no rounding (log 7). -/
opaque thermUp : Nat → Nat → Bool

/-- Duty cycle that the learn regulator gives LEARN_PWM from the measured current in mA, the learn current in mA and
its present duty cycle: 11 R276 gives no control law (log 7). -/
opaque learnDuty : Int → Nat → Nat → Nat

/-- Value of a register that the PCIe or CXL specification requires (02 R37; log 7). -/
opaque standardRegister : Nat → Nat

/-- Bytes of the Command Effects Log of a realm with every command or the tenant's alone (02
Table 02.3; its form is CXL's own; log 7). -/
opaque commandEffectsLog : Bool → Bytes

/-- 256-byte ONFI parameter page of a device, by its identity (08 F.10). -/
opaque onfiPage : Nat → Bytes

/-- Whether a loss of the AON supply falls within a write of the learned record, by the number of the draw
(11 R279, log 131). -/
opaque cutsRecord : Nat → Bool

/-- Device positions in error at a read that a freeze's drain makes, by the number of the draw: no command brings them
(04 R99; log 162). -/
opaque drainErrs : Nat → List Nat

/-- Whether a page of a boot slot's copy decodes at no level as the boot ROM reads it, by the number of the draw, the flash
channel, the slot and the page: no command brings it (08 R200, R211; log 179). -/
opaque bootPageBad : Nat → Nat → Nat → Nat → Bool

/-- Drift of a nibble whose oscillator count, now or at its calibration, is 0: 05 R121 divides by it (log 126). -/
opaque driftUnstated : Nat → Nat → Int

/-- Rated figures of the spec's constant tables, by number of dies. -/
def tdpWatts (dies : Nat) : Nat := 95 * dies / 2

/-- 20 Table 20.7, 09 0x6800.03: freeze power by variant, W. -/
def freezeWatts (dies : Nat) : Nat := if dies ≤ 2 then 138 else if dies ≤ 4 then 275 else 550

/-- 20 R423: throttle thresholds in tenths of a degree, and 20 R425. -/
def throttleOn : Int := 1000
def throttleOff : Int := 970
def fatalTemp : Int := 1050

/-- 07 R160: pump cycle bound t_p in microseconds. -/
def pumpCycleUs : Nat := 2500

/-- 06 R145 Table 06.5: the class 0 bound in nanoseconds at h hops. -/
def class0Bound (h : Nat) : Nat := 320 + 20 * h

/-- 09 Table 09.2: constant part of t0, microseconds. -/
def freezeConstUs : Nat := 40000

end Sys2Proof.Config
end

