-- ==== Sys2Proof/Machine/State.lean ====
section
/-! DEFINITION. The state of the SW74 block as plain data: one structure per chapter of the spec,
the queue of waiting commands, and the state after reset. A `Sparse` table lists the entries that
differ from its default, keys rising; the default is named beside each field. -/
namespace Sys2Proof.Machine

/-- Why the block would stop. No command of this model ends in a fault: the spec answers every
error with a response, a record, a flag or a counter (INVENTORY.md, Faults). -/
inductive Fault where
  /-- A stored table lost its canonical form. Nothing raises it; safe. -/
  | brokenTable
  deriving DecidableEq, Repr

/-- Why a command has no meaning. -/
inductive Refusal where
  /-- The command's meaning is not written yet; raised by an arm of exec; safe. -/
  | notModelled (mnemonic : String)
  deriving DecidableEq, Repr

/-- 00 R2: the three variants. -/
inductive Variant where
  | sw7402 | sw7404 | sw7408
  deriving DecidableEq, Repr

/-- A rank's devices (04 Table 04.1): density in Gb and stack height. -/
structure RankDev where
  density : Nat
  stack : Nat
  deriving DecidableEq, Repr

/-- The NAND device of a flash channel (08 Table 08.1, R185). -/
structure NandDev where
  /-- ONFI 5.1 with NV-LPDDR4 signalling, fastest transfer rate in MT/s, channel width in bits. -/
  nvLpddr4 : Bool
  mts : Nat
  width : Nat
  /-- Bits per cell (3 TLC, 4 QLC), whole wordlines programmed in one shot, and the operations of Table 08.1. -/
  bits : Nat
  oneShot : Bool
  ops : Bool
  /-- Data and spare bytes of a page. -/
  dataBytes : Nat
  spareBytes : Nat
  /-- Worst tPROG, tR and erase suspend latency in microseconds. -/
  tProg : Nat
  tRead : Nat
  tSuspend : Nat
  planes : Nat
  blocksPerPlane : Nat
  pagesPerBlock : Nat
  ces : Nat
  lunsPerCe : Nat
  /-- Identity of the ONFI parameter page. -/
  onfiId : Nat
  /-- Suspensions an erase admits. -/
  suspendLimit : Nat
  /-- The channel passes interface training (R184). -/
  trains : Bool
  /-- Blocks with factory marks: LUN number (4 x CE + LUN) and block number plane x blocks + block. -/
  factoryBad : List (Nat × Nat)
  deriving DecidableEq, Repr

/-- What is soldered and strapped: fixed while the block lives (log 2). -/
structure Build where
  variant : Variant
  /-- 02 R38: device serial number. -/
  serial : Nat
  /-- Rank devices by global rank; absent where unlisted. -/
  ranks : Sparse RankDev
  /-- NAND by global flash channel; absent where unlisted. -/
  nand : Sparse NandDev
  /-- Refresh management of a rank's devices: RAAIMT and RAAMMT of their mode registers; absent where they
  require none (04 R95). -/
  rfm : Sparse (Nat × Nat)
  /-- NODE[6:0] (15 R348) and ADDR[2:0] (17 R370). -/
  node : Nat
  addr : Nat
  deriving DecidableEq, Repr

/-- The AON domain and the input pins it watches (09 R213, 12 R302, 14 R322). -/
structure Aon where
  /-- The AON supply is present (12 Table 12.3, Off when false). -/
  on : Bool
  /-- Nanoseconds since reset: the model's own clock (log 3). -/
  now : Nat
  /-- 48-bit device time in microseconds (14 R322). -/
  deviceTime : Nat
  /-- Microseconds of offset still to slew out (15 R360), and the slew's phase in microseconds. -/
  slewLeft : Int
  slewPhase : Nat
  /-- Device time beyond whole microseconds while it runs on the 32.768 kHz clock, in 1/512 (14 R322). -/
  rtcFrac : Nat
  /-- Wake events stored since state 14 was entered, as causes of 0x7101.04 (12 R303). -/
  wakeStored : List Nat
  /-- PWRFAIL_N is low; SENSE_VIN is below its threshold (09 R213). -/
  pwrfailLow : Bool
  senseLow : Bool
  /-- The freeze-hold hold time is running (09 R227). -/
  holdRunning : Bool
  /-- `now` at the last accepted rack time (02 R41). -/
  rackSyncAt : Option Nat
  /-- Device time last written to die 0's ledger (14 R323). -/
  savedTime : Nat
  deriving DecidableEq, Repr

/-- Who asked for a dictionary operation: its path, and the header fields that a field-bus answer
repeats (15 R351). -/
structure Caller where
  origin : Origin
  head : OdpHead
  /-- Its mailbox has been reset since: nothing is answered (14 Table 14.3). -/
  gone : Bool := false
  deriving DecidableEq, Repr

/-- A port domain or debug domain asked to switch off, and who waits for the answer (12 R298). -/
structure Drain where
  die : Nat
  /-- Domain number 1–30. -/
  dom : Nat
  caller : Caller
  /-- Drained, or of the port that the write came by: it switches off once the answer has left. -/
  held : Bool
  deriving DecidableEq, Repr

/-- The supervisors (12). Rail states and reasons are objects R.09–R.0C. -/
structure Seq where
  /-- Sequencer state 0–15 (Table 12.1). -/
  st : Nat
  /-- Dies that hold SEQSYNC low (R284, R285). -/
  holds : List Nat
  /-- Rail configurations R.01–R.08 in force, as state 1 took them from the ledger (R304): object keys
  and values that differ from the default. -/
  cfg : Sparse Nat
  /-- Dies whose rails are being released in reverse order (R295). -/
  release : List Nat
  drains : List Drain
  /-- Pad groups latched, by die, bit k for domain k + 1 (R300). -/
  pads : Sparse Nat
  /-- Dies whose core PLL has locked since the package reset (13 R308). -/
  locked : List Nat
  /-- The state in which a power fail or a fault met the package (09 Table 09.5, 12 R287, R297). -/
  reached : Nat
  /-- The lead die has lost its core or PLL rail (12 R294). -/
  leadDead : Bool
  /-- Dies that stopped working, as die 0's ledger records them until the next thaw (10 R263). -/
  lostDies : List Nat
  deriving DecidableEq, Repr

/-- A die-to-die link (01 R12, Table 01.4). -/
structure DieLink where
  /-- 0 not bonded, 1 up, 2 retraining, 3 down. -/
  st : Nat
  /-- Flits replayed in the current 1 ms window, and `now` when the window began. -/
  replays : Nat
  since : Nat
  /-- Retrains failed in succession. -/
  fails : Nat
  /-- It went down with its rail, and returns with it (02 R51, 12 R294). -/
  cut : Bool
  deriving DecidableEq, Repr

/-- The key a line is stored under or a request was admitted with: slot kind (transit or home),
slot number and generation (03 R72, R76). -/
structure KeyRef where
  transit : Bool
  slot : Nat
  gen : Nat
  deriving DecidableEq, Repr

/-- What a request does. -/
inductive ReqOp where
  | read
  | write
  | partialWrite
  /-- Clear Poison's 64-byte write and Inject Poison's poison write (02 R46, R47). -/
  | clearPoison
  | injectPoison
  deriving DecidableEq, Repr

/-- Who put a request into a channel queue (04 R86): a host, a pump of a die at the priority of its reads,
the patrol scrub or a migration at a physical rank and rank offset, or the rekey sweep of a tenancy. -/
inductive Src where
  | host
  | pump (die num prio : Nat)
  | scrub (rank off : Nat)
  | migrate (rank off : Nat)
  | sweep (ten : Nat)
  /-- A home die's read of the firn-map line of a home drift (07 R155). -/
  | firn (drift : Nat)
  deriving DecidableEq, Repr

/-- A request on its way (01 R16, 03 R72, 04 R86, 06 R133). An internal one names no port and is
silent. -/
structure Req where
  src : Src
  id : Nat
  port : Nat
  link : Nat
  tag : Nat
  op : ReqOp
  dpa : Nat
  data : Line
  be : BitVec 64
  /-- Class after the meter (06 R138). -/
  cls : Nat
  /-- The tenancy that covered it when it was decoded. -/
  ten : Nat
  key : KeyRef
  /-- `now` at the end of its flit decode (06 P.06), and when it entered its channel queue. -/
  born : Nat
  enter : Nat
  /-- Its number in the order of arrival at its subchannel (04 R90, 06 R139). -/
  arr : Nat
  /-- It has met an earlier class 0 request and is counted for that (06 R139). -/
  met : Bool
  /-- Promoted class 3 (06 R136). -/
  promoted : Bool
  /-- The requester is gone: no response is sent (14 R330, 02 R56). -/
  silent : Bool
  /-- The Cmp has left, or is not left to the queue: write-through withholds it (06 R146, 07 R180). -/
  answered : Bool
  /-- The home die has confirmed the dirty notice (07 R154). -/
  confirmed : Bool
  /-- A partial write whose read has been issued holds its line's lock (04 R90). -/
  locked : Bool
  deriving DecidableEq, Repr

/-- A read issued to DRAM whose burst has not come back (04 R99). -/
structure Issued where
  req : Req
  /-- Physical rank and rank offset read. -/
  rank : Nat
  off : Nat
  /-- This is the second read of R102. -/
  retry : Bool
  deriving DecidableEq, Repr

/-- The queues of one subchannel (04 R86). -/
structure Chan where
  reads : List Req
  writes : List Req
  issued : List Issued
  /-- Requests that have arrived so far. -/
  arrivals : Nat
  /-- A write batch is running, and its queue has held more than 16 entries since it began (R89). -/
  batch : Bool
  deep : Bool
  /-- `now` at the end of the last slice or check (05 R125). -/
  lastSlice : Option Nat
  /-- A slice runs: the rank it measures. -/
  slice : Option Nat
  /-- Class 0 requests that arrived during the slice and are served first (05 R126). -/
  afterSlice : List Nat
  /-- Under an engaged throttle: the last command slot issued a column command of P3–P11; `now` of the last
  activate of P3–P11 (20 R424). -/
  columnLast : Bool
  actAt : Option Nat
  deriving DecidableEq, Repr

/-- One bank of a subchannel (04 R87–R95). -/
structure Bank where
  openRow : Option Nat
  streak : Nat
  postponed : Nat
  /-- Rolling activation count (R95). -/
  raa : Nat
  /-- A refresh or RFM runs, and it was issued at P1. -/
  refreshing : Bool
  p1 : Bool
  /-- The refresh that runs is an all-bank one (R96). -/
  whole : Bool
  /-- A refresh, or an RFM, is due at P1 (R93, R95). -/
  urgent : Bool
  rfm : Bool
  /-- Class 0 requests of this bank that a P1 command yields to: at most eight that waited when it became
  issuable (06 R142). -/
  yields : List Nat
  /-- Class 0 requests of this bank that waited when the last P1 command completed (R94). -/
  waiting : List Nat
  deriving DecidableEq, Repr

/-- A line as DRAM or a glacier page holds it (03 R74, 04 R100). -/
inductive LineCell where
  /-- 64 bytes and the key material they are encrypted under; `none`: an unkeyed line. -/
  | data (l : Line) (key : Option (BitVec 512))
  /-- The poison encoding. -/
  | poison
  deriving DecidableEq, Repr

/-- A quadrant (04 C+3.01, Tables 04.5, 10.5, 10.6). -/
structure Quad where
  /-- 0 Run, 1 Idle, 2 Idle-Deep, 3 Hibernate-Quadrant, 4 off after rail failure, 5 not powered yet. -/
  st : Nat
  /-- Data rate in force in MT/s (R83). -/
  rate : Nat
  /-- Start-up or return training has finished. -/
  trained : Bool
  /-- Start-up training lowered its rate (05 R120). -/
  lowered : Bool
  /-- Hibernate entry: step 2 has run. -/
  hibEntry : Bool
  /-- Return from hibernation, or from power-off after a rail failure, has begun (Table 10.6, 05 R130). -/
  returning : Bool
  /-- `now` at the last entry into Idle-Deep (04 R110). -/
  deepAt : Nat
  /-- Home drifts whose thaw marks its hibernation has cleared and no restore has set since (10 R257). -/
  unmarked : List Nat
  deriving DecidableEq, Repr

/-- What the model keeps of a rank beside its objects (04, 05, 10). -/
structure Rank where
  /-- 05 G+1+k.01: 0 absent, 1 in service, 2 held, 3 failed, 4 recalibrating. -/
  train : Nat
  /-- 10 Table 10.2. -/
  st : Nat
  density : Nat
  stack : Nat
  /-- It trained at the last start-up training (03 R64, 05 R119). -/
  trained : Bool
  /-- MR4: 0 normal, 1 doubled, 2 over-temperature, and the normal-reading count (Table 04.3). -/
  refresh : Nat
  normalCount : Nat
  /-- In self-refresh, in a freeze (09 R222). -/
  selfRefresh : Bool
  /-- `now` of its last MR4 read (04 R97). -/
  mr4At : Nat
  /-- 24 one-hour buckets, newest first (10 R242). -/
  ueBuckets : List Nat
  ceBuckets : List Nat
  /-- Lines counted since the last patrol pass (10 R242). -/
  filter : List Nat
  /-- `now` of parity errors (10 R242). -/
  parity : List Nat
  /-- The initialising pass over a spare has run (04 R109). -/
  initPass : Bool
  /-- Recalibrations wanted: read side, write side (05 R121, R122). -/
  wantRead : Bool
  wantWrite : Bool
  /-- The running recalibration measures the write side. -/
  recalWrite : Bool
  /-- What the slices of the running recalibration have measured on subchannels 0 and 1: for each code
  the bursts that matched, by nibble (05 R124, R125). -/
  meas0 : List Sweep
  meas1 : List Sweep
  /-- First and last code of the passing run that read delay was last set from, by nibble (05 R122). -/
  edges : List (Nat × Nat)
  /-- Oscillator counts at the last calibration, by nibble (05 R121). -/
  base : List Nat
  /-- `now` of the last oscillator check and edge probe, and since when one waits for an idle slot (05 R123). -/
  oscAt : Nat
  probeAt : Nat
  oscDue : Option Nat
  probeDue : Option Nat
  deriving DecidableEq, Repr

/-- Patrol scrub of a channel (04 R107–R110). -/
structure Scrub where
  /-- Rank position k and line number within the rank of the next read. -/
  k : Nat
  line : Nat
  inFlight : Bool
  /-- `now` when the pass began, and the time in Idle-Deep that its deadline is extended by (R110). -/
  start : Nat
  extra : Nat
  deriving DecidableEq, Repr

/-- The DRAM channels (04, 05). Sparse keys: lines by physical rank x 2^40 + line number;
channels by global subchannel; banks by subchannel, rank position, chip and bank; quadrants by
4 x die + q; ranks by global rank. -/
structure Dram where
  /-- Default: the zero line stored under the key in force (log 4). -/
  lines : Sparse LineCell
  chans : Sparse Chan
  banks : Sparse Bank
  quads : Sparse Quad
  ranks : Sparse Rank
  scrub : Sparse Scrub
  /-- Population record of the ledgers (05 R119), by global rank. -/
  population : Sparse RankDev
  /-- Data and spare placement taken at package reset (03 R62): spare mask by die. -/
  spareMask : Sparse Nat
  /-- Channels whose rate fallback was enabled at the package reset (05 G.02). -/
  fallback : List Nat
  /-- Rate limits of the channels at the package reset, by channel (04 R84). -/
  limits : Sparse Nat
  /-- Interleave and channel granule in force (0x2800.04, .05). -/
  interleave : Nat
  granule : Nat
  deriving DecidableEq, Repr

/-- Event record types of the logs (02 Table 02.7). -/
inductive EventKind where
  | media | dram | module | vendor
  deriving DecidableEq, Repr

/-- One event record of a link's log (02 R48): its words are those of the ring record without the
valid mark (19 R410). -/
structure LogRec where
  handle : Nat
  sev : Nat
  kind : EventKind
  words : List LWord
  deriving DecidableEq, Repr

/-- A link's log of one severity, 256 records (02 R48). -/
structure EvLog where
  recs : List LogRec
  overflow : Bool
  deriving DecidableEq, Repr

/-- SPDM on a link's DOE mailbox (18 R399). -/
structure Spdm where
  /-- 0 nothing, 1 version, 2 capabilities, 3 algorithms negotiated. -/
  stage : Nat
  /-- A session is in its handshake; a session is established. -/
  handshake : Bool
  session : Bool
  /-- Key updates of the session. -/
  updates : Nat
  deriving DecidableEq, Repr

/-- One host link (02). -/
structure HLink where
  /-- 0 down, 1 training, 2 up, 3 refused, 4 IDE insecure. -/
  st : Nat
  speed : Nat
  width : Nat
  latOpt : Bool
  ideUp : Bool
  /-- IDE keys have been programmed and await K_SET_GO. -/
  ideKeyed : Bool
  /-- An integrity check has failed and no new key exchange has followed (02 R53). -/
  rekeyDue : Bool
  /-- Class 0 line tokens (06 R137). -/
  tokens : Nat
  info : EvLog
  warning : EvLog
  failure : EvLog
  fatal : EvLog
  policy : Nat
  nextHandle : Nat
  /-- HDM decoder fields by 4 x decoder + field, and MSI-X vectors. -/
  hdm : Sparse Nat
  msix : Sparse Nat
  /-- Unsupported Requests logged by AER (02 R54). -/
  aer : Nat
  spdm : Spdm
  deriving DecidableEq, Repr

/-- A poison-list entry (02 R46): first line number, length in lines, source Injected. -/
structure PEntry where
  line : Nat
  len : Nat
  injected : Bool
  deriving DecidableEq, Repr

/-- Requests held while the old route drains (01 R18). -/
structure RouteHold where
  ingress : Nat
  owner : Nat
  held : List Req
  deriving DecidableEq, Repr

/-- What crosses a die-to-die link for a host request: the request itself, or its response with data or
as a Cmp (01 R16, 06 R141). -/
inductive FlitBody where
  | request (q : Req)
  | data (q : Req) (l : Line) (poison : Bool)
  | cmp (q : Req)
  deriving DecidableEq, Repr

/-- A flit that waits in the transmit buffer of a link that retrains (01 R18): the link's key, 4 x its
lower die + link number, and the priority it travels at (06 R141). -/
structure Flit where
  key : Nat
  prio : Nat
  body : FlitBody
  deriving DecidableEq, Repr

/-- A Global Persistent Flush in progress: its link, and the number of the first request accepted after it was
received, which it does not cover (02 R44). -/
structure Flush where
  port : Nat
  link : Nat
  upTo : Nat
  deriving DecidableEq, Repr

/-- Ports, links and what the host sees of the whole package (01, 02). -/
structure Hosts where
  /-- By 4 x global port + link. -/
  links : Sparse HLink
  /-- Ports whose PERST_N is low, bit per global port. -/
  perstLow : Nat
  /-- Ports held off by a freeze point (09 R216). -/
  stopped : Bool
  /-- Bifurcation in force by global port (02 R35). -/
  bifurcation : Sparse Nat
  /-- Shutdown state by global port, in the ledger (02 R45). -/
  shutdown : Sparse Nat
  alert : Nat
  /-- Global Persistent Flushes in progress (02 R44). -/
  gpf : List Flush
  /-- Poison lists by die. -/
  poison : Sparse (List PEntry)
  poisonOverflow : Bool
  overflowTime : Nat
  /-- Label storage area, byte by byte (02 R37). -/
  lsa : List Host.Cell
  dirtyShutdowns : Nat
  /-- Health conditions last reported (02 R45). -/
  maintenance : Bool
  degraded : Bool
  /-- Die-to-die links by 4 x lower die + link number. -/
  dieLinks : Sparse DieLink
  routeHolds : List RouteHold
  /-- Flits waiting at retraining links, oldest first (06 R141). -/
  flits : List Flit
  nextReq : Nat
  deriving DecidableEq, Repr

/-- One entry of the tenancy table (03 Table 03.3). -/
structure Tenancy where
  /-- 0 FREE, 1 LIVE, 2 FENCED, 3 RETIRING. -/
  st : Nat
  base : Nat
  limit : Nat
  /-- 0 PERSISTENT, 1 CHECKPOINT, 2 VOLATILE. -/
  mode : Nat
  cls : Nat
  rights : Nat
  share : Nat
  transit : Nat
  /-- Rekey watermark DPA; all ones when none runs. -/
  watermark : Nat
  newBase : Nat
  newLimit : Nat
  /-- Dies' program sequence at the last CREATE or RESIZE (09 R230), by die. -/
  created : Sparse Nat
  deriving DecidableEq, Repr

/-- A key slot (03 Table 03.7). -/
structure KeySlot where
  /-- 0 EMPTY, 1 LOADED, 2 BOUND, 3 ZEROISING, 4 SWEEPING, 5 SEALING. -/
  st : Nat
  material : BitVec 512
  gen : Nat
  ten : Nat
  deriving DecidableEq, Repr

/-- A tenancy operation that waits for hardware, or for its turn (03 R80, 15 R345). -/
structure TenOp where
  caller : Caller
  /-- Object index, subindex and value written. -/
  idx : Nat
  sub : Nat
  value : Nat
  /-- Key material of a K.02 write. -/
  data : Bytes
  deriving DecidableEq, Repr

/-- A refused operation whose answer is due 2 us after it was taken (03 R81). -/
structure Refused where
  caller : Caller
  /-- REFUSED or STATE. -/
  status : Nat
  deriving DecidableEq, Repr

/-- A RETIRE that drains: the tenancy, its state before, and who asked (03 Table 03.6). -/
structure Retiring where
  ten : Nat
  was : Nat
  caller : Caller
  /-- It has been answered already, by a management restart (14 R333). -/
  answered : Bool
  deriving DecidableEq, Repr

/-- A change of an entry that takes effect at once and returns OK when the requests decoded before it are complete
(03 R66): the operation, its tenancy, the entry before, and the number of the first request that it does not wait
for. -/
structure Settle where
  op : TenOp
  ten : Nat
  was : Tenancy
  upTo : Nat
  deriving DecidableEq, Repr

/-- Tenancies and keys (03). -/
structure Tenants where
  table : Sparse Tenancy
  /-- Home slots by n, transit slots by 1,024 + t. -/
  keys : Sparse KeySlot
  /-- CREATE or RESIZE zero-filling. -/
  filling : Option TenOp
  /-- FENCE, UNFENCE or a field write that waits for earlier requests. -/
  settling : Option Settle
  retiring : List Retiring
  /-- Operations waiting for their turn, oldest first. -/
  waiting : List TenOp
  refused : List Refused
  deriving DecidableEq, Repr

/-- A dirty notice on its way to the home die (07 R154). -/
structure Notice where
  req : Nat
  /-- Global subchannel holding the write. -/
  sc : Nat
  flake : Nat
  ten : Nat
  applied : Bool
  deriving DecidableEq, Repr

/-- A pump at work (07 Table 07.3). -/
structure Pump where
  num : Nat
  flake : Nat
  /-- Read done: it waits for a fresh page. -/
  ready : Bool
  prio : Nat
  /-- Line-poison bitmap and the lines read. -/
  bitmap : BitVec 256
  lines : Sparse LineCell
  /-- Relocation of a CLEAN flake (08 R204): the page it replaces. -/
  moving : Option Nat
  /-- A trim or a result to discard (07 Table 07.4, 03 R72). -/
  stale : Bool
  deriving DecidableEq, Repr

/-- The 16 KiB of a glacier page (08 R190–R192). Data pages keep the lines' ciphertext. Map and index pages
are encrypted under the device key with die and map page number as tweak: each names the tweak it was
encrypted with (log 11). -/
inductive PageBody where
  | data (bitmap : BitVec 256) (lines : Sparse LineCell)
  /-- Map page (Table 08.4): flake-map entries and firn codes of its 2,048 flakes by place, and heat counters
  of its 16 drifts; unlisted 0, TRIMMED and 0. -/
  | map (die num : Nat) (fmap firn heat : Sparse Nat)
  /-- Index or root index page: addresses of 2,048 pages below it by place; unlisted 0. -/
  | index (die num : Nat) (addrs : Sparse Nat)
  /-- Page `num` of the image of a slot, whose bytes the slot holds (08 R211, 18 R385). -/
  | boot (slot num : Nat)
  | pad
  deriving DecidableEq, Repr

/-- A page with its header (08 Table 08.3); an address that lists none is erased. -/
structure Page where
  /-- 1 data, 2 map page, 3 index page, 4 root index page, 5 pad, 6 boot image. -/
  typ : Nat
  format : Nat
  ten : Nat
  /-- Map page number of types 2–4; all ones otherwise. -/
  mapNum : Nat
  flake : Nat
  epoch : Nat
  progSeq : Nat
  body : PageBody
  /-- The page address that the header was encrypted with. -/
  tweak : Nat
  /-- Its program has not passed, or a codeword or the header's CRC-32 fails at every level (08 R200). -/
  unreadable : Bool
  deriving DecidableEq, Repr

/-- What a unit's data page moves (07 Table 07.3, 08 R204). -/
structure Move where
  flake : Nat
  /-- The page that a relocation replaces. -/
  old : Option Nat
  /-- The program was started in freeze mode (09 R221). -/
  inFreeze : Bool
  /-- Its flake has been trimmed since its pump claimed it: the status is discarded (07 Table 07.2). -/
  stale : Bool
  deriving DecidableEq, Repr

/-- A map page, index page or root index page to be programmed (08 R192). -/
structure MapJob where
  typ : Nat
  num : Nat
  body : PageBody
  deriving DecidableEq, Repr

/-- A program unit: pages being filled or under program on a LUN (08 R188). -/
structure PUnit where
  num : Nat
  lun : Nat
  /-- Block number (page address without PG). -/
  blk : Nat
  /-- Addresses transferred, in order. -/
  pages : List Nat
  /-- Programming has been issued. -/
  running : Bool
  /-- It lies in a map block. -/
  map : Bool
  /-- What each of its first pages moves or saves; the others are pad pages. -/
  moves : List Move
  jobs : List MapJob
  deriving DecidableEq, Repr

/-- A page read asked of a die's flash (08 R199, R200). -/
structure PRead where
  page : Nat
  flake : Nat
  /-- 0 fetch, 1 heal, 2 relocation, 3 migration, 4 rebuild. -/
  purpose : Nat
  /-- A host request triggered it. -/
  host : Bool
  level : Nat
  /-- Decoded or reported unreadable. -/
  res : Option Bool
  deriving DecidableEq, Repr

/-- A LUN (08 R189, R197, R209). -/
structure Lun where
  failed : Bool
  /-- Open data block and open map block, each with the next page. -/
  openData : Option (Nat × Nat)
  openMap : Option (Nat × Nat)
  /-- The block being erased, its suspensions, and how the erase stands: 0 it runs, 1 a read has asked for
  its suspension, 2 a program unit has, 3 it is suspended, 4 the one further unit has been issued too. -/
  erasing : Option Nat
  suspends : Nat
  susp : Nat
  /-- `now` of not-ready failures. -/
  notReady : List Nat
  deriving DecidableEq, Repr

/-- A retired block (08 R196). -/
structure Moraine where
  blk : Nat
  reason : Nat
  time : Nat
  deriving DecidableEq, Repr

/-- An epoch or freeze seal (07 Table 07.6, 09 Table 09.3). -/
structure Seal where
  epoch : Nat
  root : Nat
  openBlocks : List Nat
  snowline : Nat
  budget : Nat
  /-- Its valid word and CRC-32 are right (07 R167, 09 R225; log 131). -/
  whole : Bool
  /-- Tenancy and watermark of every running sweep. -/
  sweeps : List (Nat × Nat)
  checkpoints : List Nat
  /-- Home flakes of CHECKPOINT tenancies that only a rekey sweep has marked (03 R77; log 40). -/
  swept : List Nat
  /-- Freeze seal only: saved, lost, source, detection time, thaw running, program sequence. -/
  saved : Nat
  lost : Nat
  source : Nat
  time : Nat
  /-- Steps 1 to 9 of the die in microseconds. -/
  duration : Nat
  thawRunning : Bool
  progSeq : Nat
  deriving DecidableEq, Repr

/-- One die's shadow engine, flash and seals (07, 08, 09). -/
structure DieShadow where
  pumps : List Pump
  /-- Flakes put first after a program failure (07 R158 step 1). -/
  first : List Nat
  /-- Cursors of codes 1, 2 and 3 (07 R158): the number after the flake last taken. -/
  cursor1 : Nat
  cursor2 : Nat
  cursor3 : Nat
  units : List PUnit
  reads : List PRead
  luns : Sparse Lun
  /-- Block states: 1 open data, 2 open map, 3 closed, 4 erase marked, 5 retired; 0 free. -/
  blocks : Sparse Nat
  /-- Epoch in which the block's last page went stale (08 R205). -/
  staleEpoch : Sparse Nat
  pages : Sparse Page
  moraine : List Moraine
  /-- Standing erase intents by LUN (08 R201). -/
  intents : Sparse Nat
  progSeq : Nat
  /-- Channel next in rotation, and how many units each channel has opened (08 R188). -/
  rotation : Nat
  lunTurn : Sparse Nat
  gcOn : Bool
  /-- Pages to be moved (08 R193, R200, R206, R207). -/
  relocate : List Nat
  /-- Verification: the address after the last page read, and `now` when the period began (08 R207). -/
  verifyAt : Nat
  verifySince : Nat
  /-- The next read of the walk waits for an erase at its limit, and has been counted (08 R198). -/
  verifyHeld : Bool
  /-- Epoch being closed: the seal as the boundary fixes it (its root and blocks come at the write). -/
  closing : Option Seal
  /-- The map index: addresses of the newest map pages and index pages by number, and of the root index
  page (08 R192). -/
  mapAddr : Sparse Nat
  indexAddr : Sparse Nat
  rootAddr : Nat
  /-- Programming of the map: 0 none, 1 map pages, 2 index pages, 3 root index page, 4 all have passed; the
  pages of the step that wait for a unit, and the numbers of the map pages that it saves. -/
  phase : Nat
  jobs : List MapJob
  mapPages : List Nat
  /-- Map pages changed in the open epoch (08 R191), and those whose heat counters changed since they were
  last programmed (09 R236). -/
  mapChanged : List Nat
  heatChanged : List Nat
  sealA : Option Seal
  sealB : Option Seal
  freezeSeal : Option Seal
  /-- Blocks holding pages programmed since the previous seal. -/
  openSince : List Nat
  /-- Charges and releases not yet told to the lead die, by tenancy (07 R156). -/
  unsent : Sparse Int
  nextUnit : Nat
  deriving DecidableEq, Repr

/-- The glacier record of die 0's ledger: parameter page and geometry of the adopted device (08 R185). -/
structure GlacierRec where
  onfiId : Nat
  planes : Nat
  blocksPerPlane : Nat
  pagesPerBlock : Nat
  deriving DecidableEq, Repr

/-- Shadowing as a whole (07, 09 R236). -/
structure Shadow where
  /-- Firn state by flake (DPA div 16 KiB); unlisted 8, TRIMMED. -/
  firn : Sparse Nat
  /-- Flake-map entry by flake (08 Table 08.2); unlisted 0. -/
  fmap : Sparse Nat
  /-- Drift summary code by home drift; unlisted 0 (07 R157). -/
  summary : Sparse Nat
  /-- Heat counter and accesses modulo 64 by home drift (09 R236). -/
  heat : Sparse Nat
  heatSub : Sparse Nat
  /-- Firn-cache lines held, by home drift, newest first, per die (07 R155). -/
  cache : Sparse (List Nat)
  notices : List Notice
  /-- Lead die's per-tenancy charge count, flakes (07 R156). -/
  lead : Sparse Nat
  /-- Write admission: held writes in arrival order, and ids inside an admission stage (07 R174). -/
  held : List Req
  staged : List Nat
  /-- Writes whose Cmp write-through withholds (07 R180). -/
  through : List Req
  /-- Epoch counter in die 0's ledger: none until first armed (07 R163, R164). -/
  counter : Option Nat
  /-- Epoch open now, and the last one sealed on every die. -/
  epoch : Nat
  sealedAll : Option Nat
  armed : Bool
  /-- The first arming's epoch-0 close runs (07 R164). -/
  arming : Bool
  /-- A boundary waits for the running close (07 R166). -/
  boundaryDue : Bool
  /-- WRITE_THROUGH forced by a learn tail (11 R277). -/
  forceThrough : Bool
  /-- Checkpoints completed and not yet sealed (07 R177). -/
  ckptDone : List Nat
  /-- Checkpoints that the closing epoch's seals list (07 R177). -/
  ckptSealing : List Nat
  /-- Pages programmed since the glacier was first initialised (07 R181). -/
  pagesProgrammed : Nat
  /-- Bytes programmed in the last 24 hours, in one-hour buckets, newest first; `now` of the last wear
  warning (07 R182). -/
  dayBuckets : List Nat
  wearWarned : Option Nat
  /-- `now` from which the wear limit lets a P9 pump program its next page (07 R181, log 134). -/
  wearNext : Nat
  /-- CLEAN flakes of CHECKPOINT tenancies that a rekey sweep has marked since and no host has written
  (03 R77). -/
  swept : List Nat
  /-- Transit slots whose sweep was complete at the boundary of the closing epoch (03 R79). -/
  sealing : List Nat
  dies : Sparse DieShadow
  /-- Glacier record kept in die 0's ledger (08 R185); none before first initialisation. -/
  glacier : Option GlacierRec
  /-- Effective shares were scaled at the last evaluation (07 R171). -/
  scaled : Bool
  deriving DecidableEq, Repr

/-- Freeze and thaw (09). -/
structure Freeze where
  /-- A freeze runs that pumps and seals (R220, R228). -/
  active : Bool
  /-- 1 PWRFAIL_N, 2 SENSE_VIN, 3 sled. -/
  source : Nat
  detect : Nat
  /-- Dies whose snow is drained; dies that have sealed. -/
  drained : List Nat
  sealedBy : List Nat
  /-- Freeze-mode program failures by flake (R221). -/
  fails : Sparse Nat
  saved : Sparse Nat
  lost : Sparse Nat
  /-- Snow at step 5 by die, bytes. -/
  snowAtStart : Sparse Nat
  /-- The mode that the thaw took at its start: 0 eager, 1 on-demand (R235). -/
  mode : Nat
  /-- Thaw: 0 none, 1 state 10, 2 sump restore, 3 eager, 4 on-demand, 5 complete (0x6800.0B). -/
  thaw : Nat
  /-- Recovery: 0 first start, 1 freeze seals, 2 epoch seal; E. -/
  recovery : Nat
  epoch : Nat
  /-- Dies whose map restore is done. -/
  restored : List Nat
  /-- Thaw marks (R232): the mark of a home drift is `markDflt`, or its opposite for the drifts
  in `markFlip`. -/
  markDflt : Bool
  markFlip : List Nat
  /-- Requests waiting for a fetch or a fill, in arrival order (R237). -/
  fetchWait : List Req
  /-- Flakes POISONED by the last recovery and not yet written or trimmed (R240). -/
  poisoned : List Nat
  /-- Flakes filled in drifts whose mark is clear (R233, R237). -/
  filled : List Nat
  /-- Bytes to restore when the thaw began, and tenths reported (R240). -/
  restoreTotal : Nat
  tenths : Nat
  /-- The Dirty Shutdown Count has been incremented for the recovery in progress (R234). -/
  counted : Bool
  /-- Largest epoch found by the recovery (R231). -/
  topEpoch : Nat
  /-- `now` at state 10. -/
  started : Nat
  deriving DecidableEq, Repr

/-- A redirection entry of a die's ledger (10 R243). -/
structure Redirect where
  carrier : Nat
  /-- Physical rank that the data is copied from: the logical rank's own, or a carrying spare. -/
  source : Nat
  watermark : Nat
  complete : Bool
  rebuild : Bool
  reason : Nat
  /-- A migration that waits for its turn (10 R245), and its number in the order of the triggers. -/
  queued : Bool
  order : Nat
  /-- Lines above the watermark that a rebuild has written for a host request (10 R249). -/
  early : List Nat
  deriving DecidableEq, Repr

/-- A heal (10 R253). -/
structure Heal where
  flake : Nat
  lines : BitVec 256
  /-- The page it takes the lines from. -/
  page : Nat
  /-- Host reads that wait for it (10 R254). -/
  waiting : List Req
  deriving DecidableEq, Repr

/-- Sparing and healing (10). -/
structure Sparing where
  /-- By logical global rank. -/
  redirect : Sparse Redirect
  heals : Sparse (List Heal)
  deriving DecidableEq, Repr

/-- The learned record (11 Table 11.5). -/
structure Learned where
  fcc : Nat
  q : Nat
  anchor : Nat
  lastLearn : Nat
  learns : Nat
  required : Bool
  present : Bool
  restored : Bool
  deriving DecidableEq, Repr

/-- The battery (11). Charges in mC; the accumulator counts code x ACLK cycles (13 R311). -/
structure Battery where
  present : Bool
  acc : Int
  /-- What the accumulator holds beyond whole mC of Q, times 9 (13 R306). -/
  rest : Int
  /-- Q in mC, full-charge capacity, last anchor; an anchor has been set since the pack change. -/
  q : Nat
  fcc : Nat
  anchor : Nat
  anchored : Bool
  /-- Q has fallen 2 % below FCC since the last anchor (R268). -/
  anchorReady : Bool
  /-- The empty warning of this discharge has been written (R269). -/
  warned : Bool
  /-- Device time was lost since the last anchor (R270). -/
  timeLost : Bool
  /-- Pack voltage mV, current mA, temperature 0.1 C, and the readings of the last 60 s (`now`,
  0.1 C), newest first, that no later one is as low as (R272). -/
  volts : Nat
  amps : Int
  temp : Int
  temps : List (Nat × Int)
  thermFault : Bool
  tempInhibit : Bool
  /-- Accumulator at the last full anchor (11 Table 11.3 step 3). -/
  anchorAcc : Int
  /-- Learn state 0–4, `now` of step 1 of the cycle, and the accumulator at its anchor. -/
  learn : Nat
  learnAt : Nat
  learnBase : Int
  /-- The learn regulator: mean current of the last capture of entry 4 in mA, and the duty cycle of LEARN_PWM that
  it sets (11 R276, 13 R311). -/
  learnAmps : Int
  learnDuty : Nat
  required : Bool
  lastLearn : Nat
  learns : Nat
  restored : Bool
  chgEn : Bool
  learnPwm : Bool
  /-- CHG_EN has stayed high since the last full anchor (R276). -/
  chgHeld : Bool
  recA : Option Learned
  recB : Option Learned
  /-- Slot B is written next (R279). -/
  nextB : Bool
  /-- No valid slot was found in state 10 (R280). -/
  lost : Bool
  /-- The charge of state 10 has been taken, so that Q follows the accumulator (R280). -/
  counting : Bool
  /-- Energy-derived limit loaded, `now` of the load, decaying since, at the floor. -/
  limit : Nat
  loadAt : Option Nat
  decayAt : Option Nat
  atFloor : Bool
  /-- A record of a decay is due when firmware runs again (R274). -/
  decayNote : Bool
  deriving DecidableEq, Repr

/-- The converter of one die (13). -/
structure Adc where
  running : Bool
  /-- Entry being converted (0–15), 31 for an injected request. -/
  current : Option Nat
  /-- Channel of the injected request, gain. -/
  injCh : Nat
  injGain : Nat
  /-- Entries pending, and triggered entries whose delay runs. -/
  pending : List Nat
  delayed : List Nat
  /-- The supervisor's list: rails with the `now` of their mid-window time, in due order (R308). -/
  rails : List (Nat × Nat)
  /-- Timers whose start event has come (R308). -/
  started : List Nat
  /-- Capture buffer: 0 idle, 1 armed, 2 filled. -/
  capture : Nat
  samples : List Nat
  /-- Spare slice, slices in the path from longest since calibration, calibrated ones. -/
  spare : Nat
  path : List Nat
  calibrated : Bool
  deferred : Bool
  /-- The deferred swap of this interval waits for the conversion that runs. -/
  swapDue : Bool
  stopped : Bool
  /-- The thermal monitor has judged a reading since the reset; `now` when the die's throttle last engaged or released; an excursion above 105 degrees runs; the
  sensor reads outside its range (20 R423, R425). -/
  judged : Bool
  throttleAt : Option Nat
  hot : Bool
  sensorBad : Bool
  deriving DecidableEq, Repr

/-- PLLs of one die: domains that have lost lock; failed ones; holdover (14 R326). -/
structure Clocks where
  unlocked : List Nat
  failed : List Nat
  holdover : Bool
  deriving DecidableEq, Repr

/-- The management processors (14 R331–R335). -/
structure Mgmt where
  /-- Firmware has reached step 6: mailbox ready, dictionary available. -/
  ready : Bool
  /-- Cause of the restart in progress; its start. -/
  restarting : Option Nat
  since : Nat
  fails : Nat
  heldInReset : Bool
  watchdogArmed : Bool
  deriving DecidableEq, Repr

/-- An ODP session (15 R355, R356). -/
structure Session where
  isOpen : Bool
  node : Nat
  openedAt : Nat
  /-- Session key and the two counters. -/
  ks : BitVec 256
  rxCtr : Nat
  txCtr : Nat
  /-- Frames in succession that matched no counter. -/
  fails : Nat
  accepted : Nat
  /-- `now` of the opening or of the last accepted frame (R357). -/
  lastAt : Nat
  /-- The last CHUNK was dropped for its number or for want of a transfer (18 R387). -/
  chunkBad : Bool
  deriving DecidableEq, Repr

/-- A segmented transfer (15 R359). -/
structure Segment where
  num : Nat
  sid : Nat
  head : OdpHead
  /-- The SW74 receives (a write) or sends (a read). -/
  rx : Bool
  idx : Nat
  sub : Nat
  off : Nat
  total : Nat
  data : Bytes
  /-- Next SEQ expected or sent; a FLOW is awaited. -/
  next : Nat
  paused : Bool
  /-- `now` of its last frame. -/
  lastAt : Nat
  deriving DecidableEq, Repr

/-- An ODP frame (15 R349, Tables 15.5 and 15.7). -/
structure TxFrame where
  prio : Nat
  svc : Nat
  dst : Nat
  src : Nat
  tag : Nat
  sid : Nat
  seqNo : Nat
  seg : Bool
  last : Bool
  rsp : Bool
  payload : Bytes
  /-- MAC counter of a session frame, and its MAC; none and 0 in a plain frame or one with zero MAC (15 R354, R356). -/
  ctr : Option Nat
  mac : BitVec 64
  /-- `now` when it joined the transmit queue (15 R349). -/
  queuedAt : Nat
  deriving DecidableEq, Repr

/-- The field bus (15). Error counters and statistics are objects 0x1100.01–.09. -/
structure Bus where
  sessions : Sparse Session
  /-- Answers due at the response slot (R358). -/
  slotted : List TxFrame
  segments : List Segment
  nextSeg : Nat
  /-- Latched SYNCs: number, latched device time, `now` (R360). -/
  syncs : List (Nat × Nat × Nat)
  rackKey : Option (BitVec 256)
  /-- Transmit queue, oldest first (R349). -/
  tx : List TxFrame
  /-- Field-bus chunk tokens (18 R386). -/
  tokens : Nat
  /-- `now` of the last ATTENTION per cause. -/
  attn1 : Option Nat
  attn2 : Option Nat
  /-- Bus state: 0 monitoring, 1 active, 2 passive, 3 off. -/
  st : Nat
  /-- Rate codes of 0x1101.01 and .02 in force since the package reset (R347). -/
  nom : Nat
  dat : Nat
  /-- `now` of the last record of a frame that bore the own node number (R350). -/
  ownAt : Option Nat
  deriving DecidableEq, Repr

/-- An operation taken over the two-wire port (17 R374). -/
structure WireOp where
  isWrite : Bool
  deriving DecidableEq, Repr

/-- The two-wire port (17). Bytes 0x00–0xFF of control block and window in `mem`. -/
structure Wire where
  mem : List Host.Cell
  ptr : Nat
  snapshot : List Byte
  /-- Waiting at the STOP: COMMAND was written in this transaction. -/
  armed : Option WireOp
  busy : Option WireOp
  /-- Host Notify: severity and die waiting, retries begun, attempt running, `now` of the last
  attention's first attempt, and how the last attempt failed (0x7400.0C). -/
  notify : Option (Nat × Nat)
  retries : Nat
  attempting : Bool
  notifyAt : Option Nat
  lastEnd : Nat
  /-- `now` of the end of the last attempt that failed (17 R378). -/
  failedAt : Nat
  deriving DecidableEq, Repr

/-- A 16 KiB page buffer of a firmware transfer (18 R385). -/
structure PageBuf where
  page : Nat
  /-- Bytes arrived: number of byte within the page. -/
  arrived : List Host.Cell
  deriving DecidableEq, Repr

/-- A firmware transfer (18 R384, R389). -/
structure Transfer where
  /-- Opened by descriptor; opened from the field bus. -/
  byDesc : Bool
  onBus : Bool
  slot : Nat
  len : Nat
  id : Nat
  hash : Bytes
  /-- Bitmap: chunks whose every byte has arrived, rising. -/
  chunks : List Nat
  bufs : List PageBuf
  /-- Lowest page not yet programmed; a program of it runs. -/
  nextPage : Nat
  programming : Bool
  /-- End has been received (mailbox path). -/
  ended : Bool
  deriving DecidableEq, Repr

/-- Firmware (18). Floors, mask and times are objects 0x1300 and 0x1302. -/
structure Firmware where
  /-- Slot states: 0 EMPTY, 1 RECEIVING, 2 STAGED, 3 boot pending, 4 ACTIVE, 5 FAILED. -/
  slot0 : Nat
  slot1 : Nat
  /-- Stored container bytes. -/
  image0 : List Host.Cell
  image1 : List Host.Cell
  len0 : Nat
  len1 : Nat
  transfer : Option Transfer
  /-- Blocks of die 0's boot region that the opening of a transfer has yet to erase (18 Table 18.1). -/
  bootErase : List Nat
  /-- Slot the running firmware came from. -/
  booted : Option Nat
  /-- A boot-pending slot is being booted in the running restart. -/
  trying : Option Nat
  reports : Nat
  report : Bytes
  /-- Measurement digests by slot m (18 Table 18.6). -/
  digests : Sparse (BitVec 384)
  deriving DecidableEq, Repr

/-- A report in a staging queue (19 R407). -/
structure Staged where
  /-- TYPE, where the manual fixes it; else the high byte with `cause` naming the event. -/
  typ : Nat
  cause : Option Nat
  args : List Nat
  sev : Nat
  vis : Nat
  payload : Bytes
  time : Nat
  tv : Bool
  count : Nat
  single : Bool
  deriving DecidableEq, Repr

/-- The event recorder of one die (19). -/
structure Recorder where
  /-- Ring words by word number; unlisted 0. -/
  ring : Sparse LWord
  newest : Option Nat
  newestOff : Nat
  nextSeq : Nat
  nextOff : Nat
  oldest : Nat
  /-- Sequence number and offset of the records of the ring, oldest first (19 R406 registers). -/
  index : List (Nat × Nat)
  queue : List Staged
  /-- Loss record of entry 63: reports lost, first and last time. -/
  lost : Nat
  /-- Queued entries that are written before the loss record. -/
  lostAhead : Nat
  lostFirst : Nat
  lostLast : Nat
  /-- Level of the meter's bucket in units of 10^-9 tokens, and its `now` (19 R408). -/
  tokens : Nat
  tokenAt : Nat
  /-- Cursors and gap flags by realm 0–3: bit 0 the last read met a gap, bit 1 the next one reports one. -/
  cursors : Sparse Nat
  gaps : Sparse Nat
  deriving DecidableEq, Repr

/-- What a command puts on the links, buses and pins. -/
inductive Output where
  /-- CXL.mem read data (tag, data, poison). -/
  | memData (port link tag : Nat) (data : Line) (poison : Bool)
  /-- CXL.mem write completion. -/
  | cmp (port link tag : Nat)
  /-- CXL.io completion with a value, or Unsupported Request. -/
  | ioData (port link value : Nat)
  | ioUnsupported (port link : Nat)
  /-- Mailbox completion: CXL return code and output fields as numbers. -/
  | mbox (port link rc : Nat) (fields : List Nat)
  /-- Dictionary Access completion (Table 02.5): status, length, object length, data. -/
  | dict (port link status len objLen : Nat) (data : Bytes)
  /-- Recorder Stream completion (Table 02.6). -/
  | stream (port link status count flags next : Nat) (data : Bytes)
  /-- A two-wire read's bytes; an unacknowledged transaction. -/
  | wireData (data : Bytes)
  | wireNak
  /-- Recorder object .08 or another dictionary answer outside the mailbox. -/
  | objData (o : Origin) (status len objLen : Nat) (data : Bytes)
  /-- SPDM or DOE answer: a code of the answer and its fields. -/
  | doe (port link code : Nat) (fields : List Nat)
  | cdat (port link : Nat) (fields : List Nat)
  /-- GPF phase 2 complete. -/
  | gpfDone (port link : Nat)
  /-- An MSI-X message: the vector and its programmed value. -/
  | msix (port link vec value : Nat)
  /-- A frame sent on the field bus. -/
  | frame (f : TxFrame)
  /-- SMBus Host Notify message: device address, data word. -/
  | hostNotify (addr word : Nat)
  deriving DecidableEq, Repr

/-- The whole block. -/
structure State where
  build : Build
  aon : Aon
  seq : Seq
  hosts : Hosts
  ten : Tenants
  dram : Dram
  shadow : Shadow
  freeze : Freeze
  sparing : Sparing
  bat : Battery
  adc : Sparse Adc
  clocks : Sparse Clocks
  mgmt : Mgmt
  bus : Bus
  wire : Wire
  fw : Firmware
  recs : Sparse Recorder
  /-- Numeric dictionary objects that have no field of their own, by index x 256 + subindex;
  unlisted: the default of the object's table (Machine/Objects.lean). -/
  regs : Sparse Nat
  /-- STRING and DOMAIN objects, by index x 256 + subindex; unlisted: empty. -/
  doms : Sparse Bytes
  /-- W1 rights used up since the package reset (15 R340). -/
  usedW1 : List Nat
  /-- What the last command put on the links, buses and pins. -/
  out : List Output
  /-- Draws of a free value so far (the model's own field, log 7). -/
  freeCount : Nat
  /-- Commands that wait, first in first out. -/
  pending : List Instr
  deriving DecidableEq, Repr

/-- The board of `State.reset` (log 2): the small SW7402 of 01 (one rank of 32 Gb 4-high devices
on rank position 0 of each channel) with two flash channels per die populated. -/
def State.resetBuild : Build :=
  { variant := .sw7402, serial := 0x5157_7402,
    ranks := (List.range 16).map fun c => (2 * c, { density := 32, stack := 4 }),
    nand := [0, 8, 16, 24].map fun f =>
      (f, { nvLpddr4 := true, mts := 3600, width := 8, bits := 3, oneShot := true, ops := true, dataBytes := 16384,
            spareBytes := 1840, tProg := 1120, tRead := 50, tSuspend := 200, planes := 4, blocksPerPlane := 1024, pagesPerBlock := 1024, ces := 1,
            lunsPerCe := 2, onfiId := 1, suspendLimit := 64, trains := true, factoryBad := [] }),
    rfm := [], node := 18, addr := 0 }

/-- Right after AON power-on reset with a ledger as it leaves manufacture: sequencer state 0 with
its work done, nothing else powered (12 Table 12.1, 14 Table 14.3). Device time starts from the
ledger's value 0 plus 1 s (14 R323). -/
def State.reset : State :=
  { build := State.resetBuild,
    aon := { on := true, now := 0, deviceTime := 1000000, slewLeft := 0, slewPhase := 0, rtcFrac := 0,
             wakeStored := [], pwrfailLow := false, senseLow := false,
             holdRunning := false, rackSyncAt := none, savedTime := 0 },
    seq := { st := 0, holds := [], cfg := [], release := [], drains := [], pads := [], locked := [],
             reached := 0, leadDead := false, lostDies := [] },
    hosts := { links := [], perstLow := 0, stopped := false, bifurcation := [], shutdown := [],
               alert := 0, gpf := [], poison := [], poisonOverflow := false, overflowTime := 0,
               lsa := [], dirtyShutdowns := 0, maintenance := false, degraded := false,
               dieLinks := [], routeHolds := [], flits := [], nextReq := 0 },
    ten := { table := [], keys := [], filling := none, settling := none, retiring := [], waiting := [],
             refused := [] },
    dram := { lines := [], chans := [], banks := [], quads := [], ranks := [], scrub := [],
              population := [], spareMask := [], fallback := [], limits := [], interleave := 3, granule := 0 },
    shadow := { firn := [], fmap := [], summary := [], heat := [], heatSub := [], cache := [],
                notices := [], lead := [], held := [], staged := [], through := [],
                counter := none, epoch := 0, sealedAll := none, armed := false, arming := false,
                boundaryDue := false, forceThrough := false, ckptDone := [], ckptSealing := [],
                pagesProgrammed := 0, dayBuckets := [], wearWarned := none, wearNext := 0, swept := [], sealing := [], dies := [], glacier := none,
                scaled := false },
    freeze := { active := false, source := 0, detect := 0, drained := [], sealedBy := [],
                fails := [], saved := [], lost := [], snowAtStart := [], mode := 1, thaw := 0, recovery := 0,
                epoch := 0, restored := [], markDflt := true, markFlip := [], fetchWait := [], poisoned := [],
                filled := [], restoreTotal := 0, tenths := 0, counted := false, topEpoch := 0, started := 0 },
    sparing := { redirect := [], heals := [] },
    bat := { present := false, acc := 0, rest := 0, q := 0, fcc := 0, anchor := 0, anchored := false,
             anchorReady := true, warned := false, timeLost := true, volts := 0, amps := 0,
             temp := 250, temps := [], thermFault := false, tempInhibit := false, anchorAcc := 0, learn := 0,
             learnAt := 0, learnBase := 0, learnAmps := 0, learnDuty := 0, required := true, lastLearn := 0, learns := 0, restored := false,
             chgEn := false, learnPwm := false, chgHeld := false, recA := none, recB := none, nextB := false,
             lost := false, counting := false, limit := 0, loadAt := none, decayAt := none, atFloor := false, decayNote := false },
    adc := [], clocks := [],
    mgmt := { ready := false, restarting := none, since := 0, fails := 0, heldInReset := false,
              watchdogArmed := false },
    bus := { sessions := [], slotted := [], segments := [], nextSeg := 0, syncs := [],
             rackKey := none, tx := [], tokens := 16, attn1 := none, attn2 := none, st := 0, nom := 0, dat := 1, ownAt := none },
    wire := { mem := [], ptr := 0, snapshot := [], armed := none, busy := none, notify := none,
              retries := 0, attempting := false, notifyAt := none, lastEnd := 0, failedAt := 0 },
    fw := { slot0 := 4, slot1 := 0, image0 := [], image1 := [], len0 := 0, len1 := 0,
            transfer := none, bootErase := [], booted := none, trying := none, reports := 0, report := [],
            digests := [] },
    recs := [], regs := [], doms := [], usedW1 := [], out := [], freeCount := 0, pending := [] }

end Sys2Proof.Machine
end

