-- ==== Sys2Proof/Machine/Sparse.lean ====
section
/-! DEFINITION. Operations on the sparse tables of the state, and byte memories over them. Every
table keeps one canonical form: keys strictly rising, no entry equal to the default. -/
namespace Sys2Proof.Machine

/-- The entry at a key, where one is listed. -/
def look? {α : Type} : Sparse α → Nat → Option α
  | [], _ => none
  | (k, v) :: m, a => if a = k then some v else look? m a

/-- The value at a key: the entry, or the default where none is listed. -/
def look {α : Type} (d : α) (m : Sparse α) (a : Nat) : α := (look? m a).getD d

/-- List a value at a key, keeping the keys rising. -/
def insertK {α : Type} : Sparse α → Nat → α → Sparse α
  | [], a, v => [(a, v)]
  | (k, w) :: m, a, v =>
    if a < k then (a, v) :: (k, w) :: m
    else if a = k then (a, v) :: m
    else (k, w) :: insertK m a v

/-- Take a key off the list. -/
def eraseK {α : Type} : Sparse α → Nat → Sparse α
  | [], _ => []
  | (k, w) :: m, a => if a = k then eraseK m a else (k, w) :: eraseK m a

/-- Write a value at a key: writing the default removes the entry. -/
def put {α : Type} [DecidableEq α] (d : α) (m : Sparse α) (a : Nat) (v : α) : Sparse α :=
  if v = d then eraseK m a else insertK m a v

/-- Keep the entries whose key satisfies a test (writing the default everywhere else). -/
def keepK {α : Type} (p : Nat → Bool) (m : Sparse α) : Sparse α := m.filter fun e => p e.1

/-- Keys strictly rising from a lower bound (exclusive when given). -/
def risingFrom {α : Type} : Option Nat → Sparse α → Bool
  | _, [] => true
  | none, (k, _) :: m => risingFrom (some k) m
  | some b, (k, _) :: m => decide (b < k) && risingFrom (some k) m

/-- The canonical form of a table with default d. -/
def Sparse.wf {α : Type} [DecidableEq α] (d : α) (m : Sparse α) : Bool :=
  risingFrom none m && m.all fun e => decide (e.2 ≠ d)

/-- A byte memory: unlisted bytes read 0x00 (log 4). -/
abbrev Memory := List Host.Cell

/-- The canonical form of a byte memory. -/
def Memory.wf (m : Memory) : Bool := Sparse.wf (0 : Byte) m

/-- Read one byte. -/
def Memory.byte (m : Memory) (a : Nat) : Byte := look 0 m a

/-- Write one byte. -/
def Memory.setByte (m : Memory) (a : Nat) (b : Byte) : Memory := put 0 m a b

/-- Read n bytes from an address. -/
def Memory.bytes (m : Memory) (a : Nat) : Nat → Bytes
  | 0 => []
  | n + 1 => m.byte a :: Memory.bytes m (a + 1) n

/-- Write bytes from an address. -/
def Memory.setBytes (m : Memory) (a : Nat) : Bytes → Memory
  | [] => m
  | b :: bs => Memory.setBytes (m.setByte a b) (a + 1) bs

/-- Little-endian number of a byte list (15 R338). -/
def leNat : Bytes → Nat
  | [] => 0
  | b :: bs => b.toNat + 256 * leNat bs

/-- n little-endian bytes of a number. -/
def leBytes : Nat → Nat → Bytes
  | 0, _ => []
  | n + 1, v => BitVec.ofNat 8 v :: leBytes n (v / 256)

/-- The bit of a number. -/
def bitOf (v i : Nat) : Bool := v / 2 ^ i % 2 = 1

/-- Set or clear a bit of a number. -/
def setBitOf (v i : Nat) (b : Bool) : Nat :=
  if bitOf v i = b then v else if b then v + 2 ^ i else v - 2 ^ i

/-- 64 bytes as a line, byte 0 in the low bits; missing bytes are 0. -/
def lineOf (bs : Bytes) : Line := BitVec.ofNat 512 (leNat (bs.take 64))

/-- A list with an element moved in at its end once: adds it where it is not present. -/
def addOnce (x : Nat) (l : List Nat) : List Nat := if l.elem x then l else l ++ [x]

/-- A list without an element. -/
def without (x : Nat) (l : List Nat) : List Nat := l.filter (· ≠ x)

end Sys2Proof.Machine
end

