-- ==== Sys2Proof/Machine/Objects.lean ====
section
/-! DEFINITION. The object dictionary as a table: where each object lies (16 R365–R367), and its
type, rights, default, clamp range and keeping, chapter by chapter as the owning table gives them. -/
namespace Sys2Proof.Machine

/-- 15 R338, Table 15.1. -/
inductive ObjTy where
  | bool | u8 | u16 | u32 | u64 | i32 | q16 | time48 | str | domain
  deriving DecidableEq, Repr

/-- Size in bytes; 0 for STRING and DOMAIN. -/
def ObjTy.size : ObjTy → Nat
  | .bool | .u8 => 1
  | .u16 => 2
  | .u32 | .i32 | .q16 => 4
  | .u64 => 8
  | .time48 => 6
  | .str | .domain => 0

/-- 15 Table 15.2. -/
inductive Right where
  | none | ro | rw | wo | w1
  /-- RO through a port with rights on the tenancy described (R340). -/
  | roOwn
  deriving DecidableEq, Repr

/-- The patterns of rights (host-owner, rack, board, tenant) that the tables use. -/
inductive Rights where
  | roAll | roOwn | roAny | hostRack | hostRackOwn | rackBoard | rwAll
  | woHostRack | woAll | w1HostRack | woHost | woHostBoard
  deriving DecidableEq, Repr

/-- 15 R339: the four realms, numbered as 0x1130.04 numbers them. -/
inductive Realm where
  | hostOwner | rack | board | tenant
  deriving DecidableEq, Repr

/-- Number of a realm in 0x1130.04. -/
def Realm.code : Realm → Nat
  | .hostOwner => 0
  | .rack => 1
  | .board => 2
  | .tenant => 3

/-- The right of a realm under a pattern. -/
def Rights.of : Rights → Realm → Right
  | .roAll, .tenant => .none
  | .roAll, _ => .ro
  | .roOwn, .tenant => .roOwn
  | .roOwn, _ => .ro
  | .roAny, _ => .ro
  | .hostRack, .hostOwner | .hostRack, .rack => .rw
  | .hostRack, .board => .ro
  | .hostRack, .tenant => .none
  | .hostRackOwn, .hostOwner | .hostRackOwn, .rack => .rw
  | .hostRackOwn, .board => .ro
  | .hostRackOwn, .tenant => .roOwn
  | .rackBoard, .hostOwner => .ro
  | .rackBoard, .rack | .rackBoard, .board => .rw
  | .rackBoard, .tenant => .none
  | .rwAll, .tenant => .none
  | .rwAll, _ => .rw
  | .woHostRack, .hostOwner | .woHostRack, .rack => .wo
  | .woHostRack, _ => .none
  | .woAll, .tenant => .none
  | .woAll, _ => .wo
  | .w1HostRack, .hostOwner | .w1HostRack, .rack => .w1
  | .w1HostRack, _ => .none
  | .woHost, .hostOwner => .wo
  | .woHost, _ => .none
  | .woHostBoard, .hostOwner | .woHostBoard, .board => .wo
  | .woHostBoard, _ => .none

/-- What a package reset does with the object (15 R344). -/
inductive Keep where
  | ledger | aon | reset
  deriving DecidableEq, Repr

/-- One row of an object table. -/
structure ObjRow where
  sub : Nat
  ty : ObjTy
  rights : Rights
  dflt : Nat
  lo : Int
  hi : Int
  keep : Keep
  deriving DecidableEq, Repr

/-- A row of an object table, written in one line. -/
def row (sub : Nat) (ty : ObjTy) (rights : Rights) (dflt : Nat) (lo hi : Int) (keep : Keep) :
    ObjRow := { sub, ty, rights, dflt, lo, hi, keep }

/-- The number of dies of a variant (00 Table 00.1). -/
def Variant.dies : Variant → Nat
  | .sw7402 => 2
  | .sw7404 => 4
  | .sw7408 => 8

/-- Domain bitmap with bits of domains a to b (bit k for domain k + 1). -/
def domBits (a b : Nat) : Nat := 2 ^ b - 2 ^ (a - 1)

/-- 12 Table 12.2: default enable state of rail i. -/
def railState (i : Nat) : Nat :=
  if i ≤ 2 then 2 else if i = 3 then 3 else if i ≤ 7 then 4 else if i ≤ 15 then 5
  else if i ≤ 17 then 6 else if i ≤ 19 then 7 else if i ≤ 22 then 8 else 0

/-- 12 Table 12.2: default parents of rail i, bit j for rail j. -/
def railParents (i : Nat) : Nat :=
  if i = 0 then 0 else if i ≤ 3 then 1 else if i ≤ 7 then 4 else if i ≤ 15 then 2 ^ (i - 4)
  else if i ≤ 17 then 4 else if i ≤ 19 then 2 ^ (i - 2) else if i ≤ 22 then 1 else 0

/-- 12 Table 12.2: domains fed by rail i. -/
def railFeeds (i : Nat) : Nat :=
  if i = 0 then 2 ^ 2 + domBits 5 8 + domBits 21 26 + 2 ^ 29
  else if i = 1 then domBits 21 25
  else if i = 2 then 2 ^ 6 + 2 ^ 29
  else if i = 3 then domBits 5 6
  else if i ≤ 15 then 2 ^ (12 + i % 4)
  else if i = 16 ∨ i = 18 then domBits 17 18
  else if i = 17 ∨ i = 19 then domBits 19 20
  else if i = 20 then domBits 9 10
  else if i = 21 then domBits 11 12
  else if i = 22 then domBits 27 29
  else 0

/-- 00 R4, 01 R31, 16 R368: identity objects. -/
def rowsIdent : List ObjRow :=
  [ row 0x01 .str .roAny 0 0 0 .reset,
    row 0x02 .u8 .roAny 0 0 0xFF .reset,
    row 0x03 .u64 .roAll 0 0 0xFFFFFFFFFFFFFFFF .reset,
    row 0x04 .u64 .roAll 0 0 0xFFFFFFFFFFFFFFFF .reset,
    row 0x05 .u16 .roAll 1 0 0xFFFF .reset,
    row 0x06 .u64 .roAll 0 0 0xFFFFFFFFFFFFFFFF .reset ]

/-- 01 R19, 20 R426: objects 0x1010+d. -/
def rowsDieLink : List ObjRow :=
  [ row 0x01 .u8 .roAll 0 0 0xFF .reset,
    row 0x02 .u8 .roAll 0 0 0xFF .reset,
    row 0x03 .u8 .roAll 0 0 0xFF .reset,
    row 0x04 .u32 .roAll 0 0 0xFFFFFFFF .reset,
    row 0x05 .i32 .roAll 0 (-2147483648) 2147483647 .reset,
    row 0x06 .u8 .roAll 0 0 0xFF .reset,
    row 0x07 .u32 .roAll 0 0 0xFFFFFFFF .reset,
    row 0x08 .i32 .roAll 0 (-2147483648) 2147483647 .reset ]

/-- 15 R364: objects 0x1100. -/
def rowsBusStat : List ObjRow :=
  [ row 0x01 .u8 .roAll 0 0 0xFF .reset,
    row 0x02 .u8 .roAll 0 0 0xFF .reset,
    row 0x03 .u8 .roAll 0 0 0xFF .reset,
    row 0x04 .u8 .roAll 0 0 0xFF .reset,
    row 0x05 .u32 .roAll 0 0 0xFFFFFFFF .reset,
    row 0x06 .u32 .roAll 0 0 0xFFFFFFFF .reset,
    row 0x07 .u32 .roAll 0 0 0xFFFFFFFF .reset,
    row 0x08 .u32 .roAll 0 0 0xFFFFFFFF .reset,
    row 0x09 .u32 .roAll 0 0 0xFFFFFFFF .reset ]

/-- 15 R364: objects 0x1101. -/
def rowsBusCfg : List ObjRow :=
  [ row 0x01 .u8 .rwAll 0 0 1 .ledger,
    row 0x02 .u8 .rwAll 1 0 3 .ledger,
    row 0x03 .u8 .rwAll 80 60 90 .ledger,
    row 0x04 .u8 .rwAll 75 60 90 .ledger,
    row 0x05 .bool .rwAll 1 0 1 .ledger,
    row 0x06 .u8 .hostRack 0 0 126 .ledger,
    row 0x07 .u8 .hostRack 2 0 3 .ledger,
    row 0x08 .u16 .hostRack 60 5 3600 .ledger ]

/-- 15 R364: objects 0x1102. -/
def rowsBusTime : List ObjRow :=
  [ row 0x01 .time48 .roAll 0 0 0xFFFFFFFFFFFF .reset,
    row 0x02 .i32 .roAll 0 (-2147483648) 2147483647 .reset,
    row 0x03 .u32 .roAll 0 0 0xFFFFFFFF .reset,
    row 0x04 .u32 .roAll 0 0 0xFFFFFFFF .reset ]

/-- 15 R364: objects 0x1110. -/
def rowsRackKey : List ObjRow :=
  [ row 0x01 .domain .woHostBoard 0 0 0 .reset,
    row 0x02 .u32 .roAll 0 0 0xFFFFFFFF .ledger ]

/-- 15 R364: objects 0x1120+s. -/
def rowsSession : List ObjRow :=
  [ row 0x01 .u8 .roAll 0 0 0xFF .reset,
    row 0x02 .u8 .roAll 0 0 0xFF .reset,
    row 0x03 .time48 .roAll 0 0 0xFFFFFFFFFFFF .reset,
    row 0x04 .u32 .roAll 0 0 0xFFFFFFFF .reset ]

/-- 15 R364: objects 0x1130. -/
def rowsViolations : List ObjRow :=
  [ row 0x01 .u32 .roAll 0 0 0xFFFFFFFF .reset,
    row 0x02 .u16 .roAll 0 0 0xFFFF .reset,
    row 0x03 .u8 .roAll 0 0 0xFF .reset,
    row 0x04 .u8 .roAll 0 0 0xFF .reset,
    row 0x05 .u16 .roAll 0 0 0xFFFF .reset ]

/-- 19 R413: objects 0x1200. -/
def rowsRecPkg : List ObjRow :=
  [ row 0x01 .domain .roAll 0 0 0 .reset,
    row 0x02 .u16 .hostRack 1000 100 1000 .ledger ]

/-- 19 R413: objects 0x1210+d. -/
def rowsRecDie : List ObjRow :=
  [ row 0x01 .u32 .roAll 0 0 0xFFFFFFFF .reset,
    row 0x02 .u32 .roAll 0 0 0xFFFFFFFF .reset,
    row 0x03 .u32 .roAll 0 0 0xFFFFFFFF .reset,
    row 0x04 .u32 .roAll 0 0 0xFFFFFFFF .reset,
    row 0x05 .u32 .roAll 0 0 0xFFFFFFFF .reset,
    row 0x06 .u8 .roAll 0 0 0xFF .reset,
    row 0x07 .u32 .rwAll 0 0 0xFFFFFFFF .reset,
    row 0x08 .domain .roAll 0 0 0 .reset,
    row 0x09 .bool .roAll 0 0 1 .reset ]

/-- 18 R401: objects 0x1300. -/
def rowsFwStat : List ObjRow :=
  [ row 0x01 .u8 .roAll 0 0 0xFF .reset,
    row 0x02 .u16 .roAll 0 0 0xFFFF .reset,
    row 0x03 .u16 .roAll 0 0 0xFFFF .ledger,
    row 0x04 .u32 .roAll 0 0 0xFFFFFFFF .ledger,
    row 0x05 .domain .roAll 0 0 0 .reset,
    row 0x06 .domain .rwAll 0 0 0 .reset,
    row 0x07 .domain .roAll 0 0 0 .reset,
    row 0x08 .bool .hostRack 0 0 1 .ledger,
    row 0x09 .u8 .roAll 0 0 0xFF .reset,
    row 0x0A .u32 .roAll 0 0 0xFFFFFFFF .reset,
    row 0x0B .u16 .roAll 0 0 0xFFFF .reset,
    row 0x0C .u8 .roAll 0 0 0xFF .ledger ]

/-- 18 R401: objects 0x1301. -/
def rowsFwXfer : List ObjRow :=
  [ row 0x01 .domain .woAll 0 0 0 .reset,
    row 0x02 .domain .roAll 0 0 0 .reset,
    row 0x03 .u32 .roAll 0 0 0xFFFFFFFF .reset,
    row 0x04 .u32 .roAll 0 0 0xFFFFFFFF .reset,
    row 0x05 .u16 .hostRack 10 1 500 .ledger,
    row 0x06 .u32 .roAll 0 0 0xFFFFFFFF .reset,
    row 0x07 .u8 .woAll 0 1 1 .reset,
    row 0x08 .domain .woHostBoard 0 0 0 .reset,
    row 0x09 .u32 .roAll 0 0 0xFFFFFFFF .reset ]

/-- 18 R401: objects 0x1302. -/
def rowsFwAct : List ObjRow :=
  [ row 0x01 .time48 .hostRack 0 0 0xFFFFFFFFFFFF .ledger,
    row 0x02 .u16 .hostRack 0 0 0xFFFF .ledger,
    row 0x03 .u8 .roAll 0 0 0xFF .ledger,
    row 0x04 .u32 .roAll 0 0 0xFFFFFFFF .ledger,
    row 0x05 .time48 .roAll 0 0 0xFFFFFFFFFFFF .ledger ]

/-- 18 R401: objects 0x1310+m. -/
def rowsMeasure : List ObjRow :=
  [ row 0x01 .domain .roAll 0 0 0 .reset ]

/-- 02 R42: objects I+1. -/
def rowsPort1 : List ObjRow :=
  [ row 0x01 .u8 .roAll 0 0 0xFF .reset,
    row 0x02 .u8 .roAll 0 0 0xFF .reset,
    row 0x03 .u8 .roAll 0 0 0xFF .reset,
    row 0x04 .u8 .roAll 0 0 0xFF .reset,
    row 0x05 .u8 .roAll 0 0 0xFF .reset,
    row 0x06 .u8 .roAll 0 0 0xFF .reset,
    row 0x07 .u8 .roAll 0 0 0xFF .reset,
    row 0x08 .u8 .roAll 0 0 0xFF .reset,
    row 0x09 .u8 .roAll 0 0 0xFF .reset,
    row 0x0A .u8 .roAll 0 0 0xFF .reset,
    row 0x0B .u8 .roAll 0 0 0xFF .reset,
    row 0x0C .u8 .roAll 0 0 0xFF .reset ]

/-- 02 R42: objects I+2. -/
def rowsPort2 : List ObjRow :=
  [ row 0x01 .u32 .roAll 0 0 0xFFFFFFFF .reset,
    row 0x02 .u64 .roAll 0 0 0xFFFFFFFFFFFFFFFF .reset,
    row 0x03 .u16 .roAll 0xFFFF 0 0xFFFF .reset,
    row 0x04 .u8 .roAll 0 0 0xFF .reset ]

/-- 02 R42: objects I. -/
def rowsPort0 (g : Nat) : List ObjRow :=
  [ row 0x01 .u8 .rackBoard 0 0 2 .ledger,
    row 0x02 .u8 .rackBoard 2 0 2 .ledger,
    row 0x03 .bool .rackBoard (if g = 0 then 1 else 0) 0 1 .ledger,
    row 0x04 .bool .rwAll 0 0 1 .ledger,
    row 0x05 .bool .rwAll 0 0 1 .ledger,
    row 0x06 .bool .rwAll 1 0 1 .ledger ]

/-- 03 R65: objects 0x2800. -/
def rowsMap : List ObjRow :=
  [ row 0x01 .u8 .hostRack 3 0 4 .ledger,
    row 0x02 .u8 .hostRack 0 0 2 .ledger,
    row 0x04 .u8 .roAll 0 0 0xFF .reset,
    row 0x05 .u8 .roAll 0 0 0xFF .reset,
    row 0x06 .u64 .roAll 0 0 0xFFFFFFFFFFFFFFFF .reset,
    row 0x07 .u64 .roAll 0 0 0xFFFFFFFFFFFFFFFF .reset,
    row 0x08 .u64 .roAll 0 0 0xFFFFFFFFFFFFFFFF .reset ]

/-- 03 R65: objects 0x2810+d. -/
def rowsMapDie : List ObjRow :=
  [ row 0x01 .u16 .hostRack 0x8000 0 0xFFFF .ledger,
    row 0x02 .u64 .roAll 0 0 0xFFFFFFFFFFFFFFFF .reset,
    row 0x03 .u32 .roAll 0 0 0xFFFFFFFF .reset ]

/-- 03 R65: objects 0x2820. -/
def rowsTenStat : List ObjRow :=
  [ row 0x01 .u16 .roAll 0 0 0xFFFF .reset,
    row 0x02 .u16 .roAll 0 0 0xFFFF .reset,
    row 0x03 .u8 .roAll 0 0 0xFF .reset ]

/-- 03 R67: objects T. -/
def rowsTen (n : Nat) : List ObjRow :=
  [ row 0x01 .u8 .roOwn 0 0 0xFF .reset,
    row 0x02 .u32 .hostRackOwn 0 0 134217727 .ledger,
    row 0x03 .u32 .hostRackOwn 0 0 134217728 .ledger,
    row 0x04 .u8 .hostRackOwn 0 0 2 .ledger,
    row 0x05 .u16 .roOwn n 0 0xFFFF .reset,
    row 0x06 .u32 .hostRack 0xAAAAAAAA 0 0xFFFFFFFF .ledger,
    row 0x07 .u32 .hostRack 0 0 0xFFFFFFFF .ledger,
    row 0x08 .u64 .hostRackOwn 0 0 (2 ^ 64 - 1) .ledger,
    row 0x09 .u8 .woHostRack 0 1 6 .reset,
    row 0x0A .u8 .hostRack 0 0 63 .ledger,
    row 0x0B .u64 .roAll 0xFFFFFFFFFFFFFFFF 0 0xFFFFFFFFFFFFFFFF .reset,
    row 0x0C .u32 .hostRack 0 0 0x07FFFFFF .ledger,
    row 0x0D .u32 .hostRack 0 0 0x08000000 .ledger ]

/-- 03 R76: objects K. -/
def rowsKey : List ObjRow :=
  [ row 0x01 .u8 .roAll 0 0 0xFF .reset,
    row 0x02 .domain .woHost 0 0 0 .reset,
    row 0x03 .u32 .roAll 0 0 0xFFFFFFFF .reset,
    row 0x04 .u8 .woHostRack 0 1 1 .reset,
    row 0x05 .u16 .roAll 0xFFFF 0 0xFFFF .reset ]

/-- 04 R114: objects C+1+k. -/
def rowsRank : List ObjRow :=
  [ row 0x01 .u8 .roAll 0 0 0xFF .reset,
    row 0x02 .u8 .roAll 0 0 0xFF .reset,
    row 0x03 .u64 .roAll 0 0 0xFFFFFFFFFFFFFFFF .reset,
    row 0x04 .u32 .roAll 0 0 0xFFFFFFFF .reset,
    row 0x05 .u32 .roAll 0 0 0xFFFFFFFF .reset,
    row 0x06 .u32 .roAll 0 0 0xFFFFFFFF .reset,
    row 0x07 .u8 .roAll 0 0 0xFF .reset,
    row 0x08 .u8 .roAll 0 0 0xFF .reset,
    row 0x09 .domain .roAll 0 0 0 .reset,
    row 0x0A .u32 .roAll 0 0 0xFFFFFFFF .reset ]

/-- 04 R114: objects C+3. -/
def rowsQuad : List ObjRow :=
  [ row 0x01 .u8 .roAll 0 0 0xFF .reset,
    row 0x02 .bool .hostRack 0 0 1 .ledger,
    row 0x03 .u32 .hostRack 1000 10 1000000 .ledger,
    row 0x04 .u32 .roAll 0 0 0xFFFFFFFF .reset ]

/-- 04 R114: objects C+4. -/
def rowsScrub : List ObjRow :=
  [ row 0x01 .u64 .roAll 0 0 0xFFFFFFFFFFFFFFFF .reset,
    row 0x02 .u32 .roAll 0 0 0xFFFFFFFF .reset,
    row 0x03 .time48 .roAll 0 0 0xFFFFFFFFFFFF .reset,
    row 0x04 .u32 .roAll 0 0 0xFFFFFFFF .reset,
    row 0x05 .u32 .roAll 0 0 0xFFFFFFFF .reset ]

/-- 04 R114: objects C. -/
def rowsChan : List ObjRow :=
  [ row 0x01 .u16 .rackBoard 8800 4800 8800 .ledger,
    row 0x02 .u16 .roAll 0 0 0xFFFF .reset,
    row 0x03 .u16 .hostRack 64 0 1023 .ledger,
    row 0x04 .u8 .hostRack 16 1 64 .ledger,
    row 0x05 .u8 .hostRack 0 0 1 .ledger,
    row 0x06 .u8 .hostRack 4 0 4 .ledger,
    row 0x07 .u32 .hostRack 86400 3600 604800 .ledger,
    row 0x08 .u8 .roAll 0 0 0xFF .reset ]

/-- 05 R131: objects G+1+k. -/
def rowsTrainRank : List ObjRow :=
  [ row 0x01 .u8 .roAll 0 0 0xFF .reset,
    row 0x02 .domain .roAll 0 0 0 .reset,
    row 0x03 .domain .roAll 0 0 0 .reset,
    row 0x04 .domain .roAll 0 0 0 .reset,
    row 0x05 .u8 .roAll 0 0 0xFF .reset,
    row 0x06 .i32 .roAll 0 (-2147483648) 2147483647 .reset,
    row 0x07 .time48 .roAll 0 0 0xFFFFFFFFFFFF .reset,
    row 0x08 .u8 .roAll 0 0 0xFF .reset ]

/-- 05 R131: objects G. -/
def rowsTrain : List ObjRow :=
  [ row 0x01 .u8 .roAll 0 0 0xFF .reset,
    row 0x02 .bool .rackBoard 0 0 1 .ledger,
    row 0x03 .u32 .hostRack 1000 100 100000 .ledger,
    row 0x04 .u32 .hostRack 1000 100 100000 .ledger,
    row 0x05 .u8 .hostRack 4 1 16 .ledger,
    row 0x06 .u32 .hostRack 2000 500 100000 .ledger,
    row 0x07 .u32 .roAll 0 0 0xFFFFFFFF .reset,
    row 0x08 .u32 .roAll 0 0 0xFFFFFFFF .reset ]

/-- 06 R149: objects 0x5000. -/
def rowsClassPkg : List ObjRow :=
  [ row 0x01 .u8 .hostRack 16 4 64 .ledger,
    row 0x02 .u32 .hostRack 200 10 100000 .ledger ]

/-- 06 R149: objects P. -/
def rowsClassPort : List ObjRow :=
  [ row 0x01 .u32 .hostRack 1000 400 1000000 .ledger,
    row 0x02 .u32 .hostRack 10000 400 1000000 .ledger,
    row 0x03 .u64 .roAll 0 0 0xFFFFFFFFFFFFFFFF .reset,
    row 0x04 .u32 .roAll 0 0 0xFFFFFFFF .reset,
    row 0x05 .u32 .roAll 0 0 0xFFFFFFFF .reset,
    row 0x06 .u32 .roAll 0 0 0xFFFFFFFF .reset,
    row 0x07 .u32 .roAll 0 0 0xFFFFFFFF .reset ]

/-- 07 R183: objects 0x5800. -/
def rowsShadow0 (n : Nat) : List ObjRow :=
  [ row 0x01 .u64 .roAll 0 0 0xFFFFFFFFFFFFFFFF .reset,
    row 0x02 .u64 .hostRack (2 ^ 41 * n) 0 (2 ^ 41 * n) .ledger,
    row 0x03 .u64 .roAll 0 0 0xFFFFFFFFFFFFFFFF .reset,
    row 0x04 .u32 .hostRack 20000 1000 120000 .ledger,
    row 0x05 .u64 .roAll 0 0 0xFFFFFFFFFFFFFFFF .reset,
    row 0x06 .u64 .roAll 0 0 0xFFFFFFFFFFFFFFFF .reset,
    row 0x07 .u64 .roAll 0 0 0xFFFFFFFFFFFFFFFF .reset,
    row 0x08 .u64 .roAll 0 0 0xFFFFFFFFFFFFFFFF .reset,
    row 0x09 .u64 .roAll 0 0 0xFFFFFFFFFFFFFFFF .reset,
    row 0x0A .u8 .roAll 0 0 0xFF .reset,
    row 0x0B .u8 .roAll 1 0 0xFF .reset,
    row 0x0C .u8 .hostRack 0 0 1 .ledger,
    row 0x0D .u8 .roAll 0 0 0xFF .reset ]

/-- 07 R183: objects 0x5801. -/
def rowsShadow1 : List ObjRow :=
  [ row 0x01 .u32 .hostRack 250 50 10000 .ledger,
    row 0x02 .u64 .roAll 0 0 0xFFFFFFFFFFFFFFFF .reset,
    row 0x03 .u64 .roAll 0 0 0xFFFFFFFFFFFFFFFF .reset,
    row 0x04 .u32 .roAll 0 0 0xFFFFFFFF .reset ]

/-- 07 R183: objects 0x5802. -/
def rowsShadow2 : List ObjRow :=
  [ row 0x01 .u16 .woHostRack 0 0 1023 .reset ]

/-- 07 R183: objects 0x5803. -/
def rowsShadow3 : List ObjRow :=
  [ row 0x01 .u16 .hostRack 3000 100 65535 .ledger,
    row 0x02 .u32 .hostRack 43830 720 175320 .ledger,
    row 0x03 .time48 .roAll 0 0 0xFFFFFFFFFFFF .ledger,
    row 0x04 .bool .hostRack 0 0 1 .ledger,
    row 0x05 .u64 .roAll 0 0 0xFFFFFFFFFFFFFFFF .reset,
    row 0x06 .u32 .roAll 0xFFFFFFFF 0 0xFFFFFFFF .reset,
    row 0x07 .u64 .roAll 0 0 0xFFFFFFFFFFFFFFFF .ledger ]

/-- 07 R183: objects 0x5804. -/
def rowsShadow4 : List ObjRow :=
  [ row 0x01 .u32 .roAll 0 0 0xFFFFFFFF .reset,
    row 0x02 .u32 .roAll 0 0 0xFFFFFFFF .reset,
    row 0x03 .u16 .roAll 0 0 0xFFFF .reset,
    row 0x04 .u32 .roAll 0 0 0xFFFFFFFF .reset ]

/-- 07 R183: objects D. -/
def rowsDieShadow : List ObjRow :=
  [ row 0x01 .u64 .roAll 0 0 0xFFFFFFFFFFFFFFFF .reset,
    row 0x02 .u8 .roAll 0 0 0xFF .reset,
    row 0x03 .u8 .roAll 0 0 0xFF .reset,
    row 0x04 .u64 .roAll 0 0 0xFFFFFFFFFFFFFFFF .reset,
    row 0x05 .u32 .roAll 0 0 0xFFFFFFFF .reset,
    row 0x06 .u32 .roAll 0 0 0xFFFFFFFF .reset,
    row 0x07 .u64 .roAll 0 0 0xFFFFFFFFFFFFFFFF .reset,
    row 0x08 .u8 .roAll 0 0 0xFF .reset,
    row 0x09 .u16 .roAll 0 0 0xFFFF .reset ]

/-- 08 R212: objects F+0x10+f. -/
def rowsFlashChan : List ObjRow :=
  [ row 0x01 .u8 .roAll 0 0 0xFF .reset,
    row 0x02 .u8 .roAll 0 0 0xFF .reset,
    row 0x03 .u32 .roAll 0 0 0xFFFFFFFF .reset,
    row 0x04 .u32 .roAll 0 0 0xFFFFFFFF .reset,
    row 0x05 .u32 .roAll 0 0 0xFFFFFFFF .reset,
    row 0x06 .u32 .roAll 0 0 0xFFFFFFFF .reset ]

/-- 08 R212: objects F. -/
def rowsGlacier : List ObjRow :=
  [ row 0x01 .u16 .roAll 0 0 0xFFFF .reset,
    row 0x02 .u64 .roAll 0 0 0xFFFFFFFFFFFFFFFF .reset,
    row 0x03 .u64 .roAll 0 0 0xFFFFFFFFFFFFFFFF .reset,
    row 0x04 .bool .roAll 0 0 1 .reset,
    row 0x05 .u32 .roAll 0 0 0xFFFFFFFF .reset,
    row 0x06 .u32 .roAll 0 0 0xFFFFFFFF .reset,
    row 0x07 .u8 .hostRack 20 5 100 .ledger,
    row 0x08 .u32 .hostRack 720 24 8760 .ledger,
    row 0x09 .u8 .roAll 0 0 0xFF .reset,
    row 0x0A .u32 .roAll 0 0 0xFFFFFFFF .reset,
    row 0x0B .u32 .roAll 0 0 0xFFFFFFFF .reset,
    row 0x0C .u32 .roAll 0 0 0xFFFFFFFF .reset,
    row 0x0D .u32 .roAll 0 0 0xFFFFFFFF .reset,
    row 0x0E .bool .roAll 0 0 1 .reset,
    row 0x0F .bool .roAll 0 0 1 .reset,
    row 0x10 .domain .roAll 0 0 0 .reset ]

/-- 09 R241: objects 0x6800. -/
def rowsFreeze (n : Nat) : List ObjRow :=
  [ row 0x01 .u8 .hostRack 1 0 1 .ledger,
    row 0x02 .u16 .rackBoard 800 400 1200 .ledger,
    row 0x03 .u16 .rackBoard (Config.freezeWatts n) 50 4000 .ledger,
    row 0x04 .u32 .roAll 40000 0 0xFFFFFFFF .reset,
    row 0x05 .u32 .roAll 0 0 0xFFFFFFFF .reset,
    row 0x06 .u32 .rackBoard 1000 100 60000 .ledger,
    row 0x07 .u32 .hostRack 3600 60 86400 .ledger,
    row 0x08 .u8 .roAll 0 0 0xFF .ledger,
    row 0x09 .u64 .roAll 0 0 0xFFFFFFFFFFFFFFFF .ledger,
    row 0x0A .u64 .roAll 0 0 0xFFFFFFFFFFFFFFFF .ledger,
    row 0x0B .u8 .roAll 0 0 0xFF .reset,
    row 0x0C .u64 .roAll 0 0 0xFFFFFFFFFFFFFFFF .reset,
    row 0x0D .time48 .roAll 0 0 0xFFFFFFFFFFFF .ledger,
    row 0x0E .time48 .roAll 0 0 0xFFFFFFFFFFFF .reset,
    row 0x0F .time48 .roAll 0 0 0xFFFFFFFFFFFF .reset,
    row 0x10 .u32 .roAll 0 0 0xFFFFFFFF .reset,
    row 0x11 .u8 .roAll 0 0 0xFF .ledger,
    row 0x12 .u32 .roAll 0 0 0xFFFFFFFF .ledger ]

/-- 09 R241: objects 0x6810+d. -/
def rowsFreezeDie : List ObjRow :=
  [ row 0x01 .u8 .roAll 0 0 0xFF .reset,
    row 0x02 .u32 .roAll 0 0 0xFFFFFFFF .reset,
    row 0x03 .u64 .roAll 0 0 0xFFFFFFFFFFFFFFFF .reset,
    row 0x04 .u32 .roAll 0 0 0xFFFFFFFF .reset ]

/-- 10 R264: objects 0x6900. -/
def rowsSpare : List ObjRow :=
  [ row 0x01 .bool .hostRack 0 0 1 .ledger,
    row 0x02 .u8 .hostRack 1 1 255 .ledger,
    row 0x03 .u8 .hostRack 8 2 255 .ledger,
    row 0x04 .u16 .hostRack 1000 100 60000 .ledger,
    row 0x05 .u32 .hostRack 2048 16 1000000 .ledger,
    row 0x06 .u32 .hostRack 600 60 604800 .ledger,
    row 0x07 .u64 .roAll 0 0 0xFFFFFFFFFFFFFFFF .ledger,
    row 0x08 .u32 .roAll 0 0 0xFFFFFFFF .reset,
    row 0x09 .u32 .roAll 0 0 0xFFFFFFFF .reset,
    row 0x0A .u32 .roAll 0 0 0xFFFFFFFF .reset ]

/-- 10 R264: objects 0x6910+d. -/
def rowsSpareDie : List ObjRow :=
  [ row 0x01 .u8 .roAll 0 0 0xFF .reset,
    row 0x02 .u8 .roAll 0 0 0xFF .reset,
    row 0x03 .u8 .roAll 0xFF 0 0xFF .reset,
    row 0x04 .u8 .roAll 0xFF 0 0xFF .reset,
    row 0x05 .u64 .roAll 0 0 0xFFFFFFFFFFFFFFFF .reset,
    row 0x06 .u8 .hostRack 0 0 15 .ledger,
    row 0x07 .u16 .roAll 0 0 0xFFFF .reset,
    row 0x08 .u16 .hostRack 0 0 0xFFFF .ledger ]

/-- 10 R264: objects 0x6920+g. -/
def rowsSpareRank : List ObjRow :=
  [ row 0x01 .u8 .roAll 0 0 0xFF .reset,
    row 0x02 .u8 .roAll 0xFF 0 0xFF .reset,
    row 0x03 .u8 .roAll 0 0 0xFF .reset,
    row 0x04 .u8 .roAll 0 0 0xFF .reset,
    row 0x05 .u32 .roAll 0 0 0xFFFFFFFF .reset,
    row 0x06 .u8 .roAll 0 0 0xFF .reset,
    row 0x07 .time48 .roAll 0 0 0xFFFFFFFFFFFF .reset ]

/-- 11 R283: objects 0x7000. -/
def rowsBat0 : List ObjRow :=
  [ row 0x01 .u32 .rackBoard 0 0 100000000 .ledger,
    row 0x02 .u16 .rackBoard 24000 10000 60000 .ledger,
    row 0x03 .q16 .rackBoard 57672 32768 64225 .ledger,
    row 0x04 .u8 .rackBoard 20 10 50 .ledger,
    row 0x05 .u32 .rackBoard 24000 1000 100000 .ledger,
    row 0x06 .u32 .rackBoard 5000 100 100000 .ledger,
    row 0x07 .u16 .rackBoard 3435 2000 5000 .ledger,
    row 0x08 .u32 .rackBoard 10000 1000 100000 .ledger,
    row 0x09 .u16 .rackBoard 27600 10000 65000 .ledger,
    row 0x0A .u16 .rackBoard 100 10 5000 .ledger,
    row 0x0B .u16 .rackBoard 20000 8000 60000 .ledger,
    row 0x0C .i32 .rackBoard 0 (-20) 20 .ledger,
    row 0x0D .i32 .rackBoard 45 30 70 .ledger,
    row 0x0E .q16 .rackBoard 13107 0 327680 .ledger ]

/-- 11 R283: objects 0x7001. -/
def rowsBat1 : List ObjRow :=
  [ row 0x01 .u8 .woHostRack 0 1 2 .reset,
    row 0x02 .time48 .hostRack 0 0 0xFFFFFFFFFFFF .ledger,
    row 0x03 .u16 .hostRack 1000 100 20000 .ledger,
    row 0x04 .u8 .hostRack 5 2 10 .ledger,
    row 0x05 .u8 .roAll 0 0 0xFF .reset,
    row 0x06 .u8 .roAll 0 0 0xFF .reset,
    row 0x07 .time48 .roAll 0 0 0xFFFFFFFFFFFF .reset,
    row 0x08 .u32 .roAll 0 0 0xFFFFFFFF .reset,
    row 0x09 .bool .roAll 1 0 1 .reset ]

/-- 11 R283: objects 0x7002. -/
def rowsBat2 : List ObjRow :=
  [ row 0x01 .u32 .roAll 0 0 0xFFFFFFFF .reset,
    row 0x02 .i32 .roAll 0 (-2147483648) 2147483647 .reset,
    row 0x03 .i32 .roAll 0 (-2147483648) 2147483647 .reset,
    row 0x04 .u32 .roAll 0 0 0xFFFFFFFF .reset,
    row 0x05 .u32 .roAll 0 0 0xFFFFFFFF .reset,
    row 0x06 .u8 .roAll 0 0 0xFF .reset,
    row 0x07 .bool .roAll 0 0 1 .reset,
    row 0x08 .u8 .roAll 0 0 0xFF .reset,
    row 0x09 .time48 .roAll 0 0 0xFFFFFFFFFFFF .reset,
    row 0x0A .u32 .roAll 0 0 0xFFFFFFFF .reset ]

/-- 11 R283: objects 0x7003. -/
def rowsBat3 (n : Nat) : List ObjRow :=
  [ row 0x01 .u32 .roAll 0 0 0xFFFFFFFF .reset,
    row 0x02 .q16 .roAll 0 0 0xFFFFFFFF .reset,
    row 0x03 .u32 .roAll 0 0 0xFFFFFFFF .reset,
    row 0x04 .u64 .hostRack 0 0 (2 ^ 41 * n) .ledger,
    row 0x05 .u8 .roAll 0 0 0xFF .reset,
    row 0x06 .u32 .roAll 0 0 0xFFFFFFFF .reset ]

/-- 11 R283: objects 0x7004. -/
def rowsBat4 : List ObjRow :=
  [ row 0x01 .domain .w1HostRack 0 0 0 .reset ]

/-- 12 R304: objects 0x7100. -/
def rowsPow0 : List ObjRow :=
  [ row 0x01 .u8 .roAll 0 0 0xFF .reset,
    row 0x02 .u8 .roAll 0 0 0xFF .reset,
    row 0x03 .u8 .roAll 0 0 0xFF .reset,
    row 0x04 .u32 .roAll 0 0 0xFFFFFFFF .reset,
    row 0x05 .u32 .roAll 1000 0 0xFFFFFFFF .reset ]

/-- 12 R304: objects 0x7101. -/
def rowsPow1 : List ObjRow :=
  [ row 0x01 .time48 .rwAll 0 0 0xFFFFFFFFFFFF .aon,
    row 0x02 .bool .rwAll 0 0 1 .aon,
    row 0x03 .u8 .rwAll 0x07 0 7 .ledger,
    row 0x04 .u8 .roAll 0 0 0xFF .reset,
    row 0x05 .time48 .roAll 0 0 0xFFFFFFFFFFFF .reset ]

/-- 12 R304: objects 0x7110+d. -/
def rowsPowDie : List ObjRow :=
  [ row 0x01 .u32 .roAll 0 0 0xFFFFFFFF .reset,
    row 0x02 .u32 .hostRack 0 0 0xFFFFFFFF .reset,
    row 0x03 .u32 .roAll 0 0 0xFFFFFFFF .reset,
    row 0x04 .u32 .woAll 0 0 0xFFFFFFFF .reset,
    row 0x05 .u32 .roAll 0 0 0xFFFFFFFF .reset,
    row 0x06 .u32 .roAll 0 0 0xFFFFFFFF .reset ]

/-- 12 R304: objects R. -/
def rowsRail (i : Nat) : List ObjRow :=
  [ row 0x01 .u8 .rackBoard (railState i) 0 0xFF .ledger,
    row 0x02 .u32 .rackBoard (railParents i) 0 0xFFFFFFFF .ledger,
    row 0x03 .u8 .rackBoard 5 1 50 .ledger,
    row 0x04 .u8 .rackBoard 1 0 3 .ledger,
    row 0x05 .u32 .rackBoard (railFeeds i) 0 0xFFFFFFFF .ledger,
    row 0x06 .u16 .rackBoard 0 0 1800 .ledger,
    row 0x07 .u8 .rackBoard i 0 0xFF .ledger,
    row 0x08 .u8 .rackBoard 0xFF 0 0xFF .ledger,
    row 0x09 .u8 .roAll 0 0 0xFF .reset,
    row 0x0A .u8 .roAll 0 0 0xFF .reset,
    row 0x0B .u8 .roAll 0 0 0xFF .reset,
    row 0x0C .u16 .roAll 0 0 0xFFFF .reset ]

/-- 13 R319: objects A. -/
def rowsAdc : List ObjRow :=
  [ row 0x01 .u8 .roAll 0 0 0xFF .reset,
    row 0x02 .u16 .roAll 0 0 0xFFFF .reset,
    row 0x03 .u8 .roAll 0 0 0xFF .reset,
    row 0x04 .u16 .rackBoard 10 1 1000 .ledger,
    row 0x05 .u32 .roAll 0 0 0xFFFFFFFF .reset,
    row 0x06 .u32 .roAll 0 0 0xFFFFFFFF .reset,
    row 0x07 .u32 .roAll 0 0 0xFFFFFFFF .reset,
    row 0x08 .u32 .woAll 0 0 0xFFFFFFFF .reset,
    row 0x09 .u32 .roAll 0 0 0xFFFFFFFF .reset,
    row 0x0B .domain .roAll 0 0 0 .reset,
    row 0x0C .u8 .rackBoard 0 1 1 .reset ]

/-- 14 R336: objects 0x7300. -/
def rowsClk : List ObjRow :=
  [ row 0x01 .u8 .woHostRack 0 1 1 .reset,
    row 0x02 .u16 .hostRack 1000 100 10000 .ledger,
    row 0x03 .u8 .roAll 0 0 0xFF .reset,
    row 0x04 .u32 .roAll 0 0 0xFFFFFFFF .reset,
    row 0x05 .time48 .roAll 0 0 0xFFFFFFFFFFFF .reset,
    row 0x06 .bool .roAll 0 0 1 .reset,
    row 0x07 .u8 .roAll 0 0 0xFF .reset ]

/-- 14 R336: objects 0x7310+d. -/
def rowsClkDie : List ObjRow :=
  [ row 0x01 .u32 .roAll 0 0 0xFFFFFFFF .reset,
    row 0x02 .u32 .roAll 0 0 0xFFFFFFFF .reset,
    row 0x03 .bool .roAll 0 0 1 .reset,
    row 0x04 .u32 .roAll 0 0 0xFFFFFFFF .reset,
    row 0x05 .u32 .roAll 0 0 0xFFFFFFFF .reset,
    row 0x06 .u32 .roAll 0 0 0xFFFFFFFF .reset,
    row 0x07 .u8 .roAll 0 0 0xFF .reset ]

/-- 17 R380: objects 0x7400. -/
def rowsWire : List ObjRow :=
  [ row 0x01 .u8 .rackBoard 3 1 10 .ledger,
    row 0x02 .u8 .rackBoard 15 1 100 .ledger,
    row 0x03 .u8 .rackBoard 20 1 255 .ledger,
    row 0x04 .u8 .rackBoard 1 0 2 .ledger,
    row 0x05 .u8 .rwAll 2 0 3 .ledger,
    row 0x06 .bool .rwAll 1 0 1 .ledger,
    row 0x07 .u8 .roAll 0 0 0xFF .reset,
    row 0x08 .u32 .roAll 0 0 0xFFFFFFFF .reset,
    row 0x09 .u32 .roAll 0 0 0xFFFFFFFF .reset,
    row 0x0A .u32 .roAll 0 0 0xFFFFFFFF .reset,
    row 0x0B .u32 .roAll 0 0 0xFFFFFFFF .reset,
    row 0x0C .u8 .roAll 0 0 0xFF .reset ]

/-- 07 R183: a per-tenancy object, subindices 1 to 128. -/
def rowsPerTen (ty : ObjTy) (hi : Int) (keep : Keep) : List ObjRow :=
  (List.range 128).map fun k => row (k + 1) ty .roOwn 0 0 hi keep

/-- 13 Table 13.8, R308: timer t of die d; hardware-owned timers are RO and read Table 13.3. -/
def rowsTimer (d t : Nat) : List ObjRow :=
  if t = 3 then
    [ row 1 .u32 .roAll 0 0 0 .reset, row 2 .u8 .roAll 0 0 0 .reset, row 3 .u8 .roAll 0 0 0 .reset ]
  else if t = 1 then
    [ row 1 .u32 .roAll 10000 0 10000 .reset, row 2 .u8 .roAll 0 0 0 .reset,
      row 3 .u8 .roAll 0 0 0 .reset ]
  else if t = 0 ∧ d = 0 then
    [ row 1 .u32 .roAll 100 0 100 .reset, row 2 .u8 .roAll 0 0 0 .reset,
      row 3 .u8 .roAll 0 0 0 .reset ]
  else
    [ row 1 .u32 .rackBoard 1000 1 10000000 .ledger, row 2 .u8 .rackBoard 0 0 1 .ledger,
      row 3 .u8 .rackBoard 0 0 23 .ledger ]

/-- 13 Table 13.8: an entry with its defaults .01 to .0A and their rights. -/
def entryRows (rt : Rights) (keep : Keep)
    (en ch gain ts mode trig delay n k dest : Nat) : List ObjRow :=
  [ row 0x01 .bool rt en 0 1 keep, row 0x02 .u8 rt ch 0 29 keep, row 0x03 .u8 rt gain 1 8 keep,
    row 0x04 .u8 rt ts 2 255 keep, row 0x05 .u8 rt mode 0 1 keep, row 0x06 .u8 rt trig 0 6 keep,
    row 0x07 .u16 rt delay 0 0xFFFF keep, row 0x08 .u16 rt n 1 4096 keep,
    row 0x09 .u16 rt k 1 4096 keep, row 0x0A .u8 rt dest 0 0xFF keep,
    row 0x0B .u32 .roAll 0 0 0xFFFFFFFF .reset ]

/-- 13 Table 13.6, R318: entry e of die d; entries 0 to 5 are fixed, and 0, 1, 2 and 4 are disabled
on peer dies. -/
def rowsEntry (d e : Nat) : List ObjRow :=
  let onLead := if d = 0 then 1 else 0
  match e with
  | 0 => entryRows .roAll .reset onLead 25 8 18 0 0 0 256 1 0x02
  | 1 => entryRows .roAll .reset onLead 24 1 18 0 1 0 256 1 0x01
  | 2 => entryRows .roAll .reset onLead 26 1 18 0 1 0 256 1 0x01
  | 3 => entryRows .roAll .reset 1 0xFF 1 18 1 3 0 256 1 0x04
  | 4 => entryRows .roAll .reset onLead 25 8 18 1 4 400 256 1 0x10
  | 5 => entryRows .roAll .reset 1 29 1 18 0 1 0 256 1 0x20
  | _ => entryRows .rackBoard .ledger 0 0 1 18 0 6 0 256 1 1

/-- The unit an index names (16 Table 16.2). -/
inductive Cls where
  | ident | dieLink (d : Nat) | busStat | busCfg | busTime | rackKey | session (s : Nat)
  | violations | recPkg | recDie (d : Nat) | fwStat | fwXfer | fwAct | measure (m : Nat)
  | port0 (g : Nat) | port1 (g : Nat) | port2 (g : Nat)
  | map | mapDie (d : Nat) | tenStat | ten (n : Nat) | homeKey (n : Nat) | transitKey (t : Nat)
  | chan (g : Nat) | rank (r : Nat) | quad (d q : Nat) | scrub (g : Nat)
  | train (g : Nat) | trainRank (r : Nat)
  | classPkg | classPort (g : Nat)
  | shadow0 | shadow1 | shadow2 | shadow3 | shadow4
  | perSnow (i : Nat) | perCkpt (i : Nat) | perState (i : Nat) | perShare (i : Nat)
  | dieShadow (d : Nat) | glacier (d : Nat) | flashChan (d f : Nat)
  | freeze | freezeDie (d : Nat) | spare | spareDie (d : Nat) | spareRank (g : Nat)
  | bat0 | bat1 | bat2 | bat3 | bat4
  | pow0 | pow1 | powDie (d : Nat) | rail (d i : Nat)
  | adc (d : Nat) | timer (d t : Nat) | entry (d e : Nat)
  | clk | clkDie (d : Nat) | wire
  deriving DecidableEq, Repr

/-- A unit number below a count, in a class. -/
def inCount (count k : Nat) (c : Nat → Cls) : Option Cls := if k < count then some (c k) else none

/-- 0x1000–0x1FFF. -/
def classify1 (n idx : Nat) : Option Cls :=
  if idx = 0x1000 then some .ident
  else if 0x1010 ≤ idx ∧ idx ≤ 0x1017 then inCount n (idx - 0x1010) .dieLink
  else if idx = 0x1100 then some .busStat
  else if idx = 0x1101 then some .busCfg
  else if idx = 0x1102 then some .busTime
  else if idx = 0x1110 then some .rackKey
  else if 0x1120 ≤ idx ∧ idx ≤ 0x1123 then some (.session (idx - 0x1120))
  else if idx = 0x1130 then some .violations
  else if idx = 0x1200 then some .recPkg
  else if 0x1210 ≤ idx ∧ idx ≤ 0x1217 then inCount n (idx - 0x1210) .recDie
  else if idx = 0x1300 then some .fwStat
  else if idx = 0x1301 then some .fwXfer
  else if idx = 0x1302 then some .fwAct
  else if 0x1310 ≤ idx ∧ idx ≤ 0x131F then some (.measure (idx - 0x1310))
  else none

/-- 0x2000–0x3FFF. -/
def classify2 (n idx : Nat) : Option Cls :=
  if 0x2000 ≤ idx ∧ idx ≤ 0x27FF then
    let d := (idx - 0x2000) / 0x100
    let p := idx % 0x100 / 0x10
    if d < n ∧ p < 2 then
      match idx % 0x10 with
      | 0 => some (.port0 (2 * d + p))
      | 1 => some (.port1 (2 * d + p))
      | 2 => some (.port2 (2 * d + p))
      | _ => none
    else none
  else if idx = 0x2800 then some .map
  else if 0x2810 ≤ idx ∧ idx ≤ 0x2817 then inCount n (idx - 0x2810) .mapDie
  else if idx = 0x2820 then some .tenStat
  else if 0x3000 ≤ idx ∧ idx ≤ 0x33FF then some (.ten (idx - 0x3000))
  else if 0x3400 ≤ idx ∧ idx ≤ 0x37FF then some (.homeKey (idx - 0x3400))
  else if 0x3800 ≤ idx ∧ idx ≤ 0x383F then some (.transitKey (idx - 0x3800))
  else none

/-- 0x4000–0x4FFF (04 R114, 05 R131). -/
def classify4 (n idx : Nat) : Option Cls :=
  let d := idx % 0x800 / 0x100
  let g := 8 * d + idx % 0x100 / 0x20
  let r := idx % 0x20
  if n ≤ d then none
  else if idx < 0x4800 then
    match r with
    | 0 => some (.chan g)
    | 1 => some (.rank (2 * g))
    | 2 => some (.rank (2 * g + 1))
    | 3 => if g % 2 = 0 then some (.quad d (g % 8 / 2)) else none
    | 4 => some (.scrub g)
    | _ => none
  else
    match r with
    | 0 => some (.train g)
    | 1 => some (.trainRank (2 * g))
    | 2 => some (.trainRank (2 * g + 1))
    | _ => none

/-- 0x5000–0x5FFF. -/
def classify5 (n idx : Nat) : Option Cls :=
  if idx = 0x5000 then some .classPkg
  else if 0x5010 ≤ idx ∧ idx ≤ 0x501F then inCount (2 * n) (idx - 0x5010) .classPort
  else if idx = 0x5800 then some .shadow0
  else if idx = 0x5801 then some .shadow1
  else if idx = 0x5802 then some .shadow2
  else if idx = 0x5803 then some .shadow3
  else if idx = 0x5804 then some .shadow4
  else if 0x5810 ≤ idx ∧ idx ≤ 0x5817 then some (.perSnow (idx - 0x5810))
  else if 0x5818 ≤ idx ∧ idx ≤ 0x581F then some (.perCkpt (idx - 0x5818))
  else if 0x5820 ≤ idx ∧ idx ≤ 0x5827 then some (.perState (idx - 0x5820))
  else if 0x5828 ≤ idx ∧ idx ≤ 0x582F then some (.perShare (idx - 0x5828))
  else if 0x5840 ≤ idx ∧ idx % 0x100 = 0x40 then inCount n ((idx - 0x5840) / 0x100) .dieShadow
  else none

/-- 0x6000–0x6FFF. -/
def classify6 (n idx : Nat) : Option Cls :=
  if idx < 0x6800 then
    let d := (idx - 0x6000) / 0x100
    let r := idx % 0x100
    if n ≤ d then none
    else if r = 0 then some (.glacier d)
    else if 0x10 ≤ r ∧ r ≤ 0x1F then some (.flashChan d (r - 0x10))
    else none
  else if idx = 0x6800 then some .freeze
  else if 0x6810 ≤ idx ∧ idx ≤ 0x6817 then inCount n (idx - 0x6810) .freezeDie
  else if idx = 0x6900 then some .spare
  else if 0x6910 ≤ idx ∧ idx ≤ 0x6917 then inCount n (idx - 0x6910) .spareDie
  else if 0x6920 ≤ idx ∧ idx ≤ 0x699F then inCount (16 * n) (idx - 0x6920) .spareRank
  else none

/-- 0x7000–0x7FFF. -/
def classify7 (n idx : Nat) : Option Cls :=
  if idx = 0x7000 then some .bat0
  else if idx = 0x7001 then some .bat1
  else if idx = 0x7002 then some .bat2
  else if idx = 0x7003 then some .bat3
  else if idx = 0x7004 then some .bat4
  else if idx = 0x7100 then some .pow0
  else if idx = 0x7101 then some .pow1
  else if 0x7110 ≤ idx ∧ idx ≤ 0x7117 then inCount n (idx - 0x7110) .powDie
  else if 0x7140 ≤ idx ∧ idx ≤ 0x71FF then
    if (idx - 0x7140) / 24 < n then some (.rail ((idx - 0x7140) / 24) ((idx - 0x7140) % 24))
    else none
  else if 0x7200 ≤ idx ∧ idx ≤ 0x72FF then
    let d := (idx - 0x7200) / 0x20
    let r := idx % 0x20
    if n ≤ d then none
    else if r = 0 then some (.adc d)
    else if r ≤ 4 then some (.timer d (r - 1))
    else if r ≤ 0x14 then some (.entry d (r - 5))
    else none
  else if idx = 0x7300 then some .clk
  else if 0x7310 ≤ idx ∧ idx ≤ 0x7317 then inCount n (idx - 0x7310) .clkDie
  else if idx = 0x7400 then some .wire
  else none

/-- 16 R365, Table 16.1: the unit at an index in a package of n dies; none where the index does not
exist (15 R341, check 1). -/
def classify (n idx : Nat) : Option Cls :=
  match idx / 0x1000 with
  | 1 => classify1 n idx
  | 2 => classify2 n idx
  | 3 => classify2 n idx
  | 4 => classify4 n idx
  | 5 => classify5 n idx
  | 6 => if idx < 0x6000 then none else classify6 n idx
  | 7 => classify7 n idx
  | _ => none

/-- Rows of a key slot: K.05 exists on transit slots only (03 Table 03.7). -/
def rowsKeySlot (transit : Bool) : List ObjRow :=
  if transit then rowsKey else rowsKey.filter fun r => r.sub ≠ 5

/-- Rows of a die's glacier: .0E and .0F exist on die 0 only (08 R212). -/
def rowsGlacierOf (d : Nat) : List ObjRow :=
  if d = 0 then rowsGlacier else rowsGlacier.filter fun r => r.sub ≠ 0x0E ∧ r.sub ≠ 0x0F

/-- The rows of a unit in a package of n dies. -/
def Cls.rows (n : Nat) : Cls → List ObjRow
  | .ident => rowsIdent
  | .dieLink _ => rowsDieLink
  | .busStat => rowsBusStat
  | .busCfg => rowsBusCfg
  | .busTime => rowsBusTime
  | .rackKey => rowsRackKey
  | .session _ => rowsSession
  | .violations => rowsViolations
  | .recPkg => rowsRecPkg
  | .recDie _ => rowsRecDie
  | .fwStat => rowsFwStat
  | .fwXfer => rowsFwXfer
  | .fwAct => rowsFwAct
  | .measure _ => rowsMeasure
  | .port0 g => rowsPort0 g
  | .port1 _ => rowsPort1
  | .port2 _ => rowsPort2
  | .map => rowsMap
  | .mapDie _ => rowsMapDie
  | .tenStat => rowsTenStat
  | .ten k => rowsTen k
  | .homeKey _ => rowsKeySlot false
  | .transitKey _ => rowsKeySlot true
  | .chan _ => rowsChan
  | .rank _ => rowsRank
  | .quad _ _ => rowsQuad
  | .scrub _ => rowsScrub
  | .train _ => rowsTrain
  | .trainRank _ => rowsTrainRank
  | .classPkg => rowsClassPkg
  | .classPort _ => rowsClassPort
  | .shadow0 => rowsShadow0 n
  | .shadow1 => rowsShadow1
  | .shadow2 => rowsShadow2
  | .shadow3 => rowsShadow3
  | .shadow4 => rowsShadow4
  | .perSnow _ => rowsPerTen .u64 0xFFFFFFFFFFFFFFFF .reset
  | .perCkpt _ => rowsPerTen .u64 0xFFFFFFFFFFFFFFFF .ledger
  | .perState _ => rowsPerTen .u8 0xFF .reset
  | .perShare _ => rowsPerTen .u64 0xFFFFFFFFFFFFFFFF .reset
  | .dieShadow _ => rowsDieShadow
  | .glacier d => rowsGlacierOf d
  | .flashChan _ _ => rowsFlashChan
  | .freeze => rowsFreeze n
  | .freezeDie _ => rowsFreezeDie
  | .spare => rowsSpare
  | .spareDie _ => rowsSpareDie
  | .spareRank _ => rowsSpareRank
  | .bat0 => rowsBat0
  | .bat1 => rowsBat1
  | .bat2 => rowsBat2
  | .bat3 => rowsBat3 n
  | .bat4 => rowsBat4
  | .pow0 => rowsPow0
  | .pow1 => rowsPow1
  | .powDie _ => rowsPowDie
  | .rail _ i => rowsRail i
  | .adc _ => rowsAdc
  | .timer d t => rowsTimer d t
  | .entry d e => rowsEntry d e
  | .clk => rowsClk
  | .clkDie _ => rowsClkDie
  | .wire => rowsWire

/-- The row of a subindex in a list of rows. -/
def findRow (sub : Nat) : List ObjRow → Option ObjRow
  | [] => none
  | r :: rs => if r.sub = sub then some r else findRow sub rs

/-- The row of an object; none where index or subindex does not exist. -/
def objRow (n idx sub : Nat) : Option ObjRow :=
  match classify n idx with
  | some c => findRow sub (c.rows n)
  | none => none

/-- 15 R337: the highest subindex defined at an index. -/
def topSub (rows : List ObjRow) : Nat := rows.foldl (fun m r => max m r.sub) 0

/-- Key of an object in the register file. -/
def okey (idx sub : Nat) : Nat := idx * 256 + sub

/-- Default of an object by its key (0 where the key names none). -/
def objDefault (n key : Nat) : Nat :=
  match objRow n (key / 256) (key % 256) with
  | some r => r.dflt
  | none => 0

/-- What a package reset does with the object of a key. -/
def objKeep (n key : Nat) : Keep :=
  match objRow n (key / 256) (key % 256) with
  | some r => r.keep
  | none => .reset

end Sys2Proof.Machine
end

