-- ==== Sys2Proof/Machine/Ops.lean ====
section
/-! DEFINITION. Named operations over the whole state: the register file, indices of objects,
answers, free values, and the event recorder's staging queue, which every family uses. -/
namespace Sys2Proof.Machine

/-- Largest values of the unsigned types, where counters saturate (15 R338). -/
def u8max : Nat := 0xFF
def u16max : Nat := 0xFFFF
def u32max : Nat := 0xFFFFFFFF
def u64max : Nat := 0xFFFFFFFFFFFFFFFF
def time48 (t : Nat) : Nat := t % 2 ^ 48

/-- Number of dies of the package. -/
def State.n (s : State) : Nat := s.build.variant.dies

/-- Read an object of the register file. -/
def State.reg (s : State) (idx sub : Nat) : Nat :=
  look (objDefault s.n (okey idx sub)) s.regs (okey idx sub)

/-- Write an object of the register file. -/
def State.setReg (s : State) (idx sub v : Nat) : State :=
  { s with regs := put (objDefault s.n (okey idx sub)) s.regs (okey idx sub) v }

/-- Count up, saturating at a bound. -/
def State.addReg (s : State) (idx sub k top : Nat) : State :=
  s.setReg idx sub (min top (s.reg idx sub + k))

/-- Count one on a saturating U32 counter. -/
def State.inc (s : State) (idx sub : Nat) : State := s.addReg idx sub 1 u32max

/-- Bytes of a STRING or DOMAIN object of the byte store. -/
def State.dom (s : State) (idx sub : Nat) : Bytes := look [] s.doms (okey idx sub)

/-- Replace the bytes of a STRING or DOMAIN object. -/
def State.setDom (s : State) (idx sub : Nat) (b : Bytes) : State :=
  { s with doms := put [] s.doms (okey idx sub) b }

/-- Signed value of a raw 32-bit word. -/
def signed32 (v : Nat) : Int := if v < 2 ^ 31 then v else (v : Int) - 2 ^ 32

/-- Raw 32-bit word of a signed value, saturating. -/
def raw32 (v : Int) : Nat :=
  if v ≥ 2 ^ 31 then 2 ^ 31 - 1 else if v ≥ 0 then v.toNat
  else if v < -(2 ^ 31) then 2 ^ 31 else (v + 2 ^ 32).toNat

/-- Indices of replicated objects (16 Table 16.2). -/
def ixPort (g : Nat) : Nat := 0x2000 + 0x100 * (g / 2) + 0x10 * (g % 2)
def ixChan (g : Nat) : Nat := 0x4000 + 0x100 * (g / 8) + 0x20 * (g % 8)
def ixRank (r : Nat) : Nat := ixChan (r / 2) + 1 + r % 2
def ixQuad (d q : Nat) : Nat := 0x4000 + 0x100 * d + 0x40 * q + 3
def ixTrain (g : Nat) : Nat := 0x4800 + 0x100 * (g / 8) + 0x20 * (g % 8)
def ixTrainRank (r : Nat) : Nat := ixTrain (r / 2) + 1 + r % 2
def ixShadow (d : Nat) : Nat := 0x5840 + 0x100 * d
def ixGlacier (d : Nat) : Nat := 0x6000 + 0x100 * d
def ixFlash (d f : Nat) : Nat := ixGlacier d + 0x10 + f
def ixRail (d i : Nat) : Nat := 0x7140 + 24 * d + i
def ixAdc (d : Nat) : Nat := 0x7200 + 0x20 * d
/-- Per-tenancy objects (07 R183): index and subindex of tenancy n at a base. -/
def ixPer (base n : Nat) : Nat := base + n / 128
def subPer (n : Nat) : Nat := 1 + n % 128

/-- Put an answer on a link, bus or pin. -/
def State.emit (s : State) (o : Output) : State := { s with out := s.out ++ [o] }

/-- Draw a free value (log 7): the value and the state with the counter advanced. -/
def State.draw (s : State) : Nat × State :=
  (Config.freeNat s.freeCount, { s with freeCount := s.freeCount + 1 })

/-- Dies of the package. -/
def State.dieList (s : State) : List Nat := List.range s.n

/-- DRAM channels of the package. -/
def State.chanList (s : State) : List Nat := List.range (8 * s.n)

/-- The default rate limit of a channel in MT/s (04 C.01). -/
def topRate : Nat := 8800

/-- The rate limit that the last package reset put into force (04 R84). -/
def State.rateLimit (s : State) (g : Nat) : Nat := look topRate s.dram.limits g

/-- The rank entry of a global rank; absent where unlisted. -/
def noRank : Rank :=
  { train := 0, st := 0, density := 0, stack := 0, trained := false, refresh := 0, normalCount := 0, selfRefresh := false, ueBuckets := [],
    ceBuckets := [], filter := [], parity := [], initPass := false, wantRead := false,
    mr4At := 0, wantWrite := false, recalWrite := false, meas0 := [], meas1 := [], edges := [], base := [], oscAt := 0, probeAt := 0,
    oscDue := none, probeDue := none }

/-- The rank's training state is in service, recalibrating or not (05 G+1+k.01). -/
def Rank.serves (k : Rank) : Bool := decide (k.train = 1) || decide (k.train = 4)

def State.rank (s : State) (r : Nat) : Rank := look noRank s.dram.ranks r
def State.setRank (s : State) (r : Nat) (k : Rank) : State :=
  { s with dram := { s.dram with ranks := put noRank s.dram.ranks r k } }

/-- The quadrant entry by 4 x die + q; not powered where unlisted. -/
def noQuad : Quad :=
  { st := 5, rate := 0, trained := false, lowered := false, hibEntry := false, returning := false, deepAt := 0,
    unmarked := [] }

def State.quad (s : State) (d q : Nat) : Quad := look noQuad s.dram.quads (4 * d + q)
def State.setQuad (s : State) (d q : Nat) (x : Quad) : State :=
  { s with dram := { s.dram with quads := put noQuad s.dram.quads (4 * d + q) x } }

def noChan : Chan :=
  { reads := [], writes := [], issued := [], arrivals := 0, batch := false, deep := false, lastSlice := none,
    slice := none, afterSlice := [], columnLast := false, actAt := none }

def State.chan (s : State) (sc : Nat) : Chan := look noChan s.dram.chans sc
def State.setChan (s : State) (sc : Nat) (c : Chan) : State :=
  { s with dram := { s.dram with chans := put noChan s.dram.chans sc c } }

def noBank : Bank :=
  { openRow := none, streak := 0, postponed := 0, raa := 0, refreshing := false, p1 := false, whole := false,
    urgent := false, rfm := false, yields := [], waiting := [] }

/-- Bank key: subchannel, rank position, then the bank number (chip, group, bank) below 256. -/
def bankKey (sc k b : Nat) : Nat := (2 * sc + k) * 256 + b

def State.bank (s : State) (sc k b : Nat) : Bank := look noBank s.dram.banks (bankKey sc k b)
def State.setBank (s : State) (sc k b : Nat) (x : Bank) : State :=
  { s with dram := { s.dram with banks := put noBank s.dram.banks (bankKey sc k b) x } }

/-- Die of a subchannel, a channel, a rank. -/
def dieOfSub (sc : Nat) : Nat := sc / 16
def dieOfRank (r : Nat) : Nat := r / 16
/-- Quadrant within the die of a global rank or a subchannel. -/
def quadOfRank (r : Nat) : Nat := r % 16 / 4
def quadOfSub (sc : Nat) : Nat := sc % 16 / 4

def noLog : EvLog := { recs := [], overflow := false }

def noSpdm : Spdm :=
  { stage := 0, handshake := false, session := false, updates := 0 }

def noLink : HLink :=
  { st := 0, speed := 0, width := 0, latOpt := false, ideUp := false, ideKeyed := false, rekeyDue := false,
    tokens := 0, info := noLog, warning := noLog, failure := noLog, fatal := noLog, policy := 0,
    nextHandle := 0, hdm := [], msix := [], aer := 0, spdm := noSpdm }

/-- Fields of an HDM decoder at reset: base and size 0, one way, granularity 256 B (log 145). -/
def hdmDefault (field : Nat) : Nat := if field = 2 then 1 else if field = 3 then 256 else 0

/-- A field of an HDM decoder: 0 base, 1 size, 2 ways, 3 granularity. -/
def HLink.hdmField (k : HLink) (dec field : Nat) : Nat := look (hdmDefault field) k.hdm (4 * dec + field)

/-- Key of a link: global port and link within the port. -/
def linkKey (port link : Nat) : Nat := 4 * port + link

def State.hlink (s : State) (port link : Nat) : HLink :=
  look noLink s.hosts.links (linkKey port link)
def State.setLink (s : State) (port link : Nat) (l : HLink) : State :=
  { s with hosts := { s.hosts with links := put noLink s.hosts.links (linkKey port link) l } }

/-- Links a port has under its bifurcation in force (02 R35), and the lanes of each. -/
def linksOf (b : Nat) : Nat := if b = 0 then 1 else if b = 1 then 2 else 4
def lanesOf (b : Nat) : Nat := 16 / linksOf b

def State.bifOf (s : State) (port : Nat) : Nat := look 0 s.hosts.bifurcation port

def noTen : Tenancy :=
  { st := 0, base := 0, limit := 0, mode := 0, cls := 0xAAAAAAAA, rights := 0, share := 0,
    transit := 0, watermark := u64max, newBase := 0, newLimit := 0, created := [] }

def State.tenancy (s : State) (k : Nat) : Tenancy := look noTen s.ten.table k
def State.setTen (s : State) (k : Nat) (t : Tenancy) : State :=
  { s with ten := { s.ten with table := put noTen s.ten.table k t } }

def noKey : KeySlot := { st := 0, material := 0, gen := 0, ten := 0xFFFF }

/-- Home slot k at k, transit slot t at 1,024 + t. -/
def State.keySlot (s : State) (k : Nat) : KeySlot := look noKey s.ten.keys k
def State.setKey (s : State) (k : Nat) (x : KeySlot) : State :=
  { s with ten := { s.ten with keys := put noKey s.ten.keys k x } }

def noDieShadow : DieShadow :=
  { pumps := [], first := [], cursor1 := 0, cursor2 := 0, cursor3 := 0, units := [], reads := [],
    luns := [], blocks := [], staleEpoch := [], pages := [], moraine := [], intents := [],
    progSeq := 0, rotation := 0, lunTurn := [], gcOn := false, relocate := [], verifyAt := 0, verifySince := 0, verifyHeld := false,
    closing := none, mapAddr := [], indexAddr := [], rootAddr := 0, phase := 0, jobs := [], mapPages := [],
    mapChanged := [], heatChanged := [], sealA := none, sealB := none, freezeSeal := none, openSince := [],
    unsent := [], nextUnit := 0 }

def State.die (s : State) (d : Nat) : DieShadow := look noDieShadow s.shadow.dies d
def State.setDie (s : State) (d : Nat) (x : DieShadow) : State :=
  { s with shadow := { s.shadow with dies := put noDieShadow s.shadow.dies d x } }

def noLun : Lun :=
  { failed := false, openData := none, openMap := none, erasing := none, suspends := 0, susp := 0,
    notReady := [] }

def noAdc : Adc :=
  { running := false, current := none, injCh := 0, injGain := 1, pending := [], delayed := [],
    rails := [], started := [], capture := 0, samples := [], spare := 12, path := List.range 12,
    calibrated := false, deferred := false, swapDue := false, stopped := false, judged := false, throttleAt := none, hot := false,
    sensorBad := false }

def State.adcOf (s : State) (d : Nat) : Adc := look noAdc s.adc d
def State.setAdc (s : State) (d : Nat) (a : Adc) : State :=
  { s with adc := put noAdc s.adc d a }

def noClocks : Clocks := { unlocked := [], failed := [], holdover := false }

def State.clk (s : State) (d : Nat) : Clocks := look noClocks s.clocks d
def State.setClk (s : State) (d : Nat) (c : Clocks) : State :=
  { s with clocks := put noClocks s.clocks d c }

def noSession : Session :=
  { isOpen := false, node := 0, openedAt := 0, ks := 0, rxCtr := 0, txCtr := 0, fails := 0,
    accepted := 0, lastAt := 0, chunkBad := false }

def State.session (s : State) (k : Nat) : Session := look noSession s.bus.sessions k
def State.setSession (s : State) (k : Nat) (x : Session) : State :=
  { s with bus := { s.bus with sessions := put noSession s.bus.sessions k x } }

def noRecorder : Recorder :=
  { ring := [], newest := none, newestOff := 0, nextSeq := 0, nextOff := 0, oldest := 0,
    index := [], queue := [], lost := 0, lostAhead := 0, lostFirst := 0, lostLast := 0, tokens := 64000000000, tokenAt := 0,
    cursors := [], gaps := [] }

def State.recorder (s : State) (d : Nat) : Recorder := look noRecorder s.recs d
def State.setRecorder (s : State) (d : Nat) (r : Recorder) : State :=
  { s with recs := put noRecorder s.recs d r }

/-- Device time valid (14 R323). -/
def State.timeValid (s : State) : Bool := s.reg 0x7300 6 = 1

/-- TYPE of a report: fixed by the manual, or with the low byte of the description file (log 9). -/
def Staged.ty (x : Staged) : Nat :=
  match x.cause with
  | some c => x.typ + (Config.recordLow c).toNat
  | none => x.typ

/-- Payload of a report, at most 56 bytes. -/
def Staged.data (x : Staged) : Bytes :=
  match x.cause with
  | some c => (Config.recordPayload c x.args).take 56
  | none => x.payload.take 56

/-- Two reports are one event repeated (19 R407 step 1): same TYPE, and the same first eight payload bytes or, where
shorter, the same payload. Equal figures of one cause give equal payloads. -/
def sameReport (a b : Staged) : Bool :=
  decide (a.typ = b.typ) && decide (a.cause = b.cause) &&
    ((decide (a.args = b.args) && decide (a.payload = b.payload)) ||
      (decide (a.data.take 8 = b.data.take 8) &&
        (decide (8 ≤ a.data.length ∧ 8 ≤ b.data.length) || decide (a.data.length = b.data.length))))

/-- Count one more occurrence on the first entry that a report repeats. -/
def coalesce (x : Staged) : List Staged → Option (List Staged)
  | [] => none
  | e :: q =>
    if sameReport e x && decide (e.sev ≠ 3) && decide (x.sev ≠ 3) && !e.single then
      some ({ e with count := min u16max (e.count + 1) } :: q)
    else (coalesce x q).map (e :: ·)

/-- Take the first Informational entry off a list. -/
def dropInfo : List Staged → Option (List Staged)
  | [] => none
  | e :: r => if e.sev = 0 then some r else (dropInfo r).map (e :: ·)

/-- Take the newest Informational entry off a queue (19 R407 step 3). -/
def evictInfo (q : List Staged) : Option (List Staged) := (dropInfo q.reverse).map List.reverse

/-- Add a lost report to the loss record of entry 63 (19 R407 step 4), which is written after the
entries queued before its first loss. -/
def Recorder.lose (r : Recorder) (t : Nat) : Recorder :=
  { r with
    lost := r.lost + 1
    lostAhead := if r.lost = 0 then r.queue.length else min r.lostAhead r.queue.length
    lostFirst := if r.lost = 0 then t else r.lostFirst
    lostLast := t }

/-- 19 R407: put a report into a die's staging queue: coalesce, enter, evict or lose. A report
raised in state 14 is not recorded (R409). -/
def State.stage (s : State) (d : Nat) (x : Staged) : State :=
  let r := s.recorder d
  if s.seq.st = 14 then s else
  match coalesce x r.queue with
  | some q => (s.setRecorder d { r with queue := q }).inc (0x1210 + d) 5
  | none =>
    if r.queue.length < 63 then s.setRecorder d { r with queue := r.queue ++ [x] }
    else
      match if x.sev ≥ 2 then evictInfo r.queue else none with
      | some q =>
        (s.setRecorder d (Recorder.lose { r with queue := q ++ [x] } s.aon.deviceTime)).inc
          (0x1210 + d) 4
      | none => (s.setRecorder d (r.lose s.aon.deviceTime)).inc (0x1210 + d) 4

/-- Causes of records whose TYPE low byte and payload the description file gives (19 R403). The
number names the event; the high byte of TYPE is `cause / 256`. -/
def cViolation : Nat := 0x3001
def cRefusal : Nat := 0x3002
def cDictViolation : Nat := 0x1101
def cMediaNotReady : Nat := 0x2001
def cUnreachable : Nat := 0x1001
def cLinkDown : Nat := 0x1002
def cLinkUp : Nat := 0x1003
def cHostLink : Nat := 0x2002
def cIdeFail : Nat := 0x2003
def cIdeUp : Nat := 0x2004
def cIdeStop : Nat := 0x200A
def cCdat : Nat := 0x2005
def cTimeIgnored : Nat := 0x2006
def cMedia : Nat := 0x4001
def cWriteOverPoison : Nat := 0x4002
def cHealDone : Nat := 0x6901
def cHealBad : Nat := 0x6902
def cPoisonRemoved : Nat := 0x4003
def cPoisonOverflow : Nat := 0x2007
def cPoisonRange : Nat := 0x6802
def cLostRange : Nat := 0x6903
def cLinePoisoned : Nat := 0x6904
def cCopyStart : Nat := 0x6905
def cCopyDone : Nat := 0x6906
def cSpareExhausted : Nat := 0x6907
def cRankLost : Nat := 0x6908
def cSpareFailed : Nat := 0x6909
def cHealthSet : Nat := 0x2008
def cHealthClear : Nat := 0x2009
def cDirtyShutdown : Nat := 0x6803
def cThawEpoch : Nat := 0x6804
def cThawFreeze : Nat := 0x6805
def cThawDone : Nat := 0x6806
def cThawProgress : Nat := 0x6807
def cDieNoSeal : Nat := 0x6808
def cPageUnreadable : Nat := 0x6809
def cDisarmed : Nat := 0x5801
def cArmed : Nat := 0x5802
def cScaled : Nat := 0x5803
def cProgramFail : Nat := 0x5804
def cReservedFirn : Nat := 0x5805
def cWearHorizon : Nat := 0x5806
def cRefreshDouble : Nat := 0x4004
def cRefreshSingle : Nat := 0x4005
def cOverTemp : Nat := 0x4006
def cOverTempEnd : Nat := 0x4007
def cCorrected : Nat := 0x4008
def cSumpRebuilt : Nat := 0x4009
def cParity : Nat := 0x400A
def cScrubLate : Nat := 0x400B
def cInterleave : Nat := 0x2801
def cRankHeld : Nat := 0x4801
def cRankFailed : Nat := 0x4802
def cRateLowered : Nat := 0x4803
def cRecalFailed : Nat := 0x4804
def cFlashDiffers : Nat := 0x6001
def cVerify : Nat := 0x6002
def cLunFailed : Nat := 0x6003
def cThermistor : Nat := 0x7001
def cEmpty : Nat := 0x7002
def cLearnDone : Nat := 0x7003
def cLearnWeak : Nat := 0x7004
def cLearnRefused : Nat := 0x7005
def cPackChange : Nat := 0x7006
def cDecay : Nat := 0x7007
def cRailFailed : Nat := 0x7101
def cDieOut : Nat := 0x7102
def cSlice : Nat := 0x7201
def cHoldover : Nat := 0x7301
def cOscillator : Nat := 0x7302
def cRestart : Nat := 0x7303
def cHeldInReset : Nat := 0x7304
def cNodeStrap : Nat := 0x1102
def cOwnNode : Nat := 0x1103
def cTimeStep : Nat := 0x1104
def cAttention : Nat := 0x7401
def cTransferFail : Nat := 0x1301
def cBootFail : Nat := 0x1302
def cActivation : Nat := 0x1303
def cThrottle : Nat := 0x1004
def cFatalTemp : Nat := 0x1005
def cSensorFault : Nat := 0x1006

/-- Raise a record of a cause on a die's ring: severity, realms that may read it (0 all), and
arguments of the payload (19 R403, R404). -/
def State.report (s : State) (d cause sev vis : Nat) (args : List Nat) : State :=
  s.stage d
    { typ := cause / 256 * 256, cause := some cause, args, sev, vis, payload := [],
      time := s.aon.deviceTime, tv := s.timeValid, count := 1,
      single := Config.recordSingle cause }

/-- The block idles while its AON supply is gone; else run an effect on a clean output. -/
def State.fresh (s : State) : State := { s with out := [] }

/-- The realm an operation acts in (15 R339, 02 R39). -/
def State.realm (s : State) : Origin → Realm
  | .mailbox port _ => if s.reg (ixPort port) 3 = 1 then .hostOwner else .tenant
  | .fieldBus _ _ => .rack
  | .twoWire => .board

/-- Source address of an operation (15 R346). -/
def sourceAddress : Origin → Nat
  | .mailbox port link => port * 256 + link
  | .fieldBus h _ => h.src
  | .twoWire => 0

/-- CDAT has changed on every link whose port holds rights (02 R51): an Informational record. -/
def State.cdatChanged (s : State) : State := s.report 0 cCdat 0 0 []

end Sys2Proof.Machine
end

