-- ==== Sys2Proof/Machine/Map.lean ====
section
/-! DEFINITION. The device address map: sizes of ranks and regions, the decode of a device physical
address to die, rank and rank offset, home dies and home drifts, tenancy cover, keys, routes between
dies, and the reading and writing of stored lines (01, 03, 10). -/
namespace Sys2Proof.Machine

def kib (k : Nat) : Nat := k * 1024
def mib (k : Nat) : Nat := k * 1024 ^ 2
def gib (k : Nat) : Nat := k * 1024 ^ 3
def tib (k : Nat) : Nat := k * 1024 ^ 4
/-- Bytes of a flake and of a drift (00 R5). -/
def flakeBytes : Nat := 16384
def driftBytes : Nat := 2097152

/-- Data bytes of a rank: 16 stacks of density x height Gbit (01, Capacity). -/
def rankBytes (density stack : Nat) : Nat := density * stack * 2 ^ 31

/-- Capacity of a global rank as trained; 0 where it is not populated. -/
def State.capOf (s : State) (r : Nat) : Nat := rankBytes (s.rank r).density (s.rank r).stack

/-- Global ranks of the package. -/
def State.rankList (s : State) : List Nat := List.range (16 * s.n)

/-- Ranks that trained at the last start-up training (04 R82). -/
def State.populated (s : State) : List Nat := s.rankList.filter fun r => s.capOf r ≠ 0

/-- Spare placement in force on a die (03 Table 03.2). -/
def State.spareBits (s : State) (d : Nat) : Nat := look 0 s.dram.spareMask d

/-- The rank position is a spare of its die. -/
def State.isSpare (s : State) (r : Nat) : Bool := bitOf (s.spareBits (dieOfRank r)) (r % 16)

/-- Data ranks of a die, spares excluded; a failed or held rank keeps the place that the population
record gives it (05 R119). -/
def State.dataRanks (s : State) (d : Nat) : List Nat :=
  (List.range 16).filterMap fun i =>
    let r := 16 * d + i
    if s.capOf r ≠ 0 ∧ s.isSpare r = false then some r else none

/-- 03 R64: mapped capacity of a rank: the smallest populated rank. -/
def State.crank (s : State) : Nat :=
  match s.populated with
  | [] => 0
  | r :: rs => rs.foldl (fun m q => min m (s.capOf q)) (s.capOf r)

/-- U_d: usable DRAM of a die (03 R58). -/
def State.usable (s : State) (d : Nat) : Nat := (s.dataRanks d).length * s.crank

/-- H: host-visible capacity (01 R31). -/
def State.hostVisible (s : State) : Nat := (s.dieList.map s.usable).sum

/-- Populated bytes of a die, spares included. -/
def State.popDie (s : State) (d : Nat) : Nat :=
  ((List.range 16).map fun i => s.capOf (16 * d + i)).sum

/-- Populated bytes of the package (0x1000.03). -/
def State.popBytes (s : State) : Nat := (s.dieList.map s.popDie).sum

/-- 03 R64: populated bytes that are not mapped, over the ranks that trained (0x2800.08). -/
def State.unmapped (s : State) : Nat :=
  ((s.populated.filter fun r => (s.rank r).trained).map fun r => s.capOf r - s.crank).sum

/-- Round up to a multiple. -/
def roundUp (v m : Nat) : Nat := (v + m - 1) / m * m

/-- 03 R59: the sump a die needs of itself: 0.04 % of its populated DRAM, at least what its maps
need, in whole drifts, and under 1 GiB interleave such that the rest is whole GiB. -/
def State.sumpAlone (s : State) (d : Nat) : Nat :=
  let u := s.usable d
  if u = 0 then 0
  else
    let a := roundUp ((s.popDie d * 4 + 9999) / 10000) driftBytes
    let b := max a (roundUp (836 * (u / driftBytes)) driftBytes)
    if s.dram.interleave = 4 then u - (u - b) / gib 1 * gib 1 else b

/-- 03 R59: S_d. -/
def State.sump (s : State) (d : Nat) : Nat :=
  if s.dram.interleave = 0 then s.sumpAlone d
  else if s.usable d = 0 then 0
  else (s.dieList.map s.sumpAlone).foldl max 0

/-- u(d): assignable bytes of a die (03 R61). -/
def State.assign (s : State) (d : Nat) : Nat := s.usable d - s.sump d

/-- Total sump and A (03 R58). -/
def State.sumpTotal (s : State) : Nat := (s.dieList.map s.sump).sum
def State.assignable (s : State) : Nat := s.hostVisible - s.sumpTotal

/-- Die granule of an interleave code (03 R60). -/
def granuleOf (code : Nat) : Nat :=
  if code = 1 then kib 4 else if code = 2 then kib 64 else if code = 3 then mib 2 else gib 1

/-- Channel granule of its code (03 R63). -/
def chanGranule (code : Nat) : Nat := if code = 0 then 256 else if code = 1 then kib 4 else kib 16

/-- Walk of the dies without interleave (03 R61): dies left, die, remaining offset. -/
def walkDies (u : Nat → Nat) : Nat → Nat → Nat → Nat × Nat
  | 0, d, o => (d, o)
  | k + 1, d, o => if o < u d then (d, o) else walkDies u k (d + 1) (o - u d)

/-- 03 R61: die and die offset of an assignable DPA. -/
def State.dieOf (s : State) (o : Nat) : Nat × Nat :=
  if s.dram.interleave = 0 then walkDies s.assign (s.n - 1) 0 o
  else
    let g := granuleOf s.dram.interleave
    (o / g % s.n, o / (g * s.n) * g + o % g)

/-- 03 R61: die and die offset of any DPA below H. -/
def State.dieAny (s : State) (o : Nat) : Nat × Nat :=
  if o < s.assignable then s.dieOf o
  else
    let p := walkDies s.sump (s.n - 1) 0 (o - s.assignable)
    (p.1, s.assign p.1 + p.2)

/-- Channels of a die that contribute to a rank layer, lowest first (03 R63). -/
def State.layer (s : State) (d j : Nat) : List Nat :=
  (List.range 8).filter fun c => (s.dataRanks d).elem (16 * d + 2 * c + j)

/-- 03 R63: logical global rank and rank offset of a die offset. -/
def State.rankOf (s : State) (d off : Nat) : Nat × Nat :=
  let cr := s.crank
  let h := chanGranule s.dram.granule
  let w0 := (s.layer d 0).length
  let j := if off < w0 * cr then 0 else 1
  let x := if off < w0 * cr then off else off - w0 * cr
  let l := s.layer d j
  let w := max 1 l.length
  let i := x / h % w
  (16 * d + 2 * (l.getD i 0) + j, x / (h * w) * h + x % h)

/-- Where a DPA lies: die, logical rank and rank offset. -/
structure Place where
  die : Nat
  rank : Nat
  off : Nat
  deriving DecidableEq, Repr

def State.place (s : State) (o : Nat) : Place :=
  let p := s.dieAny o
  let q := s.rankOf p.1 p.2
  { die := p.1, rank := q.1, off := q.2 }

/-- DPA of a die offset in the assignable region (the decode of 03 R61 turned round). -/
def State.dpaOfDie (s : State) (d off : Nat) : Nat :=
  if off ≥ s.assign d then
    s.assignable + ((List.range d).map s.sump).sum + (off - s.assign d)
  else if s.dram.interleave = 0 then ((List.range d).map s.assign).sum + off
  else
    let g := granuleOf s.dram.interleave
    off / g * (g * s.n) + d * g + off % g

/-- DPA of a logical rank's offset (the decode of 03 R63 turned round). -/
def State.dpaOfRank (s : State) (r off : Nat) : Nat :=
  let d := dieOfRank r
  let j := r % 2
  let l := s.layer d j
  let w := max 1 l.length
  let h := chanGranule s.dram.granule
  let i := l.idxOf (r % 16 / 2)
  let x := (off / h * w + i) * h + off % h
  s.dpaOfDie d (if j = 0 then x else (s.layer d 0).length * s.crank + x)

/-- 04 Table 04.2: subchannel, row and bank of a rank offset. -/
structure Coord where
  sub : Nat
  chip : Nat
  group : Nat
  bank : Nat
  row : Nat
  col : Nat
  deriving DecidableEq, Repr

/-- log2 of a stack height. -/
def stackBits (h : Nat) : Nat := if h = 8 then 3 else if h = 4 then 2 else if h = 2 then 1 else 0

/-- 04 R85, Table 04.2: DRAM coordinates of a rank offset at stack height `h`. -/
def coordOf (h r : Nat) : Coord :=
  let l := stackBits h
  let row := r / 2 ^ (19 + l)
  { sub := r / 64 % 2, chip := r / 2 ^ 19 % 2 ^ l,
    group := Nat.xor (r / 512 % 8) (row % 8), bank := Nat.xor (r / 4096 % 4) (row / 8 % 4),
    row := row, col := r / 128 % 4 + 4 * (r / 2 ^ 14 % 32) }

/-- Bank number below 256 of coordinates: chip, group, bank. -/
def Coord.num (c : Coord) : Nat := (c.chip * 8 + c.group) * 4 + c.bank

/-- Coordinates of a physical rank's offset. -/
def State.coord (s : State) (r off : Nat) : Coord := coordOf (s.rank r).stack off

/-- Global subchannel of a physical rank's offset. -/
def subOf (r off : Nat) : Nat := 2 * (r / 2) + off / 64 % 2

/-- A die's throttle is engaged (20 R424). -/
def State.throttled (s : State) (d : Nat) : Bool := s.reg (0x1010 + d) 6 ≠ 0

/-- RAAIMT and RAAMMT of a rank whose devices require refresh management (04 R95). -/
def State.rfmOf (s : State) (r : Nat) : Option (Nat × Nat) := look? s.build.rfm r

/-- An activate of a row after a precharge, counted where the devices require refresh management (04 R87, R95).
One of P3–P11 on a throttled die starts its spacing (20 R424). -/
def State.activateAt (s : State) (sc k b row : Nat) (low : Bool) : State :=
  let x := s.bank sc k b
  let s := s.setBank sc k b { x with
    openRow := some row, streak := 0
    raa := if (s.rfmOf (sc / 2 * 2 + k)).isSome then x.raa + 1 else x.raa }
  if low && s.throttled (dieOfSub sc) then s.setChan sc { s.chan sc with actAt := some s.aon.now } else s

/-- A column command to a bank: its streak goes on; a page idle timer of 0 closes the page (04 R88). -/
def State.columnAt (s : State) (sc k b : Nat) : State :=
  let x := s.bank sc k b
  s.setBank sc k b
    (if s.reg (ixChan (sc / 2)) 3 = 0 then { x with openRow := none, streak := 0 }
     else { x with streak := x.streak + 1 })

/-- The commands of an access of the SW74's own to a physical line: its row is opened where it is not open, and a
column command follows (04 R86, R87, R95). -/
def State.touchBank (s : State) (r off : Nat) : State :=
  let c := s.coord r off
  let sc := subOf r off
  let s := if (s.bank sc (r % 2) c.num).openRow = some c.row then s else s.activateAt sc (r % 2) c.num c.row true
  s.columnAt sc (r % 2) c.num

/-- Flake of a DPA, and first DPA of a flake (03 R65). -/
def flakeOf (o : Nat) : Nat := o / flakeBytes

/-- 01 R28: the home die of a flake. -/
def State.homeDie (s : State) (m : Nat) : Nat :=
  if s.dram.interleave = 1 then (4 * m + m / 2 % 4) % s.n else (s.dieOf (m * flakeBytes)).1

/-- Position of a flake among its home die's flakes in ascending DPA (01 R29). -/
def State.homeIdx (s : State) (m : Nat) : Nat :=
  let n := s.n
  if s.dram.interleave = 1 then
    (if n = 8 then m / 8 else if n = 4 then m / 8 * 2 + m % 2 else m / 4 * 2 + m % 2)
  else (s.dieOf (m * flakeBytes)).2 / flakeBytes

/-- The flake at a position of a die's home flakes. -/
def State.flakeAt (s : State) (d idx : Nat) : Nat :=
  let n := s.n
  if s.dram.interleave = 1 then
    (if n = 8 then 8 * idx + 2 * (d % 4) + d / 4
     else if n = 4 then 8 * (idx / 2) + 2 * d + idx % 2
     else 4 * (idx / 2) + 2 * d + idx % 2)
  else s.dpaOfDie d (idx * flakeBytes) / flakeBytes

/-- Home drift of a flake as one key: 8 x drift number on the die + die. -/
def State.driftOf (s : State) (m : Nat) : Nat := 8 * (s.homeIdx m / 128) + s.homeDie m

/-- Die of a home-drift key. -/
def dieOfDrift (k : Nat) : Nat := k % 8

/-- Home flakes of a die in listed order of a table keyed by flake. -/
def State.homeOf (s : State) (d : Nat) {α : Type} (m : Sparse α) : List Nat :=
  (m.map (·.1)).filter fun f => s.homeDie f = d

/-- DPAs of the 256 lines of a flake. -/
def flakeLines (m : Nat) : List Nat := (List.range 256).map fun i => m * flakeBytes + 64 * i

/-- The tenancy not FREE that covers a drift. -/
def State.coverOf (s : State) (drift : Nat) : Option Nat :=
  (s.ten.table.find? fun e =>
    decide (e.2.st ≠ 0) && decide (e.2.base ≤ drift) && decide (drift < e.2.limit)).map (·.1)

/-- The tenancy of a DPA below A. -/
def State.tenOf (s : State) (o : Nat) : Option Nat :=
  if o < s.assignable then s.coverOf (o / driftBytes) else none

/-- The tenancy of a flake that is LIVE or FENCED. -/
def State.flakeTen (s : State) (m : Nat) : Option Nat :=
  match s.tenOf (m * flakeBytes) with
  | some k => if (s.tenancy k).st = 1 ∨ (s.tenancy k).st = 2 then some k else none
  | none => none

/-- Persistence mode of the tenancy that covers a flake, a RETIRING one included until its flakes are
trimmed: 0 PERSISTENT, 1 CHECKPOINT, 2 VOLATILE, 3 no tenancy. -/
def State.flakeMode (s : State) (m : Nat) : Nat :=
  match s.tenOf (m * flakeBytes) with
  | some k => (s.tenancy k).mode
  | none => 3

/-- Rights of a port on a tenancy: 3 reads as none (03 Table 03.3). -/
def Tenancy.rightsOf (t : Tenancy) (port : Nat) : Nat :=
  if t.rights / 4 ^ port % 4 = 3 then 0 else t.rights / 4 ^ port % 4

/-- Class a tenancy holds on a port (06 R132). -/
def Tenancy.classOf (t : Tenancy) (port : Nat) : Nat := t.cls / 4 ^ port % 4

/-- A rekey runs on the tenancy (03 R77). -/
def Tenancy.rekeying (t : Tenancy) : Bool := t.watermark ≠ u64max

/-- The transit slot that rekeys a tenancy. -/
def State.transitOf (s : State) (n : Nat) : Option Nat :=
  (s.ten.keys.find? fun e =>
    decide (1024 ≤ e.1) && decide (e.2.ten = n) && (decide (e.2.st = 4) || decide (e.2.st = 5))).map
      (·.1)

/-- 03 R77: the slot whose key a line of tenancy n is stored under: the transit slot below the
watermark of a running rekey, and after its sweep until the seal; else the home slot. -/
def State.slotOf (s : State) (n o : Nat) : Nat :=
  match s.transitOf n with
  | some t =>
    if (s.keySlot t).st = 5 ∨ o < (s.tenancy n).watermark then t else n
  | none => n

/-- Key handle and generation that a request is admitted with (03 R72). -/
def State.keyFor (s : State) (n o : Nat) : KeyRef :=
  let k := s.slotOf n o
  { transit := decide (1024 ≤ k), slot := k, gen := (s.keySlot k).gen }

/-- The handle's generation has not been withdrawn (03 R72). -/
def State.keyLive (s : State) (k : KeyRef) : Bool :=
  decide ((s.keySlot k.slot).gen = k.gen) &&
    (decide ((s.keySlot k.slot).st = 2) || decide ((s.keySlot k.slot).st = 4) ||
      decide ((s.keySlot k.slot).st = 5))

/-- Key material a line is encrypted under now: the tenancy's, or the device key in the sump (03 R74). -/
def State.material (s : State) (o : Nat) : Option (BitVec 512) :=
  match s.tenOf o with
  | some n => some (s.keySlot (s.slotOf n o)).material
  | none => if s.assignable ≤ o ∧ o < s.hostVisible then some Config.deviceKey else none

/-- The tweak of a line: its DPA; in the sump the die number from bit 48 on and the die offset
(03 R74). -/
def State.tweak (s : State) (o : Nat) : Nat :=
  if s.assignable ≤ o ∧ o < s.hostVisible then (s.dieAny o).1 * 2 ^ 48 + (s.dieAny o).2 else o

/-- Decrypt a stored line for the key in force (03 R74, log 5). -/
def State.decrypt (s : State) (o : Nat) (l : Line) (key : Option (BitVec 512)) : Line :=
  match s.material o with
  | some m => if key = some m then l else Config.garble m key (s.tweak o) l
  | none => l

/-- 10 R244: the redirection of a logical rank. -/
def State.redirectOf (s : State) (r : Nat) : Option Redirect := look? s.sparing.redirect r

/-- The logical rank has no DRAM: the rank that carries it is lost (10 R250), or it is held or absent, which is
not used (05 R119). -/
def State.isLost (s : State) (r : Nat) : Bool :=
  let k := s.rank (match s.redirectOf r with
    | some d => if d.complete then d.carrier else d.source
    | none => r)
  decide (k.st = 9) || decide (k.st = 2) || (decide (k.st = 5) && (decide (k.train = 0) || decide (k.train = 2)))

/-- The logical rank is lost: no spare took it (10 R250). -/
def State.rankGone (s : State) (r : Nat) : Bool :=
  decide ((s.rank (match s.redirectOf r with
    | some d => if d.complete then d.carrier else d.source
    | none => r)).st = 9)

/-- A stored line's key: physical rank and line number. -/
def lineKey (r off : Nat) : Nat := r * 2 ^ 40 + off / 64

/-- Physical rank that a logical rank's line is read from (10 R247, R249). -/
def State.readRank (s : State) (r off : Nat) : Nat :=
  match s.redirectOf r with
  | some d =>
    if d.complete ∨ off < d.watermark ∨ off / 64 ∈ d.early then d.carrier else d.source
  | none => r

/-- The line is above the watermark of a running rebuild and has not been rebuilt (10 R249). -/
def State.needsRebuild (s : State) (r off : Nat) : Bool :=
  match s.redirectOf r with
  | some d =>
    d.rebuild && !d.complete && decide (d.watermark ≤ off) && !(d.early.elem (off / 64))
  | none => false

/-- What a physical line holds; an unlisted one is the zero line under the key in force (log 4). -/
def State.cellAt (s : State) (o r off : Nat) : LineCell :=
  (look? s.dram.lines (lineKey r off)).getD (.data 0 (s.material o))

/-- Physical rank that a line is read from. -/
def State.physOf (s : State) (o : Nat) : Nat := s.readRank (s.place o).rank (s.place o).off

/-- What the line of a DPA holds, through redirection; poison on a lost rank (10 R250). -/
def State.cell (s : State) (o : Nat) : LineCell :=
  let p := s.place o
  if s.isLost p.rank then .poison else s.cellAt o (s.readRank p.rank p.off) p.off

/-- Store a cell at a physical line; the zero line under the key in force is not listed. -/
def State.putCell (s : State) (o r off : Nat) (c : LineCell) : State :=
  { s with dram := { s.dram with
      lines := put (.data 0 (s.material o)) s.dram.lines (lineKey r off) c } }

/-- Store a cell at the line of a DPA: below a migration's watermark to target and source (10 R247); to the target of
a rebuild, which then leaves it (R249); discarded on a lost rank (10 R250). -/
def State.setCell (s : State) (o : Nat) (c : LineCell) : State :=
  let p := s.place o
  if s.isLost p.rank then s
  else
    match s.redirectOf p.rank with
    | some d =>
      if d.complete then s.putCell o d.carrier p.off c
      else if d.rebuild then
        let t := s.putCell o d.carrier p.off c
        if p.off < d.watermark then t
        else
          { t with sparing := { t.sparing with
              redirect := insertK t.sparing.redirect p.rank { d with early := addOnce (p.off / 64) d.early } } }
      else if p.off < d.watermark then
        (s.putCell o d.carrier p.off c).putCell o d.source p.off c
      else s.putCell o d.source p.off c
    | none => s.putCell o p.rank p.off c

/-- The SW74 writes a physical line of its own accord: the commands and the cell (04 R86). -/
def State.putLine (s : State) (o r off : Nat) (c : LineCell) : State := (s.touchBank r off).putCell o r off c

/-- The SW74 writes the line of a DPA of its own accord; a line of a lost rank takes no command (04 R86,
10 R250). -/
def State.setLine (s : State) (o : Nat) (c : LineCell) : State :=
  if s.isLost (s.place o).rank then s else (s.touchBank (s.physOf o) (s.place o).off).setCell o c

/-- Plain data as the channel stores it: encrypted under the key in force. -/
def State.sealed (s : State) (o : Nat) (l : Line) : LineCell := .data l (s.material o)

/-- Poison-list entries of a die. -/
def State.poisonOf (s : State) (d : Nat) : List PEntry := look [] s.hosts.poison d

/-- 02 R46: an entry, or a part left by a split, found a die's list full: the overflow flag and its
timestamp are set, and a record is written (Table 02.10). -/
def State.poisonFull (s : State) : State :=
  { s with hosts := { s.hosts with
      poisonOverflow := true,
      overflowTime := if s.hosts.poisonOverflow then s.hosts.overflowTime
                      else s.aon.deviceTime } }.report 0 cPoisonOverflow 1 0 []

/-- 02 R46: add an entry to a die's list of 4,096; when it is full set the overflow flag. -/
def State.addPoison (s : State) (d : Nat) (e : PEntry) : State :=
  if (s.poisonOf d).length < 4096 then
    { s with hosts := { s.hosts with
        poison := put [] s.hosts.poison d (s.poisonOf d ++ [e]) } }
  else s.poisonFull

/-- What is left of an entry once a line is taken out (02 R46). -/
def PEntry.minus (e : PEntry) (ln : Nat) : List PEntry :=
  if ln < e.line ∨ e.line + e.len ≤ ln then [e]
  else
    (if e.line < ln then [{ e with len := ln - e.line }] else []) ++
    (if ln + 1 < e.line + e.len then
      [{ e with line := ln + 1, len := e.line + e.len - (ln + 1) }] else [])

/-- The line number is listed by some die. -/
def State.isPoisonListed (s : State) (ln : Nat) : Bool :=
  s.hosts.poison.any fun p => p.2.any fun e => decide (e.line ≤ ln) && decide (ln < e.line + e.len)

/-- Take something out of every entry of a list that has room for `room` more: an entry that is split in
two while there is none keeps its first part alone. Gives the list and whether a part was lost
(02 R46). -/
def splitEntries (f : PEntry → List PEntry) : Nat → List PEntry → List PEntry × Bool
  | _, [] => ([], false)
  | room, e :: l =>
    match f e with
    | [] => splitEntries f (room + 1) l
    | [a] => let x := splitEntries f room l; (a :: x.1, x.2)
    | a :: b =>
      if b.length ≤ room then let x := splitEntries f (room - b.length) l; (a :: b ++ x.1, x.2)
      else let x := splitEntries f room l; (a :: x.1, true)

/-- Take lines out of a die's list; a part left by a split that finds the list full is not listed
(02 R46). -/
def State.dropOn (s : State) (f : PEntry → List PEntry) (d : Nat) : State :=
  let x := splitEntries f (4096 - (s.poisonOf d).length) (s.poisonOf d)
  let s : State := { s with hosts := { s.hosts with poison := put [] s.hosts.poison d x.1 } }
  if x.2 then s.poisonFull else s

/-- A line leaves the list of a die. -/
def State.dropPoisonOn (s : State) (d ln : Nat) : State := s.dropOn (·.minus ln) d

/-- A line leaves every poison list (02 R46). -/
def State.dropPoison (s : State) (ln : Nat) : State :=
  if s.isPoisonListed ln then s.dieList.foldl (fun t d => t.dropPoisonOn d ln) s else s

/-- Keep only what an entry lists outside a range of lines [a, b). -/
def PEntry.outside (e : PEntry) (a b : Nat) : List PEntry :=
  (if e.line < a then [{ e with len := min (e.line + e.len) a - e.line }] else []) ++
  (if b < e.line + e.len then
    [{ e with line := max e.line b, len := e.line + e.len - max e.line b }] else [])

/-- Take a range of lines off every list (a trim, 02 R46). -/
def State.dropPoisonRange (s : State) (a b : Nat) : State :=
  s.dieList.foldl (fun t d => t.dropOn (·.outside a b) d) s

/-- State of the die-to-die link `lk` (0 A, 1 B, 2 C) of a die. -/
def noDieLink : DieLink := { st := 0, replays := 0, since := 0, fails := 0, cut := false }

/-- The link exists between dies of the package (01 R12). -/
def State.bonded (s : State) (d lk : Nat) : Bool :=
  decide (lk < 3) && decide (d < s.n) && decide (Nat.xor d (2 ^ lk) < s.n)

/-- Key of a link: 4 x its lower die + link number. -/
def dieLinkKey (d lk : Nat) : Nat := 4 * min d (Nat.xor d (2 ^ lk)) + lk

/-- A bonded link that has never failed is up. -/
def upDieLink : DieLink := { st := 1, replays := 0, since := 0, fails := 0, cut := false }

/-- A link that is down. -/
def downDieLink : DieLink := { upDieLink with st := 3 }

def State.dieLink (s : State) (d lk : Nat) : DieLink :=
  if s.bonded d lk then look upDieLink s.hosts.dieLinks (dieLinkKey d lk) else noDieLink

def State.setDieLink (s : State) (d lk : Nat) (x : DieLink) : State :=
  { s with hosts := { s.hosts with
      dieLinks := put upDieLink s.hosts.dieLinks (dieLinkKey d lk) x } }

/-- The link carries traffic: up, or retraining with its flits waiting. -/
def State.dieLinkUp (s : State) (d lk : Nat) : Bool :=
  (s.dieLink d lk).st = 1 ∨ (s.dieLink d lk).st = 2

/-- Number of differing bits of two die numbers (01 Table 01.2). -/
def dieBits (a b : Nat) : Nat :=
  let x := Nat.xor a b
  x % 2 + x / 2 % 2 + x / 4 % 2

/-- 01 R14, R18: the link a request takes at die d towards e: the lowest link that is up and leads
nearer, else the lowest link that is up. -/
def State.hopOf (s : State) (d e : Nat) : Option Nat :=
  match (List.range 3).find? fun k => s.dieLinkUp d k && decide (dieBits (Nat.xor d (2 ^ k)) e < dieBits d e) with
  | some k => some k
  | none => (List.range 3).find? fun k => s.dieLinkUp d k

/-- Follow the route for at most `fuel` hops. -/
def State.routeFrom (s : State) (e : Nat) : Nat → Nat → List (Nat × Nat) → Option (List (Nat × Nat))
  | 0, d, acc => if d = e then some acc.reverse else none
  | k + 1, d, acc =>
    if d = e then some acc.reverse
    else
      match s.hopOf d e with
      | some lk => s.routeFrom e k (Nat.xor d (2 ^ lk)) ((d, lk) :: acc)
      | none => none

/-- The links a request crosses from die d to die e; none when e is unreachable (01 R18, R19). The rule
taken to the letter can lead a detour back to a die it has crossed (SW7404, link B of die 0 down: 0, 1,
0); such a route never arrives and counts as none (log 22). -/
def State.route (s : State) (d e : Nat) : Option (List (Nat × Nat)) := s.routeFrom e 8 d []

/-- The die at the other end of a link. -/
def across (d lk : Nat) : Nat := Nat.xor d (2 ^ lk)

/-- A die's core clock is stopped: its core PLL is out of lock (14 R326). -/
def State.coreStopped (s : State) (d : Nat) : Bool := (s.clk d).unlocked.elem 1

/-- A link that carries nothing for the moment: it retrains, or its PLL, or the core PLL, is out of lock at one of its
ends (01 R18, 14 R326). -/
def State.linkWaits (s : State) (d lk : Nat) : Bool :=
  decide ((s.dieLink d lk).st = 2) || (s.clk d).unlocked.elem (12 + lk) ||
    (s.clk (across d lk)).unlocked.elem (12 + lk) || s.coreStopped d || s.coreStopped (across d lk)

/-- Key of the first link on the route from die d to die e that carries nothing for the moment. -/
def State.waitsAt (s : State) (d e : Nat) : Option Nat :=
  match s.route d e with
  | some l => (l.find? fun x => s.linkWaits x.1 x.2).map fun x => dieLinkKey x.1 x.2
  | none => none

/-- Traffic between two dies can go now: a route is left and no link on it holds its flits back (01 R18,
06 R141). -/
def State.linkOpen (s : State) (d e : Nat) : Bool := (s.route d e).isSome && (s.waitsAt d e).isNone

/-- Hops from die d to die e over the route in use. -/
def State.hops (s : State) (d e : Nat) : Nat :=
  match s.route d e with
  | some l => l.length
  | none => dieBits d e

/-- A detour is in use between some two dies (02 R45). -/
def State.detour (s : State) : Bool :=
  s.dieList.any fun d => s.dieList.any fun e =>
    match s.route d e with
    | some l => decide (dieBits d e < l.length)
    | none => false

/-- A die is out of service (12 R286). -/
def State.dieOut (s : State) (d : Nat) : Bool := bitOf (s.reg 0x7100 3) d || (decide (d = 0) && s.seq.leadDead)

/-- Die of a global port. -/
def dieOfPort (g : Nat) : Nat := g / 2

/-- A tenancy has class 0 on some port of the package. -/
def State.hasClass0 (s : State) (t : Tenancy) : Bool :=
  (List.range (2 * s.n)).any fun g => t.classOf g = 0

/-- Dies on which a range of drifts has lines (03 R61). -/
def State.diesOfRange (s : State) (base limit : Nat) : List Nat :=
  if limit ≤ base then []
  else if s.dram.interleave = 0 then
    let a := (s.dieOf (base * driftBytes)).1
    let b := (s.dieOf (limit * driftBytes - 1)).1
    s.dieList.filter fun d => decide (a ≤ d) && decide (d ≤ b)
  else if s.dram.interleave = 4 then
    let a := base / 512
    let b := (limit - 1) / 512
    s.dieList.filter fun d =>
      decide (s.n ≤ b - a + 1) || (List.range (b - a + 1)).any fun i => decide ((a + i) % s.n = d)
  else if s.dram.interleave = 3 then
    s.dieList.filter fun d =>
      decide (s.n ≤ limit - base) || (List.range (limit - base)).any fun i => decide ((base + i) % s.n = d)
  else s.dieList

/-- Die offsets of a die's part of a range of drifts: from, to (03 R61). -/
def State.offsetsOfRange (s : State) (d base limit : Nat) : Nat × Nat :=
  let a := base * driftBytes
  let b := limit * driftBytes
  if s.dram.interleave = 0 then
    let start := ((List.range d).map s.assign).sum
    (max a start - start, min b (start + s.assign d) - start)
  else
    let g := granuleOf s.dram.interleave
    let row := g * s.n
    let lo := a / row * g + (if a % row ≤ d * g then 0 else min g (a % row - d * g))
    let hi := b / row * g + (if b % row ≤ d * g then 0 else min g (b % row - d * g))
    (lo, hi)

/-- Channels of a rank layer that a stretch [x, y) of the layer touches (03 R63). -/
def State.chansOfStretch (s : State) (d j x y : Nat) : List Nat :=
  let l := s.layer d j
  let h := chanGranule s.dram.granule
  if y ≤ x then []
  else
    let a := x / h
    let b := (y - 1) / h
    if l.length ≤ b - a + 1 then l.map fun c => 8 * d + c
    else (List.range (b - a + 1)).map fun i => 8 * d + l.getD ((a + i) % max 1 l.length) 0

/-- Global channels on which a range of drifts has lines, with the spare positions of its dies
counted as R246 of chapter 10 says. -/
def State.chansOfRange (s : State) (base limit : Nat) : List Nat :=
  (s.diesOfRange base limit).flatMap fun d =>
    let p := s.offsetsOfRange d base limit
    let w := (s.layer d 0).length * s.crank
    s.chansOfStretch d 0 (min p.1 w) (min p.2 w) ++
      s.chansOfStretch d 1 (max p.1 w - w) (max p.2 w - w) ++
      ((List.range 16).filterMap fun i =>
        if bitOf (s.spareBits d) i ∧ s.capOf (16 * d + i) ≠ 0 then some (8 * d + i / 2) else none)

/-- 04 R96, R111: a class 0 tenancy over these drifts would meet a channel in all-bank refresh or a
quadrant with Idle-Deep permitted. -/
def State.class0Barred (s : State) (base limit : Nat) : Bool :=
  (s.chansOfRange base limit).any fun g =>
    decide (s.reg (ixChan g) 5 = 1) || decide (s.reg (ixQuad (g / 8) (g % 8 / 2)) 2 = 1)

end Sys2Proof.Machine
end

