-- ==== Sys2Proof/Machine/Budget.lean ====
section
/-! DEFINITION. What the shadowing machinery may hold as snow: the glacier's capacity and rate, the
cistern and the energy-derived limit, the budget, shares and pool, and the admission hold
(07 R169–R175, 08 R208, 09 R223, 11 R270–R274). -/
namespace Sys2Proof.Machine

/-- NAND of a die's flash channel, where populated. -/
def State.nandOf (s : State) (d f : Nat) : Option NandDev := look? s.build.nand (16 * d + f)

/-- LUN number of chip enable and LUN within a channel; the die's LUN adds 32 x channel. -/
def lunNum (f ce l : Nat) : Nat := 32 * f + 4 * ce + l

/-- Block number of a page address (08 Table 08.2): the address without its low 20 bits. -/
def blkOfPage (a : Nat) : Nat := a / 2 ^ 20

/-- A die's LUN number of a block number. -/
def lunOfBlk (b : Nat) : Nat := b / 2 ^ 23 % 16 * 32 + b / 2 ^ 20 % 8 * 4 + b / 2 ^ 18 % 4

/-- The LUN entry of a die's LUN. -/
def State.lunOf (s : State) (d l : Nat) : Lun := look noLun (s.die d).luns l

def State.setLun (s : State) (d l : Nat) (x : Lun) : State :=
  s.setDie d { s.die d with luns := put noLun (s.die d).luns l x }

/-- LUNs that a populated channel carries. -/
def lunsOfNand (f : Nat) (nd : NandDev) : List Nat :=
  (List.range (min 8 nd.ces)).flatMap fun ce =>
    (List.range (min 4 nd.lunsPerCe)).map fun l => lunNum f ce l

/-- Channel state as start-up left it (08 F+0x10+f.01), before LUN failures. -/
def State.flashState (s : State) (d f : Nat) : Nat := s.reg (ixFlash d f) 1

/-- Work on a die's flash is at a stand: the die has stopped working, or the PLL of its flash interface or of its
core is out of lock (01 R27, 14 R326). -/
def State.flashHalted (s : State) (d : Nat) : Bool :=
  s.dieOut d || (s.clk d).unlocked.elem 10 || (s.clk d).unlocked.elem 1

/-- Active LUNs of a used channel (08 R186); a die that has stopped working has none (01 R27). -/
def State.activeLuns (s : State) (d f : Nat) : List Nat :=
  match s.nandOf d f with
  | some nd =>
    if s.dieOut d = false ∧ (s.flashState d f = 1 ∨ s.flashState d f = 4) then
      (lunsOfNand f nd).filter fun l => !(s.lunOf d l).failed
    else []
  | none => []

/-- 07 R169: L_d. -/
def State.ld (s : State) (d : Nat) : Nat :=
  match ((List.range 16).map fun f => (s.activeLuns d f).length).filter (· ≠ 0) with
  | [] => 0
  | x :: xs => xs.foldl min x

/-- 07 R169: twelve times R_d, bytes per second: a whole number; and R_d as its object reads. -/
def State.rd12 (s : State) (d : Nat) : Nat := 50000000000 * min (s.ld d) 12
def State.rd (s : State) (d : Nat) : Nat := s.rd12 d / 12

/-- Twelve times R, the package's sustained glacier write rate; twelve times the least R_d. -/
def State.rate12 (s : State) : Nat := (s.dieList.map s.rd12).sum
def State.rateMin12 (s : State) : Nat :=
  match s.dieList.map s.rd12 with
  | [] => 0
  | x :: xs => xs.foldl min x

/-- The block lies in the firmware boot region (08 R211). -/
def isBootBlk (d b : Nat) : Bool :=
  decide (d = 0) && (decide (lunOfBlk b = 0) || decide (lunOfBlk b = 256)) &&
    decide (b / 2 ^ 16 % 4 = 0) && decide (b % 2 ^ 16 < 64)

/-- Good blocks of a LUN outside the boot region (08 Capacity rule): a retired block is none, on the moraine list or
retired once it was full (R196). -/
def State.goodBlocks (s : State) (d l : Nat) : Nat :=
  match s.nandOf d (l / 32) with
  | some nd =>
    nd.planes * nd.blocksPerPlane - (if d = 0 ∧ (l = 0 ∨ l = 256) then 64 else 0)
      - ((s.die d).blocks.filter fun e => decide (e.2 = 5) && decide (lunOfBlk e.1 = l) && !(isBootBlk d e.1)).length
  | none => 0

/-- 08: glacier capacity of a die, bytes. -/
def State.glacierCap (s : State) (d : Nat) : Nat :=
  ((List.range 16).map fun f =>
    ((s.activeLuns d f).map fun l =>
      s.goodBlocks d l * ((s.nandOf d f).map (·.pagesPerBlock)).getD 0 * flakeBytes).sum).sum

/-- Bytes of a range of drifts whose home is a die. -/
def State.homeBytes (s : State) (d base limit : Nat) : Nat :=
  (s.offsetsOfRange d base limit).2 - (s.offsetsOfRange d base limit).1

/-- The tenancy is shadowed: PERSISTENT or CHECKPOINT, and not FREE. -/
def Tenancy.shadowed (t : Tenancy) : Bool := decide (t.st ≠ 0) && decide (t.mode ≤ 1)

/-- 08: shadowed DRAM of a die, bytes. -/
def State.shadowed (s : State) (d : Nat) : Nat :=
  ((s.ten.table.filter fun e => e.2.shadowed).map fun e => s.homeBytes d e.2.base e.2.limit).sum

/-- Moraine entries a die's ledger holds (08 R196). -/
def moraineTop : Nat := 262144

/-- 08 R208: the capacity rule on one die. -/
def State.capacityOn (s : State) (d : Nat) : Bool :=
  decide (5 * s.shadowed d ≤ 4 * s.glacierCap d) && decide ((s.die d).moraine.length < moraineTop)

/-- 08 R208. -/
def State.capacityHolds (s : State) : Bool := s.dieList.all s.capacityOn

/-- 08 R191: map pages of a die's whole map. -/
def State.mapTotal (s : State) (d : Nat) : Nat := (s.usable d / driftBytes + 15) / 16

/-- 08 R192: bytes of a die's whole map. -/
def State.mapBytes (s : State) (d : Nat) : Nat :=
  let p := s.mapTotal d
  if p = 0 then 0 else (p + (p + 2047) / 2048 + 1) * flakeBytes

/-- 09 R223: t0 in microseconds; the longest map program over the constant part. -/
def State.t0 (s : State) : Nat :=
  s.reg 0x6800 4 + (s.dieList.map fun d =>
    if s.rd12 d = 0 then 0 else s.mapBytes d * 12000000 / s.rd12 d).foldl max 0

/-- 11 R270: the count allowance u in mC at a full-charge capacity. -/
def State.allowance (s : State) : Nat :=
  let secs := (s.aon.deviceTime - s.bat.anchor) / 1000000
  let secs := if s.bat.timeLost then max secs (30 * 86400) else secs
  s.reg 0x7000 14 * s.bat.fcc * secs / (65536 * 100 * 86400)

/-- Interpolation between two rows 10 degrees apart, in ten-thousandths (11 Table 11.2). -/
def ktBetween (lo hi : Nat) (t : Int) : Nat := 100 * lo + (hi - lo) * t.toNat

/-- 11 Table 11.2: kt in ten-thousandths at a temperature in tenths of a degree. -/
def ktOf (t : Int) : Nat :=
  if t ≥ 200 then 10000
  else if t ≥ 100 then ktBetween 92 100 (t - 100)
  else if t ≥ 0 then ktBetween 80 92 t
  else if t ≥ -100 then ktBetween 60 80 (t + 100)
  else if t ≥ -200 then ktBetween 30 60 (t + 200)
  else 0

/-- 11 R272: the lowest pack temperature of the last 60 s. -/
def State.lowTemp (s : State) : Int :=
  ((s.bat.temps.filter fun e => decide (s.aon.now - e.1 ≤ 60000000000)).map (·.2)).foldl min s.bat.temp

/-- 11 R272: reserve in percent: the learn reserve in a learn main stretch. -/
def State.reservePct (s : State) : Nat := if s.bat.learn = 2 then s.reg 0x7001 4 else s.reg 0x7000 4

/-- 11 R267: the charge that counts: 0 until the first full anchor after a pack change. -/
def State.charge (s : State) : Nat := if s.bat.anchored then s.bat.q else 0

/-- Hundredths of mC usable under a charge, an allowance and a reserve (11 R272). -/
def usable100 (q u fcc r : Nat) : Nat := 100 * q - 100 * u - r * fcc

/-- Scale of `cisternNum`: joules x this. -/
def cisternDen : Nat := 100 * 1000 * 1000 * 65536 * 10000

/-- Cistern of a usable charge at a derating, in joules x `cisternDen`. -/
def State.cisternNum (s : State) (use100 kt : Nat) : Nat :=
  use100 * s.reg 0x7000 2 * s.reg 0x7000 3 * kt

/-- 11 R272: the cistern in joules x `cisternDen`; 0 with no pack, no FCC, no anchor, or in the
tail of a learn cycle (R276, R277). -/
def State.cistern (s : State) : Nat :=
  if !s.bat.present || decide (s.bat.fcc = 0) || !s.bat.anchored then 0
  else s.cisternNum (usable100 s.bat.q s.allowance s.bat.fcc s.reservePct) (ktOf s.lowTemp)

/-- 11 R273: the energy-derived limit of a cistern, whole flakes. -/
def State.limitOf (s : State) (c : Nat) : Nat :=
  let pf := s.reg 0x6800 3
  let num := c * 1000000 - s.t0 * (cisternDen * pf)
  num * (s.n * s.rateMin12) / (cisternDen * pf * 12000000) / flakeBytes * flakeBytes

/-- 11 R274: the energy-derived limit in force: the value loaded, lowered during a decay. -/
def State.energyLimit (s : State) : Nat :=
  let floor := s.reg 0x7003 4
  if s.bat.limit ≤ floor then s.bat.limit
  else if s.bat.atFloor then floor
  else
    match s.bat.decayAt with
    | some t => s.bat.limit - (s.bat.limit - floor) * min (s.aon.now - t) 30000000000 / 30000000000
    | none => s.bat.limit

/-- 07 R170: the freeze-time ceiling and the hardware cap. -/
def State.freezeCeiling (s : State) : Nat := s.reg 0x5800 4 * s.rate12 / 12000
def State.hardwareCap (s : State) : Nat := tib (2 * s.n)

/-- 07 R170: B under an energy term. -/
def State.budgetWith (s : State) (e : Nat) : Nat :=
  min (min e s.freezeCeiling) (min s.hardwareCap (s.reg 0x5800 2)) / flakeBytes * flakeBytes

/-- 07 R170: B, the snow budget in force. -/
def State.budget (s : State) : Nat := s.budgetWith s.energyLimit

/-- 07 R170: the limiting term: 0 energy, 1 freeze time, 2 cap, 3 operator. -/
def State.limiting (s : State) : Nat :=
  let m := min (min s.energyLimit s.freezeCeiling) (min s.hardwareCap (s.reg 0x5800 2))
  if s.energyLimit = m then 0 else if s.freezeCeiling = m then 1
  else if s.hardwareCap = m then 2 else 3

/-- 07 R171: M, the margin kept back. -/
def State.margin (s : State) : Nat :=
  min (mib 256 * s.n) (s.budget / 2 / flakeBytes * flakeBytes)

/-- The tenancy reserves its share: LIVE or FENCED, and PERSISTENT. -/
def Tenancy.reserves (t : Tenancy) : Bool :=
  (decide (t.st = 1) || decide (t.st = 2)) && decide (t.mode = 0)

/-- 07 R171: S, the sum of the configured shares. -/
def State.shareSum (s : State) : Nat :=
  ((s.ten.table.filter fun e => e.2.reserves).map fun e => e.2.share).sum

/-- B - M. -/
def State.divisible (s : State) : Nat := s.budget - s.margin

/-- 07 R171: effective share of a tenancy. -/
def State.effShare (s : State) (k : Nat) : Nat :=
  let t := s.tenancy k
  if !t.reserves then 0
  else if s.divisible < flakeBytes then 0
  else if s.shareSum ≤ s.divisible then t.share
  else t.share * s.divisible / s.shareSum / flakeBytes * flakeBytes

/-- 07 R171: the shared pool P. -/
def State.pool (s : State) : Nat :=
  if s.divisible < flakeBytes then flakeBytes
  else s.divisible - ((s.ten.table.map fun e => s.effShare e.1).sum)

/-- A tenancy's snowline as the lead die counts it, bytes (07 R156). -/
def State.tenSnow (s : State) (k : Nat) : Nat := look 0 s.shadow.lead k * flakeBytes

/-- The package snowline as the lead die counts it (0x5800.07). -/
def State.snowline (s : State) : Nat := (s.shadow.lead.map fun e => e.2).sum * flakeBytes

/-- 07 R171: pool use. -/
def State.poolUse (s : State) : Nat :=
  (s.shadow.lead.map fun e => e.2 * flakeBytes - s.effShare e.1).sum

/-- The no-energy policy in force: WRITE_THROUGH when configured, or forced by a learn tail
(07 R179, 11 R277). -/
def State.writeThrough (s : State) : Bool :=
  !s.shadow.armed && (s.shadow.forceThrough || decide (s.reg 0x5800 12 = 1))

/-- 0x5800.0B: persistence. -/
def State.persistence (s : State) : Nat :=
  if s.shadow.armed then 0 else if s.writeThrough then 2 else 1

/-- Admission holds are in force: armed, or under WRITE_THROUGH (07 R179). -/
def State.holdsOn (s : State) : Bool := s.shadow.armed || s.writeThrough

/-- 07 R173: a PERSISTENT tenancy is held. -/
def State.tenHeld (s : State) (k : Nat) : Bool :=
  s.holdsOn && decide ((s.tenancy k).mode = 0) && decide (s.effShare k ≤ s.tenSnow k) &&
    decide (s.pool ≤ s.poolUse)

/-- 07 R174: a waiting write of a tenancy is eligible: within its share, or the pool has room. -/
def State.withinShare (s : State) (k : Nat) : Bool := decide (s.tenSnow k < s.effShare k)
def State.poolRoom (s : State) : Bool := decide (s.poolUse + flakeBytes ≤ s.pool)

/-- 07 R172: pumps work in urgent mode. -/
def State.urgent (s : State) : Bool :=
  decide (85 * s.budget ≤ 100 * s.snowline) || (!s.shadow.armed && !s.writeThrough)

/-- 07 R175: the admission wait bound in microseconds. -/
def State.waitBound (s : State) : Nat :=
  2 * Config.pumpCycleUs +
    (if s.rate12 = 0 then u32max
     else (1024 * s.n - 1) * flakeBytes * 12000000 / s.rate12)

/-- 07 R181: pages programmed x page size over the glacier's capacity, as a fraction. -/
def State.capAll (s : State) : Nat := (s.dieList.map s.glacierCap).sum

/-- Bytes that the glacier's rated cycles leave to be programmed: (pe - PE_used) x capacity (07 R181). -/
def State.wearBytes (s : State) : Nat := s.capAll * s.reg 0x5803 1 - s.shadow.pagesProgrammed * flakeBytes

/-- Planned service life that is left, in microseconds; 30 days once it has elapsed (07 R181). -/
def State.lifeLeft (s : State) : Nat :=
  let life := s.reg 0x5803 2 * 3600000000
  let used := s.aon.deviceTime - s.reg 0x5803 3
  if life ≤ used then 30 * 86400000000 else life - used

/-- 07 R181: the sustainable rate, bytes per second. -/
def State.sustainable (s : State) : Nat := s.wearBytes * 1000000 / s.lifeLeft

/-- 08 F.09: wear of a die in percent, saturating at 255. -/
def State.wear (s : State) (d : Nat) : Nat :=
  let cap := s.glacierCap d
  if cap = 0 then 0
  else min 255 (100 * (s.die d).progSeq * flakeBytes / (cap * s.reg 0x5803 1))

/-- Persistence may stay armed: B at least 1 GiB and the capacity rule holds (07 R179). -/
def State.armable (s : State) (least : Nat) : Bool :=
  decide (least ≤ s.budget) && s.capacityHolds

end Sys2Proof.Machine
end

