-- ==== Sys2Proof/Machine/Firn.lean ====
section
/-! DEFINITION. The firn map and what moves with it: charges, the drift summary, trims, poisoning,
the transitions a write makes, and the rewriting of a flake's lines (07 R150–R162). -/
namespace Sys2Proof.Machine

/-- 07 Table 07.1: firn codes. -/
def fClean : Nat := 0
def fDirty : Nat := 1
def fPumping : Nat := 2
def fStale : Nat := 3
def fUnrestored : Nat := 4
def fRestoring : Nat := 5
def fPoisoned : Nat := 6
def fVolatile : Nat := 7
def fTrimmed : Nat := 8

/-- Firn state of a flake (07 R150). -/
def State.firn (s : State) (m : Nat) : Nat := look fTrimmed s.shadow.firn m

def State.setFirn (s : State) (m c : Nat) : State :=
  { s with shadow := { s.shadow with firn := put fTrimmed s.shadow.firn m c } }

/-- Flake-map entry of a flake (08 R187). -/
def State.fmapOf (s : State) (m : Nat) : Nat := look 0 s.shadow.fmap m

/-- A page goes stale in the epoch that is open (08 R205). -/
def State.stalePage (s : State) (d a : Nat) : State :=
  if a = 0 then s
  else
    let x := s.die d
    s.setDie d { x with staleEpoch := put 0 x.staleEpoch (blkOfPage a) s.shadow.epoch }

/-- Set a flake-map entry; the page it pointed to goes stale. -/
def State.setFmap (s : State) (m a : Nat) : State :=
  let s := if s.fmapOf m = a then s else s.stalePage (s.homeDie m) (s.fmapOf m)
  { s with shadow := { s.shadow with fmap := put 0 s.shadow.fmap m a } }

/-- DIRTY, PUMPING or PUMPING_STALE. -/
def isSnow (c : Nat) : Bool := decide (1 ≤ c) && decide (c ≤ 3)

/-- Snow of a die by its own firn map, in flakes (07 R156): PERSISTENT tenancies only. -/
def State.dieSnow (s : State) (d : Nat) : Nat :=
  (s.shadow.firn.filter fun e =>
    isSnow e.2 && decide (s.homeDie e.1 = d) && decide (s.flakeMode e.1 = 0)).length

/-- The die's map pages of the flake have changed (07 R165 step 3). -/
def State.touchMap (s : State) (m : Nat) : State :=
  let x := s.die (s.homeDie m)
  s.setDie (s.homeDie m) { x with mapChanged := addOnce (s.homeIdx m / 2048) x.mapChanged }

/-- Charge (+1) or release (-1) a flake of a tenancy on its home die; the lead die is told by
SNOW_COUNT_MESSAGE (07 R156). -/
def State.count (s : State) (m : Nat) (k : Nat) (v : Int) : State :=
  let d := s.homeDie m
  let x := s.die d
  s.setDie d { x with unsent := put 0 x.unsent k (look 0 x.unsent k + v) }

/-- 07 R157: a first charge moves the drift's summary code from 0 to 1. -/
def State.summarise (s : State) (m : Nat) : State :=
  let j := s.driftOf m
  if look 0 s.shadow.summary j = 0 then
    { s with shadow := { s.shadow with summary := put 0 s.shadow.summary j 1 } }
  else s

/-- Charge a flake that becomes DIRTY, where its tenancy is charged (07 Table 07.2). -/
def State.chargeFlake (s : State) (m : Nat) : State :=
  match s.tenOf (m * flakeBytes) with
  | some k => if (s.tenancy k).mode = 0 then (s.count m k 1).summarise m else s
  | none => s

/-- Release the charge of a flake that leaves DIRTY, PUMPING and PUMPING_STALE, given the tenancy
it was charged to. -/
def State.releaseFlake (s : State) (m : Nat) (k : Option Nat) : State :=
  match k with
  | some k => if isSnow (s.firn m) ∧ (s.tenancy k).mode = 0 then s.count m k (-1) else s
  | none => s

/-- 07 R157: the drift's summary code returns to 0 when no flake of it is snow. -/
def State.desummarise (s : State) (m : Nat) : State :=
  let j := s.driftOf m
  if s.shadow.firn.any fun e => isSnow e.2 && decide (s.driftOf e.1 = j) && decide (s.flakeMode e.1 = 0)
  then s
  else { s with shadow := { s.shadow with summary := put 0 s.shadow.summary j 0 } }

/-- Make a flake DIRTY and charge it, from a state that is not snow. -/
def State.makeDirty (s : State) (m : Nat) : State :=
  ((s.chargeFlake m).setFirn m fDirty).touchMap m

/-- 02 R45, 09 R240: a flake written or trimmed leaves the list of those a recovery poisoned. -/
def State.unpoisonNote (s : State) (m : Nat) : State :=
  { s with freeze := { s.freeze with poisoned := without m s.freeze.poisoned } }

/-- A poison-list entry of n lines from a DPA on a die's list. -/
def State.listPoison (s : State) (d o n : Nat) (inj : Bool) : State :=
  s.addPoison d { line := o / 64, len := n, injected := inj }

/-- The flake is no longer one that only a rekey sweep has marked (03 R77). -/
def State.unswept (s : State) (m : Nat) : State :=
  { s with shadow := { s.shadow with swept := without m s.shadow.swept } }

/-- Write a cell to each line of a flake. -/
def State.fillFlake (s : State) (m : Nat) (c : LineCell) : State :=
  (flakeLines m).foldl (fun t o => t.setLine o c) s

/-- Write the zero line under the key in force to every line of a flake (07 R153, 09 R233). -/
def State.zeroFlake (s : State) (m : Nat) : State :=
  (flakeLines m).foldl (fun t o => t.setLine o (.data 0 (t.material o))) s

/-- 07 R152: set a flake POISONED: the poison encoding on all its lines, one entry of 256 lines. -/
def State.poisonFlake (s : State) (m : Nat) (list : Bool) : State :=
  let s1 := s.releaseFlake m (s.tenOf (m * flakeBytes))
  let s2 := (s1.setFirn m fPoisoned).setFmap m 0
  let s3 := ((s2.fillFlake m .poison).touchMap m).unswept m
  if list then s3.listPoison (s.homeDie m) (m * flakeBytes) 256 false else s3

/-- 07 R152: an engine that reads a reserved code sets the flake POISONED and writes a Warning record. -/
def State.settleFirn (s : State) (m : Nat) : State :=
  if s.firn m < 9 then s else (s.poisonFlake m true).report (s.homeDie m) cReservedFirn 1 0 [m]

/-- 07 R151, Table 07.2: the transition a write makes on the flake's firn state. UNRESTORED and
RESTORING are fetched before a write proceeds (09 R237). -/
def State.firnWrite (s : State) (m : Nat) : State :=
  let s := (s.settleFirn m).unpoisonNote m
  let c := s.firn m
  if c = fDirty ∨ c = fStale ∨ c = fVolatile ∨ c = fUnrestored ∨ c = fRestoring then s
  else if c = fPumping then (s.setFirn m fStale).touchMap m
  else if s.flakeMode m = 2 then (s.setFirn m fVolatile).touchMap m
  else if s.flakeMode m = 3 then s
  else s.makeDirty m

/-- 07 Table 07.2, trim: charge released, map entry cleared, running results discarded. -/
def State.trimFlake (s : State) (m : Nat) (k : Option Nat) : State :=
  let d := s.homeDie m
  let s1 := ((s.releaseFlake m k).setFirn m fTrimmed).setFmap m 0
  let x := s1.die d
  let s2 := s1.setDie d { x with
    pumps := x.pumps.map fun p => if p.flake = m then { p with stale := true } else p,
    units := x.units.map fun u =>
      { u with moves := u.moves.map fun v => if v.flake = m then { v with stale := true } else v },
    first := without m x.first, mapChanged := addOnce (s1.homeIdx m / 2048) x.mapChanged }
  (((s2.unpoisonNote m).unswept m).dropPoisonRange (256 * m) (256 * m + 256)).desummarise m

/-- Flakes of a range of drifts that are not TRIMMED or have a map entry. -/
def State.listedIn (s : State) (base limit : Nat) : List Nat :=
  (s.shadow.firn.map (·.1)).filter fun m => decide (128 * base ≤ m) && decide (m < 128 * limit)

/-- Trim every flake of a range of drifts, charged to tenancy k (03 R69–R71). -/
def State.trimRange (s : State) (base limit : Nat) (k : Option Nat) : State :=
  (s.listedIn base limit).foldl (fun t m => t.trimFlake m k) s

/-- Logical rank whose lines a physical rank holds: the one that it carries, or that is being copied from it; else its
own (10 R243, R262). -/
def State.logicalOf (s : State) (r : Nat) : Nat :=
  match s.sparing.redirect.find? fun e => decide (e.2.carrier = r) with
  | some e => e.1
  | none =>
    match s.sparing.redirect.find? fun e => decide (e.2.source = r) && !e.2.complete with
    | some e => e.1
    | none => r

/-- DPA of a stored line's key. -/
def State.dpaOfKey (s : State) (k : Nat) : Nat :=
  s.dpaOfRank (s.logicalOf (k / 2 ^ 40)) (k % 2 ^ 40 * 64)

/-- Zero-fill a range of drifts under the key in force: none of its lines stays listed (07 R153). -/
def State.zeroRange (s : State) (base limit : Nat) : State :=
  { s with dram := { s.dram with
      lines := keepK (fun k =>
        let o := s.dpaOfKey k
        decide (o < base * driftBytes) || decide (limit * driftBytes ≤ o)) s.dram.lines } }

/-- 07 Table 07.2: the page of a CLEAN flake is unreadable or its LUN failed: the entry is cleared
and the flake becomes DIRTY, charged as a write. -/
def State.redirty (s : State) (m : Nat) : State := (s.setFmap m 0).makeDirty m

/-- 10 R256: thaw mark of a home drift. -/
def State.mark (s : State) (j : Nat) : Bool :=
  if s.freeze.markFlip.elem j then !s.freeze.markDflt else s.freeze.markDflt

def State.setMark (s : State) (j : Nat) (b : Bool) : State :=
  { s with freeze := { s.freeze with
      markFlip := if b = s.freeze.markDflt then without j s.freeze.markFlip
                  else addOnce j s.freeze.markFlip } }

/-- A thaw runs: on-demand or eager restore is not complete (09 R232). -/
def State.thawing (s : State) : Bool := decide (1 ≤ s.freeze.thaw) && decide (s.freeze.thaw ≤ 4)

/-- The page at an address of a die's glacier. -/
def noPage : Page :=
  { typ := 0, format := 0, ten := 0xFFFF, mapNum := u32max, flake := u64max, epoch := 0, progSeq := 0, body := .pad,
    tweak := 0, unreadable := true }

def State.page (s : State) (d a : Nat) : Page := look noPage (s.die d).pages a

/-- 08 R190: a page of an address that reads: it decodes, and its header decrypts under its address, passes its
CRC and names a type. -/
def Page.good (p : Page) (a : Nat) : Bool :=
  !p.unreadable && decide (p.tweak = a) && decide (p.format = 1) && decide (1 ≤ p.typ) && decide (p.typ ≤ 6)

/-- The page at an address of a die's glacier reads; an erased one does not. -/
def State.pageReads (s : State) (d a : Nat) : Bool := (s.page d a).good a

/-- 09 R236: one access in 64 counts in the drift's heat counter. -/
def State.heatAccess (s : State) (m : Nat) : State :=
  let j := s.driftOf m
  let k := look 0 s.shadow.heatSub j + 1
  if k < 64 then { s with shadow := { s.shadow with heatSub := put 0 s.shadow.heatSub j k } }
  else
    let x := s.die (s.homeDie m)
    let s := s.setDie (s.homeDie m) { x with heatChanged := addOnce (s.homeIdx m / 2048) x.heatChanged }
    { s with shadow := { s.shadow with
        heatSub := put 0 s.shadow.heatSub j 0,
        heat := put 0 s.shadow.heat j (min u32max (look 0 s.shadow.heat j + 1)) } }

/-- A line of a glacier page on its way back to DRAM: as it is stored, but for a flake of a CHECKPOINT
tenancy that only a rekey sweep has passed since its page was written, which is re-encrypted from the home
key to the key in force (03 R77, log 40). -/
def State.rewrap (s : State) (o : Nat) : LineCell → LineCell
  | .data l k => if s.shadow.swept.elem (o / flakeBytes) then .data l (s.material o) else .data l k
  | .poison => .poison

/-- What the thaw writes for a line of a page: poison where the bitmap marks it (09 R233). -/
def pageCell (o : Nat) (s : State) (bitmap : BitVec 256) (lines : Sparse LineCell) (i : Nat) :
    LineCell :=
  if bitmap.getLsbD i then .poison else s.rewrap o ((look? lines i).getD (.data 0 (s.material o)))

/-- Write one line of a page to DRAM, listing it where the bitmap marks it poison. -/
def State.restoreLine (s : State) (m : Nat) (bitmap : BitVec 256) (lines : Sparse LineCell)
    (i : Nat) : State :=
  let o := m * flakeBytes + 64 * i
  let t := s.setLine o (pageCell o s bitmap lines i)
  if bitmap.getLsbD i then t.listPoison (s.place o).die o 1 false else t

/-- Write a page's 256 lines to DRAM (09 R233). -/
def State.restoreFlake (s : State) (m : Nat) (p : Page) : State :=
  match p.body with
  | .data bm ls => (List.range 256).foldl (fun t i => t.restoreLine m bm ls i) s
  | _ => s

end Sys2Proof.Machine
end

