-- ==== Sys2Proof/Machine/Flags.lean ====
section
/-! DEFINITION. The flags and pins that follow from the rest of the state, and the settling of them
at the end of every command: persistence ceasing to be armed, shares scaled, health, CHG_EN and
LEARN_PWM (02 R45, 07 R171 R179, 11 R271 R276). -/
namespace Sys2Proof.Machine

/-- 20 R423, R424: the throttle of a die engages with a cause of 0x1010+d.06, or releases with 0; each
engagement and release is recorded. -/
def State.setThrottle (s : State) (d code : Nat) : State :=
  let old := s.reg (0x1010 + d) 6
  let s := s.setReg (0x1010 + d) 6 code
  if decide (old = 0) = decide (code = 0) then s
  else
    let s := if old = 0 then s.inc (0x1010 + d) 7 else s
    (s.setAdc d { s.adcOf d with throttleAt := some s.aon.now }).report d cThrottle 0 0 [d, code]

/-- Spare positions of a die that are populated, and those in state spare (10 R244). -/
def State.spareRanks (s : State) (d : Nat) : List Nat :=
  ((List.range 16).map (16 * d + ·)).filter fun r => s.isSpare r && decide (s.capOf r ≠ 0)
def State.freeSpares (s : State) (d : Nat) : List Nat :=
  (List.range 16).filterMap fun i =>
    if (s.rank (16 * d + i)).st = 3 then some (16 * d + i) else none

/-- 02 R45, 10 R251, 09 R240: Maintenance Needed. -/
def State.needsMaintenance (s : State) : Bool :=
  !s.shadow.armed || !s.freeze.poisoned.isEmpty ||
    (s.dieList.any fun d => !(s.spareRanks d).isEmpty && (s.freeSpares d).isEmpty) ||
    (s.dram.ranks.any fun e => decide (e.2.st = 9))

/-- 02 R45: Performance Degraded: thermal throttling, or a detour in use. -/
def State.isDegraded (s : State) : Bool := s.dieList.any s.throttled || s.detour

/-- 07 R179: persistence ceases to be armed when B falls below 1 GiB or the capacity rule fails. -/
def settleArm (s : State) : State :=
  if s.shadow.armed && !s.armable (gib 1) then
    { s with shadow := { s.shadow with armed := false } }.report 0 cDisarmed 1 0 []
  else s

/-- 07 R171: the shares are scaled while their sum exceeds B - M. -/
def State.sharesScaled (s : State) : Bool :=
  decide (s.divisible < s.shareSum)

/-- 07 R171: a change to scaled shares writes a Memory Module Event. -/
def settleShares (s : State) : State :=
  if s.sharesScaled = s.shadow.scaled then s
  else if s.sharesScaled then
    { s with shadow := { s.shadow with scaled := true } }.report 0 cScaled 1 0 []
  else { s with shadow := { s.shadow with scaled := false } }

/-- 02 R45: health changes of a package in state 12 are reported. -/
def settleHealth (s : State) : State :=
  let m := s.needsMaintenance
  let g := s.isDegraded
  if s.seq.st ≠ 12 ∨ (m = s.hosts.maintenance ∧ g = s.hosts.degraded) then s
  else
    let rose := (m && !s.hosts.maintenance) || (g && !s.hosts.degraded)
    { s with hosts := { s.hosts with maintenance := m, degraded := g } }.report 0
      (if rose then cHealthSet else cHealthClear) (if rose then 1 else 0) 0 [m.toNat, g.toNat]

/-- 11 R271: the conditions under which CHG_EN is high. -/
def State.mayCharge (s : State) : Bool :=
  s.bat.present && !s.bat.tempInhibit && decide (s.bat.learn ≤ 1) &&
    decide (1 ≤ s.seq.st) && decide (s.seq.st ≤ 12)

/-- 11 R276, R278: the learn load is on in the main stretch and the tail discharge. -/
def State.learnLoad (s : State) : Bool :=
  s.bat.present && (decide (s.bat.learn = 2) || decide (s.bat.learn = 4)) &&
    decide (1 ≤ s.seq.st) && decide (s.seq.st ≤ 12)

/-- 11: the charger pin and the load pin. -/
def settlePins (s : State) : State :=
  { s with bat := { s.bat with
      chgEn := s.mayCharge, learnPwm := s.learnLoad, chgHeld := s.bat.chgHeld && s.mayCharge } }

/-- What follows at the end of every command. -/
def settle (s : State) : State := settlePins (settleHealth (settleShares (settleArm s)))

/-- Every meaning runs its effect on a clean output and settles; without its AON supply the block
does nothing (12 Table 12.3, Off). -/
def act (f : State → State) (s : State) : Host.Outcome State Fault Refusal :=
  .next (if s.aon.on then settle (f s.fresh) else s.fresh)

/-- Media Status is Ready: state 12, or a package that fell from it into state 15, whose dies keep
their data paths (02 R54, 09 R232, 12 R287). -/
def State.mediaReady (s : State) : Bool :=
  decide (s.seq.st = 12) || (decide (s.seq.st = 15) && decide (4 ≤ s.freeze.thaw))

/-- Memory Device Status (02 R42): bit 0 Media Status Ready, bit 1 Mailbox Interface Ready. The spec names the
two fields and gives no bit positions (DESIGN CHOICE, log 140). -/
def State.devStatus (s : State) : Nat := s.mediaReady.toNat + 2 * s.mgmt.ready.toNat

end Sys2Proof.Machine
end

