-- ==== Sys2Proof/Machine/Domains.lean ====
section
/-! DEFINITION. Rails and power domains as the supervisors see them: the rail configuration in force,
rail states, which domains are on, pad groups, and ports that drain (12 R291, R297–R300). -/
namespace Sys2Proof.Machine

/-- Rail configuration in force: R.01 to R.08 as state 1 took them (12 R304). -/
def State.railCfg (s : State) (d i sub : Nat) : Nat :=
  look (objDefault s.n (okey (ixRail d i) sub)) s.seq.cfg (okey (ixRail d i) sub)

/-- Rail state R.09: 0 unused, 1 off, 2 soft start, 3 good, 4 failed, 5 not started. -/
def State.railSt (s : State) (d i : Nat) : Nat := s.reg (ixRail d i) 9

/-- Set a rail's state, failure reason and attempts. -/
def State.setRail (s : State) (d i st reason attempts : Nat) : State :=
  ((s.setReg (ixRail d i) 9 st).setReg (ixRail d i) 0x0A reason).setReg (ixRail d i) 0x0B attempts

/-- The rail is used, and its enable is driven. -/
def State.railUsed (s : State) (d i : Nat) : Bool := decide (s.railCfg d i 1 ≠ 0)
def State.railOn (s : State) (d i : Nat) : Bool :=
  decide (s.railSt d i = 2) || decide (s.railSt d i = 3)

/-- The 24 rails of a die. -/
def railList : List Nat := List.range 24

/-- Rail i depends on rail j directly. -/
def State.dependsOn (s : State) (d i j : Nat) : Bool :=
  s.railUsed d i && bitOf (s.railCfg d i 2) j

/-- Every parent of a rail is good. -/
def State.parentsGood (s : State) (d i : Nat) : Bool :=
  railList.all fun j => !bitOf (s.railCfg d i 2) j || decide (s.railSt d j = 3)

/-- Rails that depend on some rail of a set, directly or through others, the set included. -/
def State.dependents (s : State) (d : Nat) : Nat → List Nat → List Nat
  | 0, l => l
  | k + 1, l =>
    s.dependents d k (l ++ railList.filter fun i => !l.elem i && l.any fun j => s.dependsOn d i j)

/-- 12 Table 12.1: the state that switches a domain on. -/
def domainState (k : Nat) : Nat :=
  if k = 1 ∨ k = 2 ∨ k = 4 then 0
  else if k = 3 ∨ k = 8 ∨ (21 ≤ k ∧ k ≤ 24) then 2
  else if (5 ≤ k ∧ k ≤ 7) ∨ k = 30 then 3
  else if 13 ≤ k ∧ k ≤ 16 then 5
  else if (17 ≤ k ∧ k ≤ 20) ∨ k = 25 then 6
  else 8

/-- Domains that a freeze switches off at the freeze point (09 R219); the field bus of die 0 goes with
the final record. -/
def frozenDomain (k : Nat) : Bool :=
  k = 5 ∨ k = 8 ∨ (9 ≤ k ∧ k ≤ 12) ∨ k = 26 ∨ k = 30

/-- Domains that go at the end of a freeze, with the final record: the lead die's field bus, quadrants, flash
groups and links (09 R219, Table 09.1 step 10). -/
def lastDomain (k : Nat) : Bool := k = 7 ∨ (13 ≤ k ∧ k ≤ 24) ∨ (27 ≤ k ∧ k ≤ 29)

/-- 12 Table 12.1, 09 R219: the current state allows a domain to be on; what a freeze has switched off stays off
until the package reset. States 13 and 15 switch nothing on that the state before had not reached (12 R297). -/
def State.domainAllowed (s : State) (d k : Nat) : Bool :=
  if k = 1 ∨ k = 2 ∨ k = 4 then true
  else if s.seq.st = 14 then false
  else if (s.seq.st = 13 ∨ s.hosts.stopped = true) ∧
      (frozenDomain k = true ∨ (lastDomain k = true ∧ s.freeze.active = false)) then false
  else if k = 7 ∧ d ≠ 0 then false
  else decide (domainState k ≤ if s.seq.st = 13 ∨ s.seq.st = 15 then s.seq.reached else s.seq.st)

/-- Quadrant q is powered down by hibernation (10 Table 10.5), or released at step 5 of a freeze
(09 R222). -/
def State.hibernated (s : State) (d q : Nat) : Bool :=
  (decide ((s.quad d q).st = 3) && !(s.quad d q).returning) ||
    (s.hosts.stopped && decide ((s.quad d q).st = 5))

/-- A rail feeds a domain. -/
def State.feeds (s : State) (d i k : Nat) : Bool :=
  s.railUsed d i && bitOf (s.railCfg d i 5) (k - 1)

/-- 12 R297: a domain is on while every rail that feeds it is good, the state allows it, and neither a
request nor hibernation has switched it off. -/
def State.domainOn (s : State) (d k : Nat) : Bool :=
  s.aon.on && s.domainAllowed d k && !bitOf (s.reg (0x7110 + d) 2) (k - 1) &&
    !((decide (13 ≤ k) && decide (k ≤ 16) && s.hibernated d (k - 13)) ||
      (decide (21 ≤ k) && decide (k ≤ 24) && s.hibernated d (k - 21))) &&
    (railList.all fun i => !s.feeds d i k || decide (s.railSt d i = 3)) &&
    !(decide (27 ≤ k) && decide (k ≤ 29) && !s.bonded d (k - 27))

/-- Every rail that feeds a domain is good. -/
def State.domainFed (s : State) (d k : Nat) : Bool :=
  railList.all fun i => !s.feeds d i k || decide (s.railSt d i = 3)

/-- The converter of a die runs: the core PLL has locked and domain 8 has power; from the freeze point on it has it for
the charge accumulator (13 R308, Table 13.7; 09 R219). -/
def State.adcRuns (s : State) (d : Nat) : Bool :=
  s.aon.on && decide (d < s.n) && (s.adcOf d).running && !s.dieOut d && decide (s.seq.st ≠ 14) && s.domainFed d 8

/-- 0x7110+d.01: domains on, bit k for domain k + 1. -/
def State.domainMask (s : State) (d : Nat) : Nat :=
  (List.range 30).foldl (fun m k => if s.domainOn d (k + 1) then m + 2 ^ k else m) 0

/-- Pad groups latched on a die. -/
def State.padsOf (s : State) (d : Nat) : Nat := look 0 s.seq.pads d

def State.setPads (s : State) (d v : Nat) : State :=
  { s with seq := { s.seq with pads := put 0 s.seq.pads d v } }

/-- 12 R300: the groups of domains that were on before and are off now latch; those of the AON domain
and the supervisor never do. -/
def State.latchPads (s : State) (d before : Nat) : State :=
  let gone := before &&& (2 ^ 30 - 1 - s.domainMask d)
  s.setPads d (s.padsOf d ||| (gone &&& (2 ^ 30 - 1 - 3)))

/-- Run a change of a die's supply and latch the pads of the domains it switches off. -/
def State.withPads (s : State) (d : Nat) (f : State → State) : State := (f s).latchPads d (s.domainMask d)

/-- Domains of a die's port p (01 Table 01.6): PHY and transaction layer. -/
def portDomains (p : Nat) : List Nat := [9 + 2 * p, 10 + 2 * p]

/-- A port has power. -/
def State.portPowered (s : State) (g : Nat) : Bool :=
  (portDomains (g % 2)).all fun k => s.domainOn (dieOfPort g) k

/-- The pad groups of a port have been released (12 R300, R301). -/
def State.portPads (s : State) (g : Nat) : Bool :=
  (portDomains (g % 2)).all fun k => !bitOf (s.padsOf (dieOfPort g)) (k - 1)

/-- A PLL that clocks a port is out of lock or has failed: its domain is stopped and takes nothing
(14 R326). -/
def State.portStopped (s : State) (g : Nat) : Bool :=
  let c := s.clk (dieOfPort g)
  (c.unlocked ++ c.failed).any fun k =>
    decide (k = 1) || decide (k = 2 + g % 2) || decide (k = 4 + g % 2)

/-- 12 R298: a port domain that drains accepts no new requests. -/
def State.portDraining (s : State) (g : Nat) : Bool :=
  s.seq.drains.any fun x => decide (x.die = dieOfPort g) && (portDomains (g % 2)).elem x.dom

/-- A clock domain of a die has a PLL that stands still (14 R326). -/
def State.pllOut (s : State) (d k : Nat) : Bool := (s.clk d).unlocked.elem k || (s.clk d).failed.elem k

/-- PERST_N of a port is low. -/
def State.perst (s : State) (g : Nat) : Bool := bitOf s.hosts.perstLow g

/-- Links that a port's bifurcation in force creates. -/
def State.portLinks (s : State) (g : Nat) : List Nat := List.range (linksOf (s.bifOf g))

/-- 02 R35: the links of a port start training once PERST_N is high and the port's domains are on. -/
def State.startPort (s : State) (g : Nat) : State :=
  if s.portPowered g && s.portPads g && !s.dieOut (dieOfPort g) && !s.portStopped g && !s.perst g && !s.hosts.stopped &&
      decide (8 ≤ s.seq.st) then
    (s.portLinks g).foldl (fun u l =>
      if (u.hlink g l).st = 0 then u.setLink g l { u.hlink g l with st := 1 } else u) s
  else s

/-- The links of every port that may start training. -/
def State.startLinks (s : State) : State := (List.range (2 * s.n)).foldl (fun t g => t.startPort g) s

end Sys2Proof.Machine
end

