-- ==== Sys2Proof/Machine/Recorder.lean ====
section
/-! DEFINITION. The event ring of a die: the words of a record, its writing, what a written record
sets off (event logs, ATTENTION, Host Notify), and the copying of records by a reader (19). -/
namespace Sys2Proof.Machine

/-- Words of a ring (19 R402). -/
def ringWords : Nat := 131072

/-- 19 Table 19.2: the header word. -/
def headerWord (seq ty len sev : Nat) (tv : Bool) (vis : Nat) : LWord :=
  BitVec.ofNat 64 (seq * 2 ^ 32 + ty * 2 ^ 16 + len * 2 ^ 8 + sev * 2 ^ 6 + tv.toNat * 2 ^ 5 +
    vis * 2 ^ 2)

/-- 19 Table 19.3: the timestamp word. -/
def timeWord (count time : Nat) : LWord := BitVec.ofNat 64 (count * 2 ^ 48 + time % 2 ^ 48)

/-- 19 Table 19.1: the valid mark. -/
def validMark (seq : Nat) : LWord := BitVec.ofNat 64 (seq * 2 ^ 32 + (2 ^ 32 - 1 - seq % 2 ^ 32))

/-- Bytes as words, zero-padded: k words. -/
def packWords : Nat → Bytes → List LWord
  | 0, _ => []
  | k + 1, b => BitVec.ofNat 64 (leNat (b.take 8)) :: packWords k (b.drop 8)

/-- The words of a record before its valid mark. -/
def bodyWords (seq : Nat) (x : Staged) : List LWord :=
  headerWord seq x.ty x.data.length x.sev x.tv x.vis :: timeWord x.count x.time ::
    packWords ((x.data.length + 7) / 8) x.data

/-- The words of a record (19 Table 19.1). -/
def recordWords (seq : Nat) (x : Staged) : List LWord := bodyWords seq x ++ [validMark seq]

/-- Put words into a ring from an offset. -/
def putWords (ring : Sparse LWord) (off : Nat) : List LWord → Sparse LWord
  | [] => ring
  | w :: ws => putWords (put 0 ring off w) (off + 1) ws

/-- Words of a record by its header (19 R411). -/
def recordLen (h : LWord) : Nat := 3 + (h.toNat / 2 ^ 8 % 256 + 7) / 8
def recordSeq (h : LWord) : Nat := h.toNat / 2 ^ 32
def recordVis (h : LWord) : Nat := h.toNat / 4 % 8

/-- Records of the index that stay records of the ring when words [off, off + n) are written:
those behind the last one destroyed, and none of the tail skipped by a wrap (19 R405). -/
def keepIndex (ring : Sparse LWord) (off n : Nat) (wrapped : Bool) (tail : Nat) :
    List (Nat × Nat) → List (Nat × Nat)
  | [] => []
  | e :: l =>
    let len := recordLen (look 0 ring e.2)
    if (decide (e.2 < off + n) && decide (off < e.2 + len)) || (wrapped && decide (tail ≤ e.2)) then
      keepIndex ring off n wrapped tail l
    else e :: l

/-- Write a record to the ring: header first, valid mark last (19 R404, R405). -/
def Recorder.write (r : Recorder) (x : Staged) : Recorder :=
  let ws := recordWords r.nextSeq x
  let wrapped := decide (r.nextOff = 0) && r.newest.isSome
  let tail := r.newestOff + recordLen (look 0 r.ring r.newestOff)
  let idx := keepIndex r.ring r.nextOff ws.length wrapped tail r.index ++ [(r.nextSeq, r.nextOff)]
  let e := r.nextOff + ws.length
  { r with
    ring := putWords r.ring r.nextOff ws
    newest := some r.nextSeq
    newestOff := r.nextOff
    nextSeq := (r.nextSeq + 1) % 2 ^ 32
    nextOff := if ringWords - e < 10 then 0 else e
    index := idx
    oldest := ((idx.head?.map (·.1)).getD r.nextSeq) }

/-- The field bus is in use: the node is valid and not bus-off (15 R348, R349). -/
def State.busOn (s : State) : Bool := decide (1 ≤ s.bus.st) && decide (s.bus.st ≤ 2)

/-- Queue a frame to transmit, with the package's node as its source (15 R351); a node that only monitors the bus sends
nothing (15 R348, R349). -/
def State.sendFrame (s : State) (f : TxFrame) : State :=
  if 1 ≤ s.bus.st then
    { s with bus := { s.bus with
        tx := s.bus.tx ++ [{ f with src := s.build.node, queuedAt := s.aon.now }] } }
  else s

/-- 100 ms have passed since a stamp, or there is none. -/
def State.spaced (s : State) (at_ : Option Nat) : Bool :=
  match at_ with
  | some t => decide (100000000 ≤ s.aon.now - t)
  | none => true

/-- 15 R362: an ATTENTION frame, at most one per cause per 100 ms. -/
def State.attention (s : State) (cause die seq sev : Nat) : State :=
  let last := if cause = 1 then s.bus.attn1 else s.bus.attn2
  if 1 ≤ s.bus.st ∧ s.domainOn 0 7 = true ∧ s.spaced last = true then
    let f : TxFrame :=
      { prio := 2, svc := 0xB, dst := s.reg 0x1101 6, src := 0, tag := 0, sid := 0x1F, seqNo := 0,
        seg := false, last := false, rsp := false,
        payload := leBytes 1 cause ++ leBytes 1 die ++ leBytes 4 seq ++ leBytes 1 sev, ctr := none, mac := 0
        queuedAt := 0 }
    let s1 := s.sendFrame f
    if cause = 1 then { s1 with bus := { s1.bus with attn1 := some s.aon.now } }
    else { s1 with bus := { s1.bus with attn2 := some s.aon.now } }
  else s

/-- The address byte of the two-wire target (17 R370). -/
def State.wireAddr (s : State) : Nat := 0x58 + s.build.addr

/-- Set bit 0 of ATTN (17 Table 17.1). -/
def State.setAttn (s : State) : State :=
  { s with wire := { s.wire with mem := Memory.setByte s.wire.mem 0x0F 1 } }

/-- 17 R377: an attention by Host Notify. A new cause replaces the data word of one that waits. -/
def State.hostNotify (s : State) (sev die : Nat) : State :=
  let s := s.setAttn
  match s.wire.notify with
  | some _ => { s with wire := { s.wire with notify := some (sev, die) } }
  | none =>
    let s := { s with wire := { s.wire with notify := some (sev, die), retries := 0, lastEnd := 0 } }
    if s.spaced s.wire.notifyAt then
      { s with wire := { s.wire with attempting := true, notifyAt := some s.aon.now } }.emit
        (.hostNotify s.wireAddr (sev * 256 + die))
    else s

/-- Add a record to a link's log of its severity: 256 records, then the overflow flag (02 R48). -/
def EvLog.add (l : EvLog) (r : LogRec) : EvLog :=
  if l.recs.length < 256 then { l with recs := l.recs ++ [r] } else { l with overflow := true }

/-- A link's log of a severity. -/
def HLink.log (l : HLink) (sev : Nat) : EvLog :=
  if sev = 0 then l.info else if sev = 1 then l.warning else if sev = 2 then l.failure else l.fatal

def HLink.setLog (l : HLink) (sev : Nat) (g : EvLog) : HLink :=
  if sev = 0 then { l with info := g } else if sev = 1 then { l with warning := g }
  else if sev = 2 then { l with failure := g } else { l with fatal := g }

/-- Put a record into a link's log with the next handle; handles run from 1. -/
def HLink.addRec (l : HLink) (sev : Nat) (kind : EventKind) (ws : List LWord) : HLink :=
  let h := l.nextHandle % 65535 + 1
  { l.setLog sev ((l.log sev).add { handle := h, sev := sev, kind := kind, words := ws }) with nextHandle := h }

/-- Number of a record type, as outputs carry it. -/
def EventKind.code : EventKind → Nat
  | .media => 1
  | .dram => 2
  | .module => 3
  | .vendor => 4

/-- The record type of a number. -/
def kindOf : Nat → Option EventKind
  | 1 => some .media
  | 2 => some .dram
  | 3 => some .module
  | 4 => some .vendor
  | _ => none

/-- Causes of each record type of 02 Table 02.7, by its words and those of Table 02.10. -/
def mediaCauses : List Nat :=
  [cMedia, cWriteOverPoison, cHealDone, cHealBad, cPoisonRemoved, cPoisonOverflow, cPoisonRange, cLostRange,
    cLinePoisoned, cPageUnreadable]
def dramCauses : List Nat := [cCopyStart, cCopyDone, cSpareExhausted, cRankLost, cSpareFailed]
def moduleCauses : List Nat :=
  [cHealthSet, cHealthClear, cDirtyShutdown, cThawEpoch, cThawFreeze, cDisarmed, cArmed, cScaled, cThermistor, cEmpty,
    cLearnDone, cLearnWeak, cLearnRefused, cPackChange, cDecay]
def vendorCauses : List Nat :=
  [cViolation, cRefusal, cDictViolation, cMediaNotReady, cUnreachable, cLinkDown, cLinkUp, cHostLink, cIdeFail, cIdeUp, cIdeStop,
    cCdat, cTimeIgnored, cThawProgress, cThawDone]

/-- The record type under which a report enters the logs; none where Table 02.7 does not name it (log 146). -/
def Staged.kind (x : Staged) : Option EventKind :=
  match x.cause with
  | some c =>
    if mediaCauses.elem c then some .media else if dramCauses.elem c then some .dram
    else if moduleCauses.elem c then some .module else if vendorCauses.elem c then some .vendor else none
  | none => if [0x1201, 0x1202, 0x1203, 0x6801].elem x.typ then none else kindOf (Config.reportKind x.typ)

/-- A log's byte of the interrupt policy: bits 1 to 0 the mode (1 is MSI-X), bits 7 to 4 the vector (CXL's own
layout, log 147). -/
def HLink.policyOf (l : HLink) (sev : Nat) : Nat := l.policy / 256 ^ sev % 256

/-- A link's log that was empty has a record: its MSI-X vector signals when the policy says so (02 R37,
Table 02.3; log 147). -/
def State.signalLog (s : State) (port link sev : Nat) : State :=
  let k := s.hlink port link
  if k.st = 2 ∧ k.policyOf sev % 4 = 1 ∧ (k.log sev).recs.length = 1 then
    s.emit (.msix port link (k.policyOf sev / 16) (look 0 k.msix (k.policyOf sev / 16)))
  else s

/-- Links of host-owner ports (02 R39, R48): every link that the port's bifurcation creates. -/
def State.ownerLinks (s : State) : List (Nat × Nat) :=
  (List.range (2 * s.n)).flatMap fun g =>
    if s.reg (ixPort g) 3 = 1 then
      (List.range (linksOf (s.bifOf g))).map fun l => (g, l) else []

/-- 02 R48, R429: copy a record to the logs of every link of every host-owner port. -/
def State.logRecord (s : State) (sev : Nat) (kind : EventKind) (ws : List LWord) : State :=
  s.ownerLinks.foldl
    (fun t p => (t.setLink p.1 p.2 ((t.hlink p.1 p.2).addRec sev kind ws)).signalLog p.1 p.2 sev) s

/-- Write a report to a die's ring, and what the written record sets off (19 R408, R410): an event of 02
Table 02.7 that the host-owner realm may read enters the logs (02 R48, R429). -/
def State.writeRecord (s : State) (d : Nat) (x : Staged) : State :=
  let r := s.recorder d
  let seq := r.nextSeq
  let s := (s.setRecorder d (r.write x)).inc (0x1210 + d) 3
  let s := match x.kind with
    | some k => if x.vis ≤ 1 then s.logRecord x.sev k (bodyWords seq x) else s
    | none => s
  let s := if s.reg 0x1101 7 ≤ x.sev then s.attention 2 d seq x.sev else s
  if s.reg 0x7400 5 ≤ x.sev ∧ s.reg 0x7400 6 = 1 ∧ s.domainOn 0 7 = true then s.hostNotify x.sev d else s

/-- 19 Table 19.4: the loss record. -/
def Recorder.lossRecord (r : Recorder) (tv : Bool) : Staged :=
  { typ := 0x1201, cause := none, args := [], sev := 1, vis := 0,
    payload := leBytes 4 (min u32max r.lost) ++ leBytes 4 0 ++ leBytes 6 r.lostLast ++ leBytes 2 0,
    time := r.lostFirst, tv := tv, count := 1, single := true }

/-- Write the next entry of a die's queue; the loss record in its turn (19 R407, R408). -/
def State.writeNext (s : State) (d : Nat) : State :=
  let r := s.recorder d
  if 0 < r.lost ∧ (r.lostAhead = 0 ∨ r.queue = []) then
    (s.setRecorder d { r with lost := 0, lostAhead := 0 }).writeRecord d (r.lossRecord s.timeValid)
  else
    match r.queue with
    | [] => s
    | x :: q => (s.setRecorder d { r with queue := q, lostAhead := r.lostAhead - 1 }).writeRecord d x

/-- Something waits in a die's staging queue. -/
def Recorder.waits (r : Recorder) : Bool := !r.queue.isEmpty || decide (0 < r.lost)

/-- Write everything a queue holds, without the meter (19 R409). -/
def State.drainQueue (s : State) (d : Nat) : Nat → State
  | 0 => s
  | k + 1 => if (s.recorder d).waits then (s.writeNext d).drainQueue d k else s

/-- 19 R406: the state of a ring after its scan: the records its words hold, as its registers say. -/
def State.ringRebuilt (s : State) (d : Nat) : State :=
  let r := s.recorder d
  s.stage d
    { typ := 0x1202, cause := none, args := [], sev := 0, vis := 0,
      payload := leBytes 4 (r.newest.getD 0) ++ leBytes 4 r.index.length,
      time := s.aon.deviceTime, tv := s.timeValid, count := 1, single := false }

/-- The VIS code of a realm (19 Table 19.2). -/
def Realm.vis : Realm → Nat
  | .hostOwner => 1
  | .rack => 2
  | .board => 3
  | .tenant => 4

/-- Sequence number a is before b, modulo 2^32 (19 R404). -/
def seqBefore (a b : Nat) : Bool := decide (2 ^ 31 ≤ (a + 2 ^ 32 - b % 2 ^ 32) % 2 ^ 32)

/-- A record as the reader of a realm gets it: whole, or withheld (19 R411). -/
def readWords (ring : Sparse LWord) (off seq : Nat) (rm : Realm) : List LWord :=
  let h := look 0 ring off
  if recordVis h = 0 ∨ recordVis h = rm.vis then
    (List.range (recordLen h)).map fun i => look 0 ring (off + i)
  else
    [headerWord seq 0x1203 0 0 (bitOf h.toNat 5) 0, look 0 ring (off + 1), validMark seq]

/-- Bytes of words, little-endian (15 R338). -/
def wordBytes (ws : List LWord) : Bytes := ws.flatMap fun w => leBytes 8 w.toNat

/-- Whole records from a sequence number on, at most `room` bytes: the bytes, how many records, and
the sequence number to continue with (19 R411). -/
def takeRecords (ring : Sparse LWord) (rm : Realm) :
    List (Nat × Nat) → Nat → Nat → Bytes × Nat × Nat
  | [], _, next => ([], 0, next)
  | e :: l, room, next =>
    let b := wordBytes (readWords ring e.2 e.1 rm)
    if b.length ≤ room then
      let r := takeRecords ring rm l (room - b.length) ((e.1 + 1) % 2 ^ 32)
      (b ++ r.1, r.2.1 + 1, r.2.2)
    else ([], 0, next)

/-- What a read from sequence `start` gives: bytes, records, next sequence, a gap met, more follow
(19 R411). -/
structure RingRead where
  data : Bytes
  count : Nat
  next : Nat
  gap : Bool
  more : Bool
  deriving DecidableEq, Repr

def Recorder.readFrom (r : Recorder) (rm : Realm) (start room : Nat) : RingRead :=
  let gap := !r.index.isEmpty && seqBefore start r.oldest
  let from_ := if gap then r.oldest else start
  let l := r.index.filter fun e => !seqBefore e.1 from_
  let t := takeRecords r.ring rm l room from_
  { data := t.1, count := t.2.1, next := t.2.2, gap := gap, more := decide (t.2.1 < l.length) }

/-- EVENT_REPORT (19 R407): a report reaches a die's staging queue. -/
def execEventReport (die : Nat) (r : Report) (s : State) : Host.Outcome State Fault Refusal :=
  act (fun s =>
    if die < s.n then
      s.stage die
        { typ := r.typ, cause := none, args := [], sev := r.sev, vis := 0,
          payload := r.payload.take 56, time := s.aon.deviceTime, tv := s.timeValid, count := 1,
          single := r.single }
    else s) s

/-- One token of a die's meter, in the units of its level. -/
def oneToken : Nat := 1000000000

/-- The level of a die's meter now: 0x1200.02 tokens a second into a bucket of 64 (19 R408). -/
def State.tokenLevel (s : State) (d : Nat) : Nat :=
  min (64 * oneToken) ((s.recorder d).tokens + (s.aon.now - (s.recorder d).tokenAt) * s.reg 0x1200 2)

/-- RECORD_WRITE (19 R408): a token of a die's meter lets the next queued record into its ring; with nothing queued
or no token nothing is written. -/
def execRecordWrite (die : Nat) (s : State) : Host.Outcome State Fault Refusal :=
  act (fun s =>
    if die < s.n ∧ (s.recorder die).waits = true ∧ oneToken ≤ s.tokenLevel die then
      (s.setRecorder die { s.recorder die with
        tokens := s.tokenLevel die - oneToken, tokenAt := s.aon.now }).writeNext die
    else s) s

end Sys2Proof.Machine
end

