-- ==== Sys2Proof/Machine/Answer.lean ====
section
/-! DEFINITION. Answers: status codes, the answer of a dictionary operation on each of its paths,
and the responses of CXL.mem requests with the violations they may end in (02 R54, 15 Table 15.3). -/
namespace Sys2Proof.Machine

/-- 15 Table 15.3. -/
def stOk : Nat := 0x0000
def stNoObject : Nat := 0x0101
def stNoSubindex : Nat := 0x0102
def stAccess : Nat := 0x0201
def stRefused : Nat := 0x0202
def stBusy : Nat := 0x0301
def stState : Nat := 0x0302
def stLength : Nat := 0x0401
def stSession : Nat := 0x0501
def stSequence : Nat := 0x0601

/-- CXL return codes of the mailbox, with the numbers of CXL 3.1 (PRESUMED, log 18): Success, Invalid
Input, Unsupported, Internal Error, Retry Required, Busy, FW Transfer in Progress, FW Transfer Out of
Order, Invalid Slot, Invalid Handle, Invalid Payload Length. -/
def rcSuccess : Nat := 0
def rcInvalidInput : Nat := 2
def rcUnsupported : Nat := 3
def rcInternal : Nat := 4
def rcRetry : Nat := 5
def rcBusy : Nat := 6
def rcTransfer : Nat := 8
def rcOrder : Nat := 9
def rcSlot : Nat := 0xB
def rcHandle : Nat := 0xE
def rcPayloadLength : Nat := 0x16

/-- Result of an operation on an object: a status and bytes accepted or returned, the object's
length and data; or an answer that comes later. -/
inductive Ans where
  | now (status len objLen : Nat) (data : Bytes)
  | later
  deriving DecidableEq, Repr

/-- A status alone. -/
def Ans.st (status : Nat) : Ans := .now status 0 0 []

/-- A caller: the path, and the identifier of its request on the field bus (15 R351). -/
def callerOf (o : Origin) : Caller :=
  { origin := o, head := (match o with | .fieldBus h _ => h | _ => { prio := 0, src := 0, tag := 0 }) }

/-- An ODP response frame before it takes a counter and its source (15 R351, R352). -/
def respBare (h : OdpHead) (svc sid : Nat) (payload : Bytes) : TxFrame :=
  { prio := h.prio, svc := svc, dst := h.src, src := 0, tag := h.tag, sid := sid, seqNo := 0, seg := false,
    last := false, rsp := true, payload := payload, ctr := none, mac := 0, queuedAt := 0 }

/-- The 29-bit identifier of a frame, packed as Table 15.5 lays it out (15 R351). -/
def TxFrame.ident (f : TxFrame) : BitVec 29 :=
  BitVec.ofNat 3 f.prio ++ BitVec.ofNat 4 f.svc ++ BitVec.ofNat 7 f.dst ++ BitVec.ofNat 7 f.src ++ BitVec.ofNat 8 f.tag

/-- Header of a frame, bytes 0 to 3 (15 Table 15.7). -/
def TxFrame.header (f : TxFrame) : Bytes :=
  leBytes 1 (128 * f.rsp.toNat + 64 * f.seg.toNat + 32 * f.last.toNat + f.sid) ++ leBytes 1 f.payload.length ++
    leBytes 2 f.seqNo

/-- The first n bytes of a frame without its MAC: header, payload and zeros (15 R352). -/
def TxFrame.front (f : TxFrame) (n : Nat) : Bytes := (f.header ++ f.payload ++ List.replicate 60 0).take n

/-- MAC of a session frame under a key and a counter (15 R354). -/
def TxFrame.macOf (f : TxFrame) (ks : BitVec 256) (ctr : Nat) : BitVec 64 :=
  (Config.aesCmac (leBytes 32 ks.toNat) (leBytes 4 ctr ++ leBytes 4 f.ident.toNat ++ f.front 56)).extractLsb' 0 64

/-- The 64 bytes of a frame: a session frame ends with its MAC (15 R352). -/
def TxFrame.bytes (f : TxFrame) : Bytes := if f.sid < 4 then f.front 56 ++ leBytes 8 f.mac.toNat else f.front 64

/-- A session frame with its counter and the MAC under it. -/
def TxFrame.sign (f : TxFrame) (ks : BitVec 256) (ctr : Nat) : TxFrame := { f with ctr := some ctr, mac := f.macOf ks ctr }

/-- What die 0's firmware takes of a request's identifier (15 R351, Table 15.5). -/
def headOf (id : BitVec 29) : OdpHead :=
  { prio := (id.extractLsb' 26 3).toNat, src := (id.extractLsb' 8 7).toNat, tag := (id.extractLsb' 0 8).toNat }

/-- A session closes, with every transfer in it (15 R357). -/
def State.closeSession (s : State) (sid : Nat) : State :=
  { s.setSession sid noSession with bus := { (s.setSession sid noSession).bus with
      segments := s.bus.segments.filter fun g => decide (g.sid ≠ sid) } }

/-- The largest frame counter, which closes its session (15 R356). -/
def lastCtr : Nat := 0xFFFFFFFF

/-- A frame of the session open to its destination takes the next counter of the SW74's direction; any
other frame goes with a zero MAC (15 R356). -/
def State.stamp (s : State) (f : TxFrame) : TxFrame × State :=
  let x := s.session f.sid
  if f.sid < 4 ∧ x.isOpen = true ∧ x.node = f.dst ∧ f.ctr = none then
    let s := s.setSession f.sid { x with txCtr := x.txCtr + 1 }
    (f.sign x.ks (x.txCtr + 1), if lastCtr ≤ x.txCtr + 1 then s.closeSession f.sid else s)
  else (f, s)

/-- An ODP response frame on a session, or plain, with the package's node as its source. -/
def State.respFrame (s : State) (h : OdpHead) (svc sid : Nat) (payload : Bytes) : TxFrame × State :=
  s.stamp { respBare h svc sid payload with src := s.build.node }

/-- A frame of a segmented transfer, or a FLOW of one, with its number (15 R359). -/
def State.segFrame (s : State) (h : OdpHead) (svc sid : Nat) (payload : Bytes) (seqNo : Nat) (last : Bool) :
    TxFrame × State :=
  s.stamp { respBare h svc sid payload with src := s.build.node, seqNo := seqNo, seg := true, last := last }

/-- Add a response to those that wait for the response slot, where it takes its counter (15 R358). -/
def State.slotFrame (s : State) (f : TxFrame) : State :=
  { s with bus := { s.bus with slotted := s.bus.slotted ++ [{ f with src := s.build.node }] } }

/-- Payload of an SWRITE response and of the first frame of a read response (15 Table 15.8). -/
def writeRespBytes (status len : Nat) : Bytes := leBytes 2 status ++ leBytes 2 0 ++ leBytes 4 len
def readRespBytes (status objLen : Nat) (data : Bytes) : Bytes :=
  leBytes 2 status ++ leBytes 2 0 ++ leBytes 4 objLen ++ data

/-- Complete the two-wire operation (17 R373, R374). -/
def State.wireDone (s : State) (status len objLen : Nat) (data : Bytes) : State :=
  let rd : Bool := match s.wire.busy with
    | some op => !op.isWrite
    | none => false
  let m := Memory.setBytes s.wire.mem 0x08 (leBytes 2 status ++ leBytes 1 2 ++ leBytes 4 objLen)
  let m := if rd then
      Memory.setBytes (Memory.setByte m 0x03 (BitVec.ofNat 8 len)) 0x10
        (data ++ List.replicate (240 - data.length) 0)
    else m
  { s with wire := { s.wire with mem := m, busy := none } }

/-- Answer a write on its path (15 R358, R363; 02 Table 02.5; 17 R374). Slotted answers of the field
bus wait for the response slot. -/
def State.answerWrite (s : State) (c : Caller) (slotted : Bool) (status len objLen : Nat) : State :=
  match c.origin with
  | .mailbox port link => if c.gone then s else s.emit (.dict port link status len objLen [])
  | .fieldBus _ sid =>
    if slotted then s.slotFrame (respBare c.head 5 sid (writeRespBytes status len))
    else
      let f := s.respFrame c.head 5 sid (writeRespBytes status len)
      f.2.sendFrame f.1
  | .twoWire =>
    match s.wire.busy with
    | some _ => s.wireDone status len objLen []
    | none => s.emit (.objData .twoWire status len objLen [])

/-- A tenancy operation that failed: its answer is due 2 us after it was taken (03 R81); the reason
goes to a record readable in the caller's realm. -/
def State.refuse (s : State) (c : Caller) (idx sub reason : Nat) : State :=
  let s : State := { s with ten := { s.ten with
    refused := s.ten.refused ++ [{ caller := c, status := stRefused }] } }
  s.report 0 cRefusal 0 (s.realm c.origin).vis [reason, idx, sub]

/-- Exhaustion of a shared resource: STATE in the same fixed time (03 R81). -/
def State.exhaust (s : State) (c : Caller) : State :=
  { s with ten := { s.ten with
      refused := s.ten.refused ++ [{ caller := c, status := stState }] } }

/-- 06 R141: the priority at which a request or its response crosses the links, by its class. -/
def linkPrio (cls : Nat) : Nat := if cls = 0 then 2 else if cls = 3 then 11 else 6

/-- The request of a flit. -/
def FlitBody.req : FlitBody → Req
  | .request q => q
  | .data q _ _ => q
  | .cmp q => q

/-- A flit is a Cmp: its write has been done. -/
def FlitBody.isCmp : FlitBody → Bool
  | .cmp _ => true
  | _ => false

/-- A class 0 flit finds an earlier class 0 flit waiting at the link (06 R139). -/
def State.contendedAt (s : State) (key : Nat) : Bool :=
  s.hosts.flits.any fun f => decide (f.key = key) && decide (f.prio = 2)

/-- A class 0 request has met an earlier one: it is counted in its port's object, once (06 R139). -/
def State.countMet (s : State) (q : Req) : State := if q.met then s else s.inc (0x5010 + q.port) 5

/-- Mark the request of a flit as counted. -/
def FlitBody.noteMet : FlitBody → FlitBody
  | .request q => .request { q with met := true }
  | .data q l p => .data { q with met := true } l p
  | .cmp q => .cmp { q with met := true }

/-- A flit joins those that wait at a link. -/
def State.waitAt (s : State) (key : Nat) (b : FlitBody) : State :=
  let q := b.req
  let meets := decide (q.cls = 0) && s.contendedAt key
  let s := if meets then s.countMet q else s
  { s with hosts := { s.hosts with
      flits := s.hosts.flits ++
        [{ key := key, prio := linkPrio q.cls, body := if meets then b.noteMet else b }] } }

/-- Nothing is answered: the requester is gone or cut off by a freeze, or the request is the SW74's own
(02 R56, 14 R330). -/
def State.mute (s : State) (q : Req) : Bool := q.silent || s.hosts.stopped

/-- 06 P.06: the largest class 0 time inside the package, from end of flit decode to egress. -/
def State.noteLatency (s : State) (q : Req) : State :=
  if q.cls = 0 then
    s.setReg (0x5010 + q.port) 6 (max (s.reg (0x5010 + q.port) 6) (min u32max (s.aon.now - q.born)))
  else s

/-- Read data leaves at the ingress port. -/
def State.sendData (s : State) (q : Req) (data : Line) (poison : Bool) : State :=
  if s.mute q then s else (s.noteLatency q).emit (.memData q.port q.link q.tag data poison)

/-- A Cmp leaves at the ingress port. -/
def State.sendCmp (s : State) (q : Req) : State :=
  if s.mute q then s else (s.noteLatency q).emit (.cmp q.port q.link q.tag)

/-- Host requests on their way that satisfy a test: in the queues, issued, held, waiting for a fetch or a
heal, or on the links. -/
def State.outstanding (s : State) (p : Req → Bool) : List Req :=
  let l :=
    (s.dram.chans.flatMap fun e =>
      e.2.reads ++ e.2.writes ++ (e.2.issued.filter fun i => decide (i.req.op = .read)).map (·.req)) ++
    s.shadow.held ++ s.freeze.fetchWait ++ (s.sparing.heals.flatMap fun e => e.2.flatMap (·.waiting)) ++
    (s.hosts.routeHolds.flatMap (·.held)) ++
    ((s.hosts.flits.filter fun f => !f.body.isCmp).map (·.body.req))
  l.filter fun q => decide (q.src = .host) && p q

/-- The record of an unreachable line (02 Table 02.9). -/
def State.noteUnreachable (s : State) (q : Req) : State :=
  s.report (dieOfPort q.port) cUnreachable 2 0 [q.dpa, q.port, q.link]

/-- The response returns from the owning die to the ingress die (01 R14): it waits where a link on its
route carries nothing, and turns into the unreachable-line response where no route is left. -/
def State.respData (s : State) (q : Req) (data : Line) (poison : Bool) : State :=
  let a := (s.place q.dpa).die
  let b := dieOfPort q.port
  if s.mute q then s
  else if (s.route a b).isNone then (s.noteUnreachable q).sendData q 0 true
  else
    match s.waitsAt a b with
    | some k => s.waitAt k (.data q data poison)
    | none => s.sendData q data poison

/-- Respond with poison: all data bytes zero (02 R54). -/
def State.respPoison (s : State) (q : Req) : State := s.respData q 0 true

/-- The completion of a write, once (06 R146); it returns to the ingress die as data does. -/
def State.respCmp (s : State) (q : Req) : State :=
  if q.answered || s.mute q then s
  else
    match s.waitsAt (s.place q.dpa).die (dieOfPort q.port) with
    | some k => s.waitAt k (.cmp q)
    | none => s.sendCmp q

/-- Withheld writes whose flake has left DIRTY, PUMPING and PUMPING_STALE otherwise than by becoming CLEAN, a trim
or a loss, are answered (07 R180; log 139). -/
def State.settleThrough (s : State) : State :=
  let done := fun q : Req =>
    !isSnow (s.firn (flakeOf q.dpa)) &&
      !(s.shadow.notices.any fun n => decide (n.flake = flakeOf q.dpa) && !n.applied)
  (s.shadow.through.filter done).foldl (fun t q => t.respCmp q)
    { s with shadow := { s.shadow with through := s.shadow.through.filter fun q => !done q } }

/-- Number of an operation in a violation record. -/
def ReqOp.code : ReqOp → Nat
  | .read => 0
  | .write => 1
  | .partialWrite => 2
  | .clearPoison => 3
  | .injectPoison => 4

/-- The response that the ingress die gives a request that is refused: poison for a read, a Cmp for a
discarded write (02 R54); Clear and Inject Poison are answered by their mailbox. -/
def State.respRefuse (s : State) (q : Req) : State :=
  match q.op with
  | .read => s.sendData q 0 true
  | .write | .partialWrite => if q.answered then s else s.sendCmp q
  | .clearPoison | .injectPoison => s

/-- 03 R73, 02 R54: a violation: counted in the port's objects and recorded. -/
def State.countViolation (s : State) (q : Req) (ten : Nat) : State :=
  let i := ixPort q.port + 2
  let s := (((s.inc i 1).setReg i 2 q.dpa).setReg i 3 ten).setReg i 4 q.link
  s.report (dieOfPort q.port) cViolation 1 0 [q.dpa, q.port, q.link, ten, q.op.code]

/-- 02 R54: the violation response, at the ingress die. -/
def State.violate (s : State) (q : Req) (ten : Nat) : State :=
  (s.countViolation q ten).respRefuse q

/-- The violation response of a read that the inline crypto engine of the owning die refuses
(03 R72). -/
def State.violateRead (s : State) (q : Req) : State := (s.countViolation q q.ten).respPoison q

end Sys2Proof.Machine
end

