-- ==== Sys2Proof/Machine/Tenancy.lean ====
section
/-! DEFINITION. Tenancies and keys (03 R66–R81, R431): the conditions and effects of the tenancy
operations, the queue in which die 0 takes them, and the hardware steps that complete them. -/
namespace Sys2Proof.Machine

/-- 03 Table 03.9: refusal reasons. -/
def rNotFree : Nat := 1
def rOverlap : Nat := 2
def rBeyond : Nat := 3
def rBaseLimit : Nat := 4
def rKeyNotLoaded : Nat := 5
def rShare : Nat := 6
def rClass0 : Nat := 7
def rKeyInUse : Nat := 8
def rNoIde : Nat := 9
def rHalves : Nat := 10
def rRekeyRuns : Nat := 11
def rNoOverlapOld : Nat := 12
def rWrongState : Nat := 13
def rFreeOnly : Nat := 14
def rGlacier : Nat := 15

/-- The first failing condition of a list, each with its reason (03 R431). -/
def firstReason : List (Bool × Nat) → Option Nat
  | [] => none
  | (b, r) :: l => if b then some r else firstReason l

/-- A range of drifts overlaps another. -/
def overlaps (a b c d : Nat) : Bool := decide (a < d) && decide (c < b)

/-- A range overlaps a tenancy not FREE other than n. -/
def State.overlapsOther (s : State) (n base limit : Nat) : Bool :=
  s.ten.table.any fun e =>
    decide (e.1 ≠ n) && decide (e.2.st ≠ 0) && overlaps base limit e.2.base e.2.limit

/-- The tenancy is LIVE or FENCED. -/
def Tenancy.open_ (t : Tenancy) : Bool := decide (t.st = 1) || decide (t.st = 2)

/-- 08 R208: the capacity rule would hold with one more shadowed range. -/
def State.capacityWith (s : State) (base limit : Nat) : Bool :=
  s.dieList.all fun d =>
    decide (5 * (s.shadowed d + s.homeBytes d base limit) ≤ 4 * s.glacierCap d) &&
      decide ((s.die d).moraine.length < moraineTop)

/-- The ports of the package, as the field bits of T.06 and T.07 (03 R67). -/
def State.portMask (s : State) (v : Nat) : Nat := v % 4 ^ (2 * s.n)

/-- 03 R69, R431: the reason why CREATE fails. -/
def State.createReason (s : State) (n : Nat) : Option Nat :=
  let t := s.tenancy n
  firstReason
    [ (decide (t.st ≠ 0), rNotFree),
      (decide (t.limit ≤ t.base), rBaseLimit),
      (decide (s.assignable / driftBytes < t.limit), rBeyond),
      (s.overlapsOther n t.base t.limit, rOverlap),
      (decide ((s.keySlot n).st ≠ 1), rKeyNotLoaded),
      (decide (t.mode = 0) && decide (0 < t.share) && decide (s.divisible < s.shareSum + t.share),
        rShare),
      (s.hasClass0 t && s.class0Barred t.base t.limit, rClass0),
      (decide (t.mode ≤ 1) && !s.capacityWith t.base t.limit, rGlacier) ]

/-- 03 R70, R431: the reason why RESIZE fails. -/
def State.resizeReason (s : State) (n : Nat) : Option Nat :=
  let t := s.tenancy n
  firstReason
    [ (!t.open_, rWrongState),
      (t.rekeying, rRekeyRuns),
      (decide (t.newLimit ≤ t.newBase), rBaseLimit),
      (decide (s.assignable / driftBytes < t.newLimit), rBeyond),
      (!overlaps t.newBase t.newLimit t.base t.limit, rNoOverlapOld),
      (s.overlapsOther n t.newBase t.newLimit, rOverlap),
      (s.hasClass0 t && s.class0Barred t.newBase t.newLimit, rClass0) ]

/-- 03 R77, R431: the reason why REKEY fails. -/
def State.rekeyReason (s : State) (n : Nat) : Option Nat :=
  let t := s.tenancy n
  firstReason
    [ (!t.open_, rWrongState), (t.rekeying, rRekeyRuns),
      (decide ((s.keySlot (1024 + t.transit)).st ≠ 1), rKeyNotLoaded) ]

/-- All 1,024 entries are in use; all 64 transit slots sweep or seal (03 R81). -/
def State.noEntry (s : State) : Bool := (List.range 1024).all fun k => decide ((s.tenancy k).st ≠ 0)
def State.noTransit (s : State) : Bool :=
  (List.range 64).all fun t =>
    decide ((s.keySlot (1024 + t)).st = 4) || decide ((s.keySlot (1024 + t)).st = 5)

/-- Size of an object's type, for the bytes an accepted write reports. -/
def State.sizeOf (s : State) (idx sub : Nat) : Nat :=
  match objRow s.n idx sub with
  | some r => r.ty.size
  | none => 0

/-- A tenancy operation answers OK. -/
def State.opOk (s : State) (op : TenOp) : State :=
  let len := if op.data.isEmpty then s.sizeOf op.idx op.sub else op.data.length
  s.answerWrite op.caller true stOk len len

/-- Refuse an operation with a reason (03 R81). -/
def State.opRefuse (s : State) (op : TenOp) (reason : Nat) : State :=
  s.refuse op.caller op.idx op.sub reason

/-- A RESIZE in progress removes a drift of the tenancy: later accesses to it are violations, and the added
drifts are not part of the tenancy before it answers (03 R70). -/
def State.leaving (s : State) (n drift : Nat) : Bool :=
  match s.ten.filling with
  | some op =>
    decide (op.value = 2) && decide (op.idx = 0x3000 + n) &&
      (decide (drift < (s.tenancy n).newBase) || decide ((s.tenancy n).newLimit ≤ drift))
  | none => false

/-- A tenancy's state changes. -/
def State.setTenState (s : State) (n st : Nat) : State :=
  s.setTen n { s.tenancy n with st := st }

/-- Requests of a tenancy decoded before a request number, not yet complete: reads without their data, and writes that
have neither been answered nor reached the queue that withholds their answer (03 R66). -/
def State.unsettled (s : State) (n upTo : Nat) : List Req :=
  s.outstanding fun q => decide (q.ten = n) && decide (q.id < upTo) && !q.answered

/-- A change of an entry takes effect on every die at once, so that a later request is decoded under the new entry; it
returns OK when the requests decoded under the previous one are complete (03 R66; log 163). -/
def State.changeEntry (s : State) (op : TenOp) (n : Nat) (t : Tenancy) : State :=
  if (s.unsettled n s.hosts.nextReq).isEmpty then (s.setTen n t).opOk op
  else
    let x : Settle := { op := op, ten := n, was := s.tenancy n, upTo := s.hosts.nextReq }
    { s.setTen n t with ten := { (s.setTen n t).ten with settling := some x } }

/-- 07 R175: the longest wait of a write for admission, in microseconds, takes in one that ends (0x5804.02). -/
def State.noteWait (s : State) (q : Req) : State :=
  s.setReg 0x5804 2 (max (s.reg 0x5804 2) (min u32max ((s.aon.now - q.enter) / 1000)))

/-- A tenancy leaves the checkpoints that a closing epoch's seals, not yet written, list (07 R177). -/
def State.unlistCheckpoint (s : State) (n : Nat) : State :=
  { s with shadow := { s.shadow with
      ckptDone := without n s.shadow.ckptDone
      ckptSealing := without n s.shadow.ckptSealing
      dies := s.shadow.dies.map fun (e : Nat × DieShadow) =>
        (e.1, { e.2 with closing := e.2.closing.map fun c => { c with checkpoints := without n c.checkpoints } }) } }

/-- 03 R71, Table 03.6 step 1; R72 step 2; 07 R176, R177: RETIRE begins. Requests of the tenancy that
wait for a flake fetch, a heal or admission receive the violation response; writes that write-through withholds
have reached their queues and are answered (log 139). -/
def State.beginRetire (s : State) (n : Nat) (c : Caller) : State :=
  let mine := fun q : Req => decide (q.ten = n)
  let held := s.shadow.held.filter mine
  let waits := held ++ s.freeze.fetchWait.filter mine ++
    (s.sparing.heals.flatMap fun e => e.2.flatMap fun h => h.waiting.filter mine)
  let kept := s.shadow.through.filter mine
  let ids := held.map (·.id)
  let was := (s.tenancy n).st
  let s := s.setTenState n 3
  let s : State := { s with
    ten := { s.ten with retiring := s.ten.retiring ++ [{ ten := n, was := was, caller := c, answered := false }] }
    shadow := { s.shadow with
      held := s.shadow.held.filter fun q => !mine q
      staged := s.shadow.staged.filter fun i => !(ids.elem i)
      through := s.shadow.through.filter fun q => !mine q }
    freeze := { s.freeze with fetchWait := s.freeze.fetchWait.filter fun q => !mine q }
    sparing := { s.sparing with
      heals := s.sparing.heals.map fun (e : Nat × List Heal) =>
        (e.1, e.2.map fun (h : Heal) => { h with waiting := h.waiting.filter fun q => !mine q }) } }
  let s := (held.foldl (fun t q => t.noteWait q) (s.unlistCheckpoint n)).setReg (ixPer 0x5820 n) (subPer n) 0
  (kept.foldl (fun t q => t.respCmp q) (waits.foldl (fun t q => t.violate q n) s)).cdatChanged

/-- 03 Table 03.5: the commands of T.09. -/
def State.runCommand (s : State) (op : TenOp) (n : Nat) : State :=
  let t := s.tenancy n
  if op.value = 1 then
    if s.noEntry then s.exhaust op.caller
    else
      match s.createReason n with
      | some r => s.opRefuse op r
      | none => { s with ten := { s.ten with filling := some op } }
  else if op.value = 2 then
    match s.resizeReason n with
    | some r => s.opRefuse op r
    | none => { s with ten := { s.ten with filling := some op } }
  else if op.value = 3 then
    if t.st = 1 then s.changeEntry op n { t with st := 2 } else s.opRefuse op rWrongState
  else if op.value = 4 then
    if t.st = 2 then s.changeEntry op n { t with st := 1 } else s.opRefuse op rWrongState
  else if op.value = 5 then
    if t.open_ then s.beginRetire n op.caller else s.opRefuse op rWrongState
  else if s.noTransit then s.exhaust op.caller
  else
    match s.rekeyReason n with
    | some r => s.opRefuse op r
    | none =>
      let k := 1024 + t.transit
      (((s.setKey k { s.keySlot k with st := 4, ten := n }).setTen n
        { t with watermark := t.base * driftBytes })).opOk op

/-- A snow share as T.08 holds it: rounded down to a whole flake (03 Table 03.3). -/
def wholeFlakes (v : Nat) : Nat := v / flakeBytes * flakeBytes

/-- A write of T.08 may not raise S beyond B - M (07 R171). -/
def State.shareBars (s : State) (t : Tenancy) (v : Nat) : Bool :=
  t.reserves && decide (t.share < v) && decide (s.divisible < s.shareSum - t.share + v)

/-- Tenancies on which a port has rights, n left out (02 R49). -/
def State.granted (s : State) (port n : Nat) : Nat :=
  (s.ten.table.filter fun e => decide (e.1 ≠ n) && decide (e.2.rightsOf port ≠ 0)).length

/-- 02 R49: rights written to T.07 of tenancy n would give a port a 256th tenancy. -/
def State.grantBars (s : State) (n v : Nat) : Bool :=
  (List.range (2 * s.n)).any fun g =>
    decide (({ s.tenancy n with rights := v }).rightsOf g ≠ 0) && decide (255 ≤ s.granted g n)

/-- Classes written to T.06 would place class 0 where it is barred (04 R96, R111). -/
def State.classBars (s : State) (t : Tenancy) (v : Nat) : Bool :=
  t.open_ && s.hasClass0 { t with cls := v } && s.class0Barred t.base t.limit

/-- A write to a field of the tenancy table (03 R67, R69). -/
def State.runField (s : State) (op : TenOp) (n : Nat) : State :=
  let t := s.tenancy n
  let v := op.value
  if op.sub = 2 ∨ op.sub = 3 ∨ op.sub = 4 then
    if t.st ≠ 0 then s.opRefuse op rFreeOnly
    else
      (s.setTen n (if op.sub = 2 then { t with base := v } else if op.sub = 3 then { t with limit := v }
        else { t with mode := v })).opOk op
  else if op.sub = 6 then
    if t.st = 3 then s.opRefuse op rWrongState
    else if s.classBars t (s.portMask v) then s.opRefuse op rClass0
    else (s.changeEntry op n { t with cls := s.portMask v }).cdatChanged
  else if op.sub = 7 then
    if s.grantBars n (s.portMask v) then s.exhaust op.caller
    else if t.st = 3 then s.opRefuse op rWrongState
    else (s.changeEntry op n { t with rights := s.portMask v }).cdatChanged
  else if op.sub = 8 then
    if t.st = 3 then s.opRefuse op rWrongState
    else if s.shareBars t (wholeFlakes v) then s.opRefuse op rShare
    else s.changeEntry op n { t with share := wholeFlakes v }
  else if op.sub = 0x0A then (s.setTen n { t with transit := v }).opOk op
  else if op.sub = 0x0C then (s.setTen n { t with newBase := v }).opOk op
  else if op.sub = 0x0D then (s.setTen n { t with newLimit := v }).opOk op
  else s

/-- IDE is established on the caller's link (03 R77). -/
def State.ideOf (s : State) (o : Origin) : Bool :=
  match o with
  | .mailbox port link => (s.hlink port link).ideUp
  | _ => false

/-- A write of K.02 (03 R76, R77). -/
def State.runKeyLoad (s : State) (op : TenOp) (k : Nat) : State :=
  let x := s.keySlot k
  if !s.ideOf op.caller.origin then s.opRefuse op rNoIde
  else if 2 ≤ x.st then s.opRefuse op rKeyInUse
  else if op.data.take 32 = op.data.drop 32 then s.opRefuse op rHalves
  else
    (s.setKey k { x with st := 1, material := BitVec.ofNat 512 (leNat op.data),
                         gen := min u32max (x.gen + 1) }).opOk op

/-- A key slot loses its material. -/
def KeySlot.cleared (x : KeySlot) : KeySlot := { x with st := 0, material := 0, ten := 0xFFFF }

/-- A zeroise by K.04 (03 Table 03.8). -/
def State.runZeroise (s : State) (op : TenOp) (k : Nat) : State :=
  let x := s.keySlot k
  if 2 ≤ x.st then s.opRefuse op rKeyInUse else (s.setKey k x.cleared).opOk op

/-- Tenancies whose running checkpoint has no snow left: the checkpoint is complete (07 R177). -/
def State.ckptSettle (s : State) (n : Nat) : State :=
  let t := s.tenancy n
  let snow := s.shadow.firn.any fun e =>
    isSnow e.2 && decide (128 * t.base ≤ e.1) && decide (e.1 < 128 * t.limit)
  if s.reg (ixPer 0x5820 n) (subPer n) = 1 ∧ snow = false then
    { s.setReg (ixPer 0x5820 n) (subPer n) 2 with
      shadow := { s.shadow with ckptDone := addOnce n s.shadow.ckptDone } }
  else s

/-- Flakes have left the snow by a trim or a loss: running checkpoints that have none left complete, and withheld
writes to them are answered (07 R177, R180). -/
def State.snowGone (s : State) : State :=
  (s.ten.table.filter fun e => decide (e.2.mode = 1)).foldl (fun t e => t.ckptSettle e.1) s.settleThrough

/-- A checkpoint start (07 R177). -/
def State.runCheckpoint (s : State) (op : TenOp) : State :=
  let n := op.value
  let t := s.tenancy n
  if t.open_ ∧ t.mode = 1 ∧ s.reg (ixPer 0x5820 n) (subPer n) ≠ 1 then
    ((s.setReg (ixPer 0x5820 n) (subPer n) 1).opOk op).ckptSettle n
  else s.opRefuse op rWrongState

/-- Die 0 takes a tenancy operation (03 R80). -/
def State.runOp (s : State) (op : TenOp) : State :=
  if op.idx = 0x5802 then s.runCheckpoint op
  else if op.idx < 0x3400 then
    if op.sub = 9 then s.runCommand op (op.idx - 0x3000) else s.runField op (op.idx - 0x3000)
  else if op.sub = 2 then s.runKeyLoad op (op.idx - 0x3400)
  else s.runZeroise op (op.idx - 0x3400)

/-- A tenancy operation occupies the order: it waits for hardware (15 R345). -/
def State.opBusy (s : State) : Bool :=
  s.ten.filling.isSome || s.ten.settling.isSome || !s.ten.retiring.isEmpty

/-- Take the operations that wait, in arrival order, until one waits for hardware. -/
def State.takeWaiting (s : State) : Nat → State
  | 0 => s
  | k + 1 =>
    if s.opBusy then s
    else
      match s.ten.waiting with
      | [] => s
      | op :: l => ({ s with ten := { s.ten with waiting := l } }.runOp op).takeWaiting k

/-- A tenancy operation arrives (03 R80). -/
def State.submit (s : State) (op : TenOp) : State :=
  if s.opBusy || !s.ten.waiting.isEmpty then
    { s with ten := { s.ten with waiting := s.ten.waiting ++ [op] } }
  else s.runOp op

/-- Program sequences of the dies at a CREATE or RESIZE (09 R230). -/
def State.progSeqs (s : State) : Sparse Nat :=
  s.dieList.foldl (fun m d => put 0 m d (s.die d).progSeq) []

/-- ZERO_FILL_COMPLETE of a CREATE (03 Table 03.5). -/
def State.finishCreate (s : State) (op : TenOp) : State :=
  let n := op.idx - 0x3000
  let t := s.tenancy n
  let s := s.trimRange t.base t.limit none
  let s := (s.setTen n { t with st := 1, created := s.progSeqs }).setKey n { s.keySlot n with st := 2 }
  ((s.zeroRange t.base t.limit).opOk op).cdatChanged

/-- ZERO_FILL_COMPLETE of a RESIZE (03 R70): removed drifts are trimmed, added ones trimmed and zero-filled
(07 R153). -/
def State.finishResize (s : State) (op : TenOp) : State :=
  let n := op.idx - 0x3000
  let t := s.tenancy n
  let s := s.trimRange t.base (min t.limit t.newBase) (some n)
  let s := s.trimRange (max t.base t.newLimit) t.limit (some n)
  let s := s.trimRange t.newBase (min t.newLimit t.base) none
  let s := s.trimRange (max t.newBase t.limit) t.newLimit none
  let s := (s.setTen n { t with base := t.newBase, limit := t.newLimit, created := s.progSeqs }).snowGone
  let s := s.zeroRange t.newBase (min t.newLimit t.base)
  let s := s.zeroRange (max t.newBase t.limit) t.newLimit
  (s.opOk op).cdatChanged

/-- Requests to a drift that the RESIZE in progress removes, decoded before it was taken, are still on their
way; writes that wait for admission count among them (03 R66, R70; 07 R176). -/
def State.leavers (s : State) (op : TenOp) : Bool :=
  let n := op.idx - 0x3000
  !(s.outstanding fun q => decide (q.ten = n) && s.leaving n (q.dpa / driftBytes)).isEmpty

/-- The range whose zero fill runs: that of the CREATE, or the new one of the RESIZE, in progress (07 R153). -/
def State.fillRange (s : State) : Option (Nat × Nat) :=
  s.ten.filling.map fun op =>
    let t := s.tenancy (op.idx - 0x3000)
    if op.value = 1 then (t.base, t.limit) else (t.newBase, t.newLimit)

/-- A quadrant that the zero fill writes is in Idle-Deep: it leaves that first (04 R112, Table 04.5). -/
def State.fillSleeps (s : State) : Bool :=
  match s.fillRange with
  | some r => (s.chansOfRange r.1 r.2).any fun g => decide ((s.quad (g / 8) (g % 8 / 2)).st = 2)
  | none => false

/-- The zero fill of the operation in progress has ended (03 R69, R70; 07 R153). A RESIZE waits for the
accesses to the drifts it removes. -/
def State.finishFill (s : State) : State :=
  match s.ten.filling with
  | none => s
  | some op =>
    let t := s.tenancy (op.idx - 0x3000)
    let gone := (s.listedIn t.base t.limit).any fun m => decide (s.firn m = fRestoring) &&
      (decide (m < 128 * t.newBase) || decide (128 * t.newLimit ≤ m))
    if s.fillSleeps = true ∨ op.value ≠ 1 ∧ (gone = true ∨ s.leavers op = true) then s
    else
    let s := { s with ten := { s.ten with filling := none } }
    let s := if op.value = 1 then s.finishCreate op else s.finishResize op
    s.takeWaiting s.ten.waiting.length

/-- ZERO_FILL_COMPLETE. -/
def execZeroFillComplete (s : State) : Host.Outcome State Fault Refusal :=
  act (fun s => s.finishFill) s

/-- The requests that a changed entry waits for are complete: its operation answers OK (03 R66; log 163). -/
def State.endSettle (s : State) (n : Nat) : State :=
  match s.ten.settling with
  | none => s
  | some x =>
    if x.ten ≠ n ∨ (s.unsettled n x.upTo).isEmpty = false then s
    else
      let s := { s with ten := { s.ten with settling := none } }.opOk x.op
      s.takeWaiting s.ten.waiting.length

/-- 03 Table 03.6 step 3: home slot and rekeying transit slot are zeroised and the RETIRE answers. -/
def State.endDrain (s : State) (n : Nat) : State :=
  match s.ten.retiring.find? fun e => decide (e.ten = n) with
  | none => s.endSettle n
  | some e =>
    let s := match s.transitOf n with
      | some t => s.setKey t (s.keySlot t).cleared
      | none => s
    let s := s.setKey n (s.keySlot n).cleared
    let s := s.setTen n { s.tenancy n with watermark := u64max }
    let s : State := { s with ten := { s.ten with
      retiring := s.ten.retiring.filter fun x => !decide (x.ten = n) } }
    let s := if e.answered then s else s.answerWrite e.caller true stOk 1 1
    s.takeWaiting s.ten.waiting.length

/-- RETIRE_DRAIN_END: the requests in flight of a tenancy have drained, for its RETIRE or for a change of its entry. -/
def execRetireDrainEnd (n : Nat) (s : State) : Host.Outcome State Fault Refusal :=
  act (fun s => s.endDrain n) s

/-- 03 Table 03.6 step 4: every flake is TRIMMED and the entry returns to FREE. A RESTORING flake
keeps the trim waiting (07 Table 07.2). -/
def State.endTrim (s : State) (n : Nat) : State :=
  let t := s.tenancy n
  let busy := (s.listedIn t.base t.limit).any fun m => decide (s.firn m = fRestoring)
  if t.st = 3 ∧ s.hosts.stopped = false ∧ (s.ten.retiring.any fun e => decide (e.ten = n)) = false ∧ busy = false then
    let s := ((s.trimRange t.base t.limit (some n)).setTen n noTen).snowGone
    ((s.setReg (ixPer 0x5818 n) (subPer n) 0).setReg (ixPer 0x5820 n) (subPer n) 0)
  else s

/-- RETIRE_TRIM_END. -/
def execRetireTrimEnd (n : Nat) (s : State) : Host.Outcome State Fault Refusal :=
  act (fun s => s.endTrim n) s

/-- REFUSAL_ANSWER: 2 us after die 0 took it, the oldest failed operation is answered (03 R81). -/
def execRefusalAnswer (s : State) : Host.Outcome State Fault Refusal :=
  act (fun s =>
    match s.ten.refused with
    | [] => s
    | r :: l => { s with ten := { s.ten with refused := l } }.answerWrite r.caller true r.status 0 0) s

/-- Flakes that only a sweep has marked lose their page with the old key (03 R79). -/
def State.forgetSwept (s : State) (n : Nat) : State :=
  { s with shadow := { s.shadow with
      swept := s.shadow.swept.filter fun m => decide (s.tenOf (m * flakeBytes) ≠ some n) } }

/-- 03 R79, Table 03.8: an epoch seal after a completed sweep moves the key to the home slot, its
generation + 1, and clears the transit slot. -/
def State.rekeySeal (s : State) : State :=
  (s.ten.keys.filter fun e => decide (1024 ≤ e.1) && decide (e.2.st = 5)).foldl
    (fun t e =>
      let h := t.keySlot e.2.ten
      (((t.setKey e.2.ten { h with material := e.2.material, gen := min u32max (h.gen + 1) }).setKey
        e.1 e.2.cleared).setTen e.2.ten { t.tenancy e.2.ten with watermark := u64max }).forgetSwept e.2.ten) s

end Sys2Proof.Machine
end

