-- ==== Sys2Proof/Machine/Sparing.lean ====
section
/-! DEFINITION. Line decoding, the retirement of ranks, migration and rebuild, the rebuilding of sump
lines, lost ranks, and heals (04 R98–R103, 10). -/
namespace Sys2Proof.Machine

/-- 04 R99: the outcome of a read. -/
inductive ReadOut where
  | clean (c : LineCell)
  | corrected (c : LineCell) (pos : Nat)
  | poison
  | uncorrectable
  deriving DecidableEq, Repr

/-- 04 R98–R100: decode a stored line with errors at device positions. An error confined to one
device is corrected, to two detected; a pattern over three or more is open (log 8). -/
def State.decodeLine (s : State) (c : LineCell) (errs : List Nat) : ReadOut × State :=
  match errs with
  | [] => (match c with | .data l k => .clean (.data l k) | .poison => .poison, s)
  | [p] => (match c with | .data l k => .corrected (.data l k) p | .poison => .poison, s)
  | [_, _] => (.uncorrectable, s)
  | _ =>
    let w := Config.freeLine s.freeCount
    let k := match c with | .data _ k => k | .poison => none
    let v := s.draw
    (if v.1 % 4 = 0 then .uncorrectable else if v.1 % 4 = 1 then .clean (.data w k)
     else if v.1 % 4 = 2 then .corrected (.data w k) (v.1 / 4 % 10) else .poison, v.2)

/-- 10 R242: one more in the bucket of the running hour. -/
def bump : List Nat → List Nat
  | [] => [1]
  | x :: l => (x + 1) :: l

/-- 10 R242: a confirmed uncorrectable read counts against the rank. -/
def State.countUe (s : State) (r : Nat) : State :=
  let k := s.rank r
  (s.setRank r { k with ueBuckets := bump k.ueBuckets }).inc (ixRank r) 5

/-- Bytes of the per-position corrected counts of a rank (04 C+1+k.09). -/
def bumpAt (b : Bytes) (i : Nat) : Bytes :=
  let b := b ++ List.replicate (80 - b.length) 0
  b.take (4 * i) ++ leBytes 4 (min u32max (leNat ((b.drop (4 * i)).take 4) + 1)) ++ b.drop (4 * i + 4)

/-- 10 R242: a corrected line counts towards retirement, once per patrol pass while the filter holds it. -/
def State.countLine (s : State) (r off : Nat) : State :=
  let k := s.rank r
  let ln := off / 64
  if k.filter.length < 256 ∧ ln ∈ k.filter then s
  else
    s.setRank r { k with
      ceBuckets := bump k.ceBuckets,
      filter := if k.filter.length < 256 then k.filter ++ [ln] else k.filter }

/-- 04 R101, 10 R242: a corrected read counts in the rank's objects and, each line once per patrol
pass while the filter holds it, towards retirement. -/
def State.countCe (s : State) (r off pos : Nat) : State :=
  let s := s.inc (ixRank r) 4
  (s.setDom (ixRank r) 9 (bumpAt (s.dom (ixRank r) 9) (10 * (off / 64 % 2) + pos))).countLine r off

/-- 24-hour counts (10 Table 10.7). -/
def Rank.ue (k : Rank) : Nat := k.ueBuckets.sum
def Rank.ce (k : Rank) : Nat := k.ceBuckets.sum

/-- Parity errors of a rank in the current window (10 R242). -/
def State.parityNow (s : State) (r : Nat) : Nat :=
  ((s.rank r).parity.filter fun t => decide (s.aon.now - t < s.reg 0x6900 4 * 1000000)).length

/-- The rank has reached the threshold of a trigger (10 Table 10.1). -/
def State.reached (s : State) (r reason : Nat) : Bool :=
  if reason = 1 then decide (s.reg 0x6900 2 ≤ (s.rank r).ue)
  else if reason = 2 then decide (s.reg 0x6900 3 ≤ s.parityNow r)
  else if reason = 3 then decide (s.reg 0x6900 5 ≤ (s.rank r).ce)
  else decide ((s.rank r).train = 3)

/-- Change a rank's state (10 Table 10.7 .06, .07). -/
def State.setRankSt (s : State) (r st : Nat) : State :=
  (s.setRank r { s.rank r with st := st }).setReg (0x6920 + r) 7 s.aon.deviceTime

def State.setReason (s : State) (r reason : Nat) : State := s.setReg (0x6920 + r) 6 reason

def State.setRedirect (s : State) (l : Nat) (d : Option Redirect) : State :=
  { s with sparing := { s.sparing with
      redirect := match d with
        | some d => insertK s.sparing.redirect l d
        | none => eraseK s.sparing.redirect l } }

/-- 10 R245: the spare chosen for a failing rank: same channel, same quadrant, lowest number. -/
def State.pickSpare (s : State) (r : Nat) : Option Nat :=
  let f := s.freeSpares (dieOfRank r)
  match f.find? fun x => decide (x / 2 = r / 2) with
  | some x => some x
  | none =>
    match f.find? fun x => decide (x / 4 = r / 4) with
    | some x => some x
    | none => f.head?

/-- A migration runs on the die (10 R245). -/
def State.migrating (s : State) (d : Nat) : Bool :=
  s.sparing.redirect.any fun e =>
    decide (dieOfRank e.1 = d) && !e.2.complete && !e.2.rebuild && !e.2.queued

/-- Runs of consecutive numbers in a rising list: first and length. -/
def runsOf : List Nat → List (Nat × Nat)
  | [] => []
  | a :: l =>
    match runsOf l with
    | (b, k) :: r => if b = a + 1 then (a, k + 1) :: r else (a, 1) :: (b, k) :: r
    | [] => [(a, 1)]

/-- The flake has a line on a logical rank. -/
def State.touchesRank (s : State) (m r : Nat) : Bool :=
  (flakeLines m).any fun o => decide ((s.place o).rank = r)

/-- Flakes of the assignable region with a line on a logical rank. -/
def State.flakesOn (s : State) (r : Nat) : List Nat :=
  (List.range (s.assignable / flakeBytes)).filter fun m => s.touchesRank m r

/-- Degraded bytes: 16 KiB for each flake with a line on a lost rank (10 R251). -/
def State.degradedBytes (s : State) : Nat :=
  ((List.range (s.assignable / flakeBytes)).filter fun m =>
    (flakeLines m).any fun o => s.rankGone (s.place o).rank).length * flakeBytes

/-- 10 R250, R251: a logical rank is lost: its flakes become POISONED, and the loss is reported. In state 10 the map
has yet to be read, and its resolution poisons them. -/
def State.loseRank (s : State) (l src : Nat) : State :=
  let ms := s.flakesOn l
  let s := s.setRankSt src 9
  let s := s.setRedirect l (if src = l then none else
    some { carrier := src, source := l, watermark := 0, complete := true, rebuild := false,
           reason := s.reg (0x6920 + src) 6, queued := false, order := 0, early := [] })
  let s := if s.freeze.thaw = 1 then s else (ms.foldl (fun t m => t.poisonFlake m true) s).snowGone
  let s := s.setReg 0x6900 7 s.degradedBytes
  let s := s.report (dieOfRank l) cRankLost 2 0 [l]
  (runsOf ms).foldl (fun t e => t.report (dieOfRank l) cLostRange 2 0 [e.1, e.2]) s

/-- A hibernated quadrant is needed: its return begins (10 R259). -/
def State.wakeQuad (s : State) (d q : Nat) : State :=
  let x := s.quad d q
  if x.st = 3 ∧ x.returning = false ∧ s.seq.st = 12 ∧ s.freeze.active = false then
    s.setQuad d q { x with returning := true }
  else s

/-- A spare is reserved; one on a hibernated quadrant is woken (10 R245). -/
def State.takeSpare (s : State) (r : Nat) : State := (s.setRankSt r 4).wakeQuad (dieOfRank r) (quadOfRank r)

/-- The number of the next trigger in the order of R245. -/
def State.nextOrder (s : State) : Nat := (s.sparing.redirect.map fun e => e.2.order).foldl max 0 + 1

/-- Begin the copy of a logical rank from its source onto a target (10 R247, R249). -/
def State.beginCopy (s : State) (l src dst reason : Nat) (rebuild : Bool) : State :=
  let queued := !rebuild && s.migrating (dieOfRank l)
  let s := (s.takeSpare dst).setRedirect l (some
    { carrier := dst, source := src, watermark := 0, complete := false, rebuild := rebuild,
      reason := reason, queued := queued, order := s.nextOrder, early := [] })
  if queued then s
  else (s.setRankSt src (if rebuild then 7 else 6)).report (dieOfRank l) cCopyStart 1 0 [l, dst, reason]

/-- The trigger leaves the rank readable (10 Table 10.1). -/
def readable (reason : Nat) : Bool := decide (reason ≤ 3)

/-- A rank in service or carrying is triggered (10 Table 10.3). -/
def State.retireServing (s : State) (r reason : Nat) : State :=
  let l := s.logicalOf r
  let s := s.setReason r reason
  match s.redirectOf l with
  | some d =>
    if d.complete then
      match s.pickSpare r with
      | some t => s.beginCopy l r t reason (!readable reason)
      | none => (s.loseRank l r).report (dieOfRank r) cSpareExhausted 2 0 [r]
    else if readable reason then s
    else
      ((s.setRedirect l (some { d with rebuild := true, queued := false })).setRankSt r 7).report (dieOfRank l)
        cCopyStart 1 0 [l, d.carrier, reason]
  | none =>
    match s.pickSpare r with
    | some t => s.beginCopy l r t reason (!readable reason)
    | none => (s.loseRank l r).report (dieOfRank r) cSpareExhausted 2 0 [r]

/-- A receiving target is triggered: another spare is chosen and the copy restarts at offset 0, or
the source is lost (10 Table 10.3). -/
def State.retireTarget (s : State) (r reason : Nat) : State :=
  let s := (s.setRankSt r 10).setReason r reason
  match s.sparing.redirect.find? fun e => decide (e.2.carrier = r) && !e.2.complete with
  | none => s
  | some e =>
    match s.pickSpare e.2.source with
    | some t =>
      (s.takeSpare t).setRedirect e.1 (some { e.2 with carrier := t, watermark := 0, early := [] })
    | none => (s.loseRank e.1 e.2.source).report (dieOfRank r) cSpareExhausted 2 0 [e.2.source]

/-- The entry of the earliest trigger (10 R245). -/
def earliest (l : List (Nat × Redirect)) : Option (Nat × Redirect) :=
  l.foldl (fun m e =>
    match m with
    | some x => some (if e.2.order < x.2.order then e else x)
    | none => some e) none

/-- Start the migration that waits longest on a die (10 R245). -/
def State.nextMigration (s : State) (d : Nat) : State :=
  if s.migrating d then s
  else
    match earliest (s.sparing.redirect.filter fun e => decide (dieOfRank e.1 = d) && e.2.queued) with
    | some e =>
      ((s.setRedirect e.1 (some { e.2 with queued := false })).setRankSt e.2.source 6).report d
        cCopyStart 1 0 [e.1, e.2.carrier, e.2.reason]
    | none => s

/-- A migrating rank is triggered: an unreadable one is rebuilt from the watermark on (10 Table 10.3). -/
def State.retireMigrating (s : State) (r reason : Nat) : State :=
  if readable reason then s
  else
    let l := s.logicalOf r
    match s.redirectOf l with
    | some d => (s.setRedirect l (some { d with rebuild := true })).setRankSt r 7
    | none => s

/-- 10 Table 10.3: a retirement trigger meets a rank; a migration that ends or becomes a rebuild lets the next one
begin (R245). -/
def State.retireRank (s : State) (r reason : Nat) : State :=
  let st := (s.rank r).st
  if st = 1 ∨ st = 5 then (s.retireServing r reason).nextMigration (dieOfRank r)
  else if st = 6 then (s.retireMigrating r reason).nextMigration (dieOfRank r)
  else if st = 4 then (s.retireTarget r reason).nextMigration (dieOfRank r)
  else if st = 3 then
    ((s.setRankSt r 10).setReason r reason).report (dieOfRank r) cSpareFailed 1 0 [r]
  else s

/-- RANK_RETIRE_TRIGGER: a count of the rank has reached its threshold (10 R242–R245). -/
def execRankRetireTrigger (rank reason : Nat) (s : State) : Host.Outcome State Fault Refusal :=
  act (fun s => if s.reached rank reason then s.retireRank rank reason else s) s

/-- 10 R242: the oldest one-hour bucket is dropped. -/
def rollBucket (l : List Nat) : List Nat := (0 :: l).take 24

/-- RETIRE_BUCKET_ROLL: an hour has passed. -/
def execRetireBucketRoll (s : State) : Host.Outcome State Fault Refusal :=
  act (fun s =>
    s.rankList.foldl (fun t r =>
      let k := t.rank r
      if k.ueBuckets = [] ∧ k.ceBuckets = [] then t
      else t.setRank r { k with ueBuckets := rollBucket k.ueBuckets, ceBuckets := rollBucket k.ceBuckets })
      s) s

/-- 04 R103: a flake whose firn-map line was lost, by the LIVE or FENCED tenancy that covers it. -/
def State.firnLost (s : State) (m : Nat) : State :=
  if !s.mark (s.driftOf m) then s.poisonFlake m true
  else
    match s.flakeTen m with
    | none => ((s.releaseFlake m (s.tenOf (m * flakeBytes))).setFirn m fTrimmed).touchMap m
    | some n =>
      if (s.tenancy n).mode = 2 then (s.setFirn m fVolatile).touchMap m
      else if isSnow (s.firn m) then (s.setFirn m fDirty).touchMap m
      else s.makeDirty m

/-- 04 R103: a flake whose flake-map entry was lost; one that a fetch restores counts as CLEAN, as the map
records it (08 R191). -/
def State.fmapLost (s : State) (m : Nat) : State :=
  if s.firn m = fClean ∨ s.firn m = fUnrestored ∨ s.firn m = fRestoring then
    if s.mark (s.driftOf m) then s.redirty m else s.poisonFlake m true
  else s.setFmap m 0

/-- 04 R103: rebuild a sump line of a die at a die offset; a Warning record names it. -/
def State.sumpRebuild (s : State) (d off : Nat) : State :=
  let x := (off - s.assign d) / 64 * 64
  let n := s.usable d / driftBytes
  let s :=
    if x < 768 * n then
      (List.range ((x + 63) / 6 - x / 6 + 1)).foldl (fun t i => t.fmapLost (s.flakeAt d (x / 6 + i))) s
    else if x < 832 * n then
      (List.range 128).foldl (fun t i => t.firnLost (s.flakeAt d ((x - 768 * n) / 64 * 128 + i))) s
    else if x < 836 * n then
      { s with shadow := { s.shadow with
          heat := keepK (fun k => decide (dieOfDrift k ≠ d) ||
            decide (k / 8 / 16 ≠ (x - 832 * n) / 64)) s.shadow.heat } }
    else s
  s.snowGone.report d cSumpRebuilt 1 0 [d, x]

/-- The cell that a flake's page gives for a line; none when the page could not be read. -/
def State.pageLine (s : State) (m o : Nat) (read : Bool) : Option LineCell :=
  match (s.page (s.homeDie m) (s.fmapOf m)).body with
  | .data bm ls => if read then some (pageCell o s bm ls (o / 64 % 256)) else none
  | _ => none

/-- A line lost in a copy: poison, listed and recorded (10 Table 10.4, R249). -/
def State.lineLost (s : State) (o : Nat) : State :=
  (s.listPoison (s.place o).die o 1 false).report (s.place o).die cLinePoisoned 2 0 [o]

/-- What is written to a target for a line that cannot be read (10 Table 10.4, R249); `rb`: in a rebuild a POISONED
flake's line is the encoding and an UNRESTORED one is left to its fetch; `read`: the page of a CLEAN flake has been
read. A reserved code is settled (07 R152). -/
def State.lostLine (s : State) (o r off : Nat) (rb read : Bool) : State :=
  let m := flakeOf o
  if s.assignable ≤ o then (s.touchBank r off).sumpRebuild (s.dieAny o).1 (s.dieAny o).2
  else if (s.coverOf (o / driftBytes)).isNone then s.putLine o r off (.data 0 none)
  else
    let s := s.settleFirn m
    let c := s.firn m
    if c = fClean then
      match s.pageLine m o read with
      | some x => s.putLine o r off x
      | none => ((s.putLine o r off .poison).redirty m).report (s.homeDie m) cVerify 1 0 [m]
    else if c = fTrimmed then s.putLine o r off (.data 0 (s.material o))
    else if rb ∧ c = fPoisoned then s.putLine o r off .poison
    else if rb ∧ (c = fUnrestored ∨ c = fRestoring) then s
    else (s.putLine o r off .poison).lineLost o

/-- The watermark moves past a line; at the mapped capacity the copy is complete (10 Table 10.3). -/
def State.copyAdvance (s : State) (l : Nat) (d : Redirect) : State :=
  if d.watermark + 64 < s.crank then
    s.setRedirect l (some { d with
      watermark := d.watermark + 64, early := without (d.watermark / 64) d.early })
  else
    let s := s.setRedirect l (some { d with watermark := s.crank, complete := true, early := [] })
    let s := (s.setRankSt d.source 8).setRankSt d.carrier 5
    (s.report (dieOfRank l) cCopyDone 1 0 [l, d.carrier, d.reason]).nextMigration (dieOfRank l)

/-- The migration that runs on a die (10 R245). -/
def State.runningCopy (s : State) (d : Nat) : Option (Nat × Redirect) :=
  s.sparing.redirect.find? fun e =>
    decide (dieOfRank e.1 = d) && !e.2.complete && !e.2.rebuild && !e.2.queued

/-- What a migration writes for the line at its watermark, once it has been read (10 R247, R248). -/
def State.migrateFound (s : State) (d : Nat) (v : ReadOut) : State :=
  match s.runningCopy d with
  | none => s
  | some e =>
    let off := e.2.watermark
    let o := s.dpaOfRank e.1 off
    let s := match v with
      | .clean c | .corrected c _ => s.putLine o e.2.carrier off c
      | .poison => (s.inc (ixRank e.2.source) 0x0A).putLine o e.2.carrier off .poison
      | .uncorrectable => (s.countUe e.2.source).lostLine o e.2.carrier off false false
    s.copyAdvance e.1 e.2

/-- A read for a LUN suspends a running erase; at the device's limit it waits for the erase and is
counted (08 R197, R198). -/
def State.suspendErase (s : State) (d l : Nat) : State :=
  let k := s.lunOf d l
  if k.erasing.isNone ∨ k.susp ≠ 0 then s
  else if k.suspends < ((s.nandOf d (l / 32)).map (·.suspendLimit)).getD 64 then
    s.setLun d l { k with susp := 1, suspends := k.suspends + 1 }
  else s.inc (ixGlacier d) 0x0B

/-- Ask a page of a die's flash (08 R199). -/
def State.askPage (s : State) (d : Nat) (r : PRead) : State :=
  let s := s.suspendErase d (lunOfBlk (blkOfPage r.page))
  let x := s.die d
  s.setDie d { x with reads := x.reads ++ [r] }

/-- The read waits for a page of a flake that a migration has asked for (10 Table 10.4). -/
def Issued.waitsPage (i : Issued) (m : Nat) : Bool :=
  match i.req.src with
  | .migrate _ _ => !i.retry && decide (flakeOf i.req.dpa = m)
  | _ => false

/-- A migration's line for which a page has been read: the line of the page while its flake is CLEAN; a CLEAN flake
whose entry points elsewhere by now has that page read (10 Table 10.4). -/
def State.migrateLate (s : State) (i : Issued) (a : Nat) (ok : Bool) : State :=
  let d := dieOfRank i.rank
  match s.runningCopy d with
  | none => s
  | some e =>
    if e.2.source ≠ i.rank ∨ e.2.watermark ≠ i.off then s
    else
      let o := i.req.dpa
      let m := flakeOf o
      if s.firn m = fClean ∧ s.fmapOf m ≠ a then
        let c := s.chan (subOf i.rank i.off)
        (s.setChan (subOf i.rank i.off) { c with issued := i :: c.issued }).askPage (s.homeDie m)
          { page := s.fmapOf m, flake := m, purpose := 3, host := false, level := 0, res := none }
      else (s.lostLine o e.2.carrier i.off false ok).copyAdvance e.1 e.2

/-- The page that migrations have asked for has been read, or cannot be. -/
def State.migratePage (s : State) (m a : Nat) (ok : Bool) : State :=
  (s.dram.chans.map (·.1)).foldl (fun t sc =>
    let c := t.chan sc
    let t := t.setChan sc { c with issued := c.issued.filter fun i => !i.waitsPage m }
    (c.issued.filter fun i => i.waitsPage m).foldl (fun u i => u.migrateLate i a ok) t) s

/-- What a rekey sweep does with the line at its watermark, once it has been read: it is decrypted under the
home key, re-encrypted under the transit key and written back, and the watermark moves past it
(03 R77). -/
def State.sweepFound (s : State) (n : Nat) (v : ReadOut) : State :=
  match s.transitOf n with
  | none => s
  | some k =>
    let t := s.tenancy n
    let o := t.watermark
    let r := s.physOf o
    let plain := match v with
      | .clean (.data l key) | .corrected (.data l key) _ => some (s.decrypt o l key)
      | _ => none
    let s := match v with
      | .poison => if s.isLost (s.place o).rank then s else s.inc (ixRank r) 0x0A
      | .uncorrectable =>
        let s := (s.setLine o .poison).listPoison (s.place o).die o 1 false
        (s.countUe r).report (dieOfRank r) cMedia 1 0 [o]
      | _ => s
    let s := s.setTen n { t with watermark := o + 64 }
    let s := match plain with
      | some l => s.setLine o (s.sealed o l)
      | none => s
    if t.limit * driftBytes ≤ o + 64 then s.setKey k { s.keySlot k with st := 5 } else s

/-- A line of a rank that is being rebuilt, above its watermark, is rebuilt ahead of it (10 R249). -/
def State.rebuildAhead (s : State) (o : Nat) (read : Bool) : State :=
  let p := s.place o
  if s.needsRebuild p.rank p.off then
    match s.redirectOf p.rank with
    | some d =>
      (s.lostLine o d.carrier p.off true read).setRedirect p.rank (some { d with early := addOnce (p.off / 64) d.early })
    | none => s
  else s

/-- 10 R249: the lines of a flake that lie on ranks being rebuilt, above their watermarks, are rebuilt together. -/
def State.rebuildFirst (s : State) (m : Nat) (read : Bool) : State :=
  (flakeLines m).foldl (fun t o => t.rebuildAhead o read) s

/-- Heals queued on a die (10 R253). -/
def State.healsOf (s : State) (d : Nat) : List Heal := look [] s.sparing.heals d

def State.setHeals (s : State) (d : Nat) (l : List Heal) : State :=
  { s with sparing := { s.sparing with heals := put [] s.sparing.heals d l } }

/-- One line of a set of lines. -/
def lineBit (i : Nat) : BitVec 256 := BitVec.ofNat 256 (2 ^ i)

/-- Merge a line and a waiting read into a flake's queued heal. -/
def mergeHeal (m i : Nat) (w : List Req) : List Heal → Option (List Heal)
  | [] => none
  | h :: l =>
    if h.flake = m then some ({ h with lines := h.lines ||| lineBit i, waiting := h.waiting ++ w } :: l)
    else (mergeHeal m i w l).map (h :: ·)

/-- The heal of a flake goes ahead of the others (10 R254). -/
def healFirst (m : Nat) (l : List Heal) : List Heal :=
  (l.filter fun h => decide (h.flake = m)) ++ l.filter fun h => !decide (h.flake = m)

/-- The page read of a flake's heal now serves a host (10 R254). -/
def State.hastenHeal (s : State) (d m : Nat) : State :=
  let x := s.die d
  s.setDie d { x with reads := x.reads.map fun r =>
    if r.flake = m ∧ r.purpose = 1 then { r with host := true } else r }

/-- 10 R252, R253: request a heal of a line of a CLEAN flake; the read that waits for it, where heal
on read is set, goes ahead of background heals. A full queue drops the request. -/
def State.requestHeal (s : State) (o : Nat) (w : List Req) : State :=
  let m := flakeOf o
  let d := s.homeDie m
  let i := o / 64 % 256
  let s := s.settleFirn m
  if s.firn m ≠ fClean then w.foldl (fun t q => t.respPoison q) s
  else
    match mergeHeal m i w (s.healsOf d) with
    | some l => if w.isEmpty then s.setHeals d l else (s.setHeals d (healFirst m l)).hastenHeal d m
    | none =>
      if (s.healsOf d).length < 256 then
        let h : Heal := { flake := m, lines := lineBit i, page := s.fmapOf m, waiting := w }
        let s := s.setHeals d (if w.isEmpty then s.healsOf d ++ [h] else h :: s.healsOf d)
        s.askPage d { page := s.fmapOf m, flake := m, purpose := 1, host := !w.isEmpty, level := 0,
                      res := none }
      else
        let s := w.foldl (fun t q => t.respPoison q) s
        (s.inc 0x6900 0x0A).report d cHealBad 1 0 [o]

/-- Take a decoded page read off a die's list. -/
def takeRead (p : PRead → Bool) : List PRead → Option (PRead × List PRead)
  | [] => none
  | r :: l => if p r then some (r, l) else (takeRead p l).map fun x => (x.1, r :: x.2)

end Sys2Proof.Machine
end

