-- ==== Sys2Proof/Machine/Channel.lean ====
section
/-! DEFINITION. The channel controllers: how a host request enters its queue, what a command slot
issues, refresh, the outcomes of reads, patrol scrub, and Idle-Deep (04, 06, 07 R154, R173–R174,
09 R237). -/
namespace Sys2Proof.Machine

/-- Mask of the bytes that byte enables select. -/
def maskOf (be : BitVec 64) : Line :=
  (List.range 64).foldl
    (fun m i => if be.getLsbD i then m ||| BitVec.ofNat 512 (255 * 256 ^ i) else m) 0

/-- Bytes of `new` where enabled, else of `old`. -/
def mergeBytes (old new : Line) (be : BitVec 64) : Line :=
  (old &&& ~~~ (maskOf be)) ||| (new &&& maskOf be)

/-- All 64 byte enables. -/
def fullBe : BitVec 64 := BitVec.ofNat 64 (2 ^ 64 - 1)

/-- Physical rank and rank offset that a request accesses: those of its DPA through redirection; a patrol
scrub and a migration name theirs. -/
def State.physical (s : State) (q : Req) : Nat × Nat :=
  match q.src with
  | .scrub r off | .migrate r off => (r, off)
  | _ => (s.readRank (s.place q.dpa).rank (s.place q.dpa).off, (s.place q.dpa).off)

/-- Global subchannel of a request's line. -/
def State.subOfReq (s : State) (q : Req) : Nat := subOf (s.physical q).1 (s.physical q).2

/-- Rank position, bank number and row of a physical rank's offset. -/
def State.bankAt (s : State) (r off : Nat) : Nat × Nat × Nat :=
  let c := s.coord r off
  (r % 2, c.num, c.row)

/-- Rank position, bank number and row of a request. -/
def State.bankOfReq (s : State) (q : Req) : Nat × Nat × Nat := s.bankAt (s.physical q).1 (s.physical q).2

/-- 06 R133: the queue allowance of a class 1 or 2 request, ns. -/
def State.allowanceOf (s : State) (q : Req) : Nat :=
  let p := 0x5010 + q.port
  let t := s.reg p (if q.cls = 1 then 1 else 2)
  t - 52 - 20 * s.hops (dieOfPort q.port) (s.place q.dpa).die

/-- 06 Table 06.2: urgency of a queued request. -/
def State.urgency (s : State) (q : Req) : Nat :=
  if q.cls = 0 ∨ q.cls = 3 then 0
  else
    let a := s.aon.now - q.enter
    let w := s.allowanceOf q
    if w ≤ a then 7 else if 7 * w ≤ 8 * a then 6 else if 3 * w ≤ 4 * a then 4
    else if w ≤ 2 * a then 2 else 0

/-- 06 Tables 06.1 and 06.3: priority of a request in its channel queue. -/
def State.prioOf (s : State) (q : Req) : Nat :=
  match q.src with
  | .pump _ _ p => if s.freeze.active then 0 else p
  | .scrub _ _ => 10
  | .migrate _ _ | .sweep _ => 7
  | .host | .firn _ =>
    if q.cls = 0 then 2
    else if q.cls = 3 then (if q.promoted then 6 else 11)
    else if 6 ≤ s.urgency q then 3 else 6

/-- What a queued entry and a later write to its line make together (04 R90): a whole write replaces it; a
partial write merges into its data, and is discarded over a queued Inject Poison (02 R55). The entry
keeps its place and age in the queue, the better of the two classes and a promotion. -/
def mergeReq (old new : Req) : Req :=
  let q := { new with
    id := old.id, enter := old.enter, arr := old.arr, met := old.met, cls := min old.cls new.cls, promoted := old.promoted || new.promoted }
  match new.op with
  | .partialWrite =>
    match old.op with
    | .partialWrite => { q with data := mergeBytes old.data new.data new.be, be := old.be ||| new.be }
    | .injectPoison => { q with op := .injectPoison }
    | k => { q with op := k, data := mergeBytes old.data new.data new.be, be := old.be }
  | _ => q

/-- Merge a write into the queued write to its line; a locked partial write keeps its own entry. Gives the
entry merged into and the queue. -/
def mergeWrite (q : Req) : List Req → Option (Req × List Req)
  | [] => none
  | e :: l =>
    if e.dpa = q.dpa ∧ e.locked = false then some (e, mergeReq e q :: l)
    else (mergeWrite q l).map fun x => (x.1, e :: x.2)

/-- The write is held back until its flake is CLEAN (07 R180). -/
def State.withheld (s : State) (q : Req) : Bool :=
  s.writeThrough && decide ((s.tenancy q.ten).mode = 0) &&
    (match q.op with | .write | .partialWrite => true | _ => false)

/-- Send the Cmps of the writes that stand in the 64 entries of a write queue (04 R86, 06 R146). -/
def State.sendCmps (s : State) (sc : Nat) : State :=
  let c : Chan := s.chan sc
  let ready : Req → Bool := fun q => !q.answered
  let s1 : State := s.setChan sc { c with
    writes := (c.writes.take 64).map (fun (q : Req) => if ready q then ({ q with answered := true } : Req) else q) ++
      c.writes.drop 64 }
  ((c.writes.take 64).filter ready).foldl (fun (t : State) (q : Req) => State.respCmp t q) s1

/-- 06 R139: an earlier class 0 request waits at the bank. -/
def State.contended (s : State) (q : Req) : Bool :=
  let b := s.bankOfReq q
  let c := s.chan (s.subOfReq q)
  (c.reads ++ c.writes).any fun e =>
    decide (e.cls = 0) && decide ((s.bankOfReq e).1 = b.1) && decide ((s.bankOfReq e).2.1 = b.2.1)

/-- A class 0 request meets an earlier one at its bank (06 R139). -/
def State.meets (s : State) (q : Req) : Bool := decide (q.cls = 0) && s.contended q

/-- A class 0 request that meets an earlier one at its bank is counted, unless it was at a link (06 R139). -/
def State.noteContended (s : State) (q : Req) : State := if s.meets q then s.countMet q else s

/-- A request as it joins the queue of a subchannel: next in the order of arrival (04 R90). -/
def State.asArrived (s : State) (sc : Nat) (q : Req) : Req :=
  { q with arr := (s.chan sc).arrivals, met := q.met || s.meets q }

/-- A class 0 request that joins a queue during a slice is served before P1 commands and further slices
(05 R126). -/
def State.noteSlice (s : State) (sc : Nat) (q : Req) : State :=
  let c := s.chan sc
  if q.cls = 0 ∧ c.slice.isSome then s.setChan sc { c with afterSlice := addOnce q.id c.afterSlice } else s

/-- A request joins the queue of another subchannel than it waited in (10 R247, R249). -/
def State.joinQueue (s : State) (sc : Nat) (q : Req) : State :=
  let c := s.chan sc
  let w := { q with arr := c.arrivals }
  ((s.setChan sc (match q.op with
    | .read => { c with reads := c.reads ++ [w], arrivals := c.arrivals + 1 }
    | _ => { c with writes := c.writes ++ [w], arrivals := c.arrivals + 1 })).noteSlice sc w)

/-- The notices of a queue entry name the subchannel that holds it. -/
def State.moveNotices (s : State) (id sc : Nat) : State :=
  { s with shadow := { s.shadow with
      notices := s.shadow.notices.map fun (n : Notice) => if n.req = id then { n with sc := sc } else n } }

/-- Requests whose lines another rank carries by now go to its queues (10 R247, R249). -/
def State.rehome (s : State) (sc : Nat) : State :=
  let c := s.chan sc
  let away := fun q : Req => decide (s.subOfReq q ≠ sc)
  let l := (c.reads ++ c.writes).filter away
  if l.isEmpty then s
  else
    l.foldl (fun t q => (t.joinQueue (t.subOfReq q) q).moveNotices q.id (t.subOfReq q))
      (s.setChan sc { c with
        reads := c.reads.filter fun q => !away q, writes := c.writes.filter fun q => !away q })

/-- The dirty notice of a write leaves for the home die: one for every write that the channel accepts, a merged
one too, named by the queue entry it went into (07 R154). -/
def State.sendNotice (s : State) (sc id m ten : Nat) : State :=
  { s with shadow := { s.shadow with
      notices := s.shadow.notices ++ [{ req := id, sc := sc, flake := m, ten := ten, applied := false }] } }

/-- The withheld Cmp of a write-through write waits for its flake (07 R180). -/
def State.holdThrough (s : State) (q : Req) : State :=
  if s.withheld q then { s with shadow := { s.shadow with through := s.shadow.through ++ [q] } } else s

/-- A write as its queue keeps it: one that write-through withholds is not answered from there (07 R180). -/
def State.asQueued (s : State) (q : Req) : Req := { q with answered := q.answered || s.withheld q }

/-- A write enters its channel: it merges or joins the queue, and its dirty notice leaves for the
home die (04 R90, 07 R154). -/
def State.enterWrite (s : State) (q : Req) : State :=
  let sc := s.subOfReq q
  let c := s.chan sc
  let w := s.asArrived sc (s.asQueued q)
  let s := s.noteContended q
  match mergeWrite w c.writes with
  | some (e, l) =>
    let s := ((s.setChan sc { c with writes := l }).sendNotice sc e.id (flakeOf q.dpa) q.ten).holdThrough q
    let s := if e.op = .injectPoison ∧ q.op = .partialWrite then
        s.report (s.place q.dpa).die cWriteOverPoison 1 0 [q.dpa] else s
    ((s.respCmp e).noteSlice sc { q with id := e.id }).sendCmps sc
  | none =>
    ((((s.setChan sc { c with writes := c.writes ++ [w], arrivals := c.arrivals + 1 }).sendNotice sc q.id (flakeOf q.dpa) q.ten).holdThrough
      q).noteSlice sc q).sendCmps sc

/-- Data of a queued write to a line that holds all of it, newest first (04 R90). -/
def queuedLine (dpa : Nat) (l : List Req) : Option Req :=
  l.reverse.find? fun e => decide (e.dpa = dpa)

/-- A read joins its queue. -/
def State.queueRead (s : State) (sc : Nat) (q : Req) : State :=
  let w := s.asArrived sc q
  let s := s.noteContended q
  let c := s.chan sc
  (s.setChan sc { c with reads := c.reads ++ [w], arrivals := c.arrivals + 1 }).noteSlice sc q

/-- A read enters its channel: answered from a queued write to its line, or queued (04 R90). A queued Inject
Poison answers as the line will (02 Table 02.9). -/
def State.enterRead (s : State) (q : Req) : State :=
  let sc := s.subOfReq q
  match queuedLine q.dpa (s.chan sc).writes with
  | some e =>
    match e.op with
    | .write | .clearPoison =>
      if s.keyLive q.key then s.respData q e.data false else s.violateRead q
    | .injectPoison => (s.report (s.place q.dpa).die cMedia 1 0 [q.dpa]).respPoison q
    | _ => s.queueRead sc q
  | none => s.queueRead sc q

/-- A line of a lost rank has no DRAM: a read receives poison, a write is discarded after its flake has been
marked as usual (10 R250). -/
def State.enterLost (s : State) (q : Req) : State :=
  match q.op with
  | .read => (s.report (s.place q.dpa).die cMedia 1 0 [q.dpa]).respPoison q
  | k =>
    let s := (s.sendNotice (s.subOfReq q) q.id (flakeOf q.dpa) q.ten).holdThrough q
    let s := if k = .partialWrite then s.report (s.place q.dpa).die cWriteOverPoison 1 0 [q.dpa] else s
    s.respCmp (s.asQueued q)

/-- A request enters its channel queue; its age starts (06 R133). -/
def State.enterChannel (s : State) (q : Req) : State :=
  let q := { q with enter := s.aon.now }
  if s.isLost (s.place q.dpa).rank then s.enterLost q
  else
    match q.op with
    | .read => s.enterRead q
    | _ => s.enterWrite q

/-- The request may change a line's data (07 R151). -/
def ReqOp.writes : ReqOp → Bool
  | .read => false
  | _ => true

/-- Writes held in a die's admission stage (07 R174). -/
def State.stageOcc (s : State) (d : Nat) : Nat :=
  (s.shadow.held.filter fun q => decide ((s.place q.dpa).die = d) && s.shadow.staged.elem q.id).length

/-- An earlier write waits that a write of the tenancy may not pass: one of the same tenancy, or, where it would
take pool room itself, one that waits for pool room (07 R174). -/
def State.waitsBehind (s : State) (k : Nat) : Bool :=
  decide ((s.tenancy k).mode = 0) && s.shadow.held.any fun e =>
    decide (e.ten = k) || (!s.withinShare k && !s.withinShare e.ten)

/-- Writes for a die wait at their ingress dies: its stage is full or has not taken them yet (07 R174). -/
def State.ingressWaits (s : State) (d : Nat) : Bool :=
  s.shadow.held.any fun q => decide ((s.place q.dpa).die = d) && !(s.shadow.staged.elem q.id)

/-- 07 R173, R174: a write whose tenancy is held, or that would pass one that waits, and whose flake is not snow
waits for admission; it enters the stage of its owning die behind those that wait at their ingress dies. -/
def State.admitOrHold (s : State) (q : Req) : State :=
  if q.op.writes && (s.tenHeld q.ten || s.waitsBehind q.ten) && !isSnow (s.firn (flakeOf q.dpa)) then
    let d := (s.place q.dpa).die
    let s := { s with shadow := { s.shadow with
      held := s.shadow.held ++ [{ q with enter := s.aon.now }]
      staged := if s.stageOcc d < 1024 ∧ s.ingressWaits d = false then s.shadow.staged ++ [q.id]
                else s.shadow.staged } }
    s.inc 0x5804 1
  else s.enterChannel q

/-- A flake's quadrants hold a line of it on a powered quadrant (10 R258). -/
def State.flakeAwake (s : State) (m : Nat) : Bool :=
  (flakeLines m).all fun o =>
    let p := s.place o
    let r := s.readRank p.rank p.off
    decide ((s.quad (dieOfRank r) (quadOfRank r)).st ≠ 3)

/-- 09 R233: the fetch of an UNRESTORED flake begins. -/
def State.beginFetch (s : State) (m : Nat) (host : Bool) : State :=
  let d := s.homeDie m
  let s := (s.setFirn m fRestoring).askPage d
    { page := s.fmapOf m, flake := m, purpose := 0, host := host, level := 0, res := none }
  if host then s.inc (0x6810 + d) 4 else s

/-- Wait for the fetch or the fill of the flake (09 R237). -/
def State.waitFetch (s : State) (q : Req) : State :=
  { s with freeze := { s.freeze with fetchWait := s.freeze.fetchWait ++ [q] } }

/-- 09 R237: a request to a drift whose thaw mark is clear, by the flake's firn state; a write waits for the fill of a
flake that has not been filled yet. A reserved code is settled (07 R152). -/
def State.thawAccess (s : State) (q : Req) : State :=
  let m := flakeOf q.dpa
  let s := s.settleFirn m
  let c := s.firn m
  if c = fUnrestored then
    let s := s.waitFetch q
    if s.flakeAwake m then s.beginFetch m true else s
  else if c = fRestoring then s.waitFetch q
  else if c = fTrimmed then
    if q.op.writes then (if s.freeze.filled.elem m then s.admitOrHold q else s.waitFetch q) else s.respData q 0 false
  else if c = fPoisoned then
    if q.op.writes then (if s.freeze.filled.elem m then s.admitOrHold q else s.waitFetch q)
    else (s.report (s.place q.dpa).die cMedia 1 0 [q.dpa]).respPoison q
  else s.admitOrHold q

/-- 09 R237, 10 R258: a request reaches the owning and home dies. One to a line that is to be rebuilt waits in its
queue until it has been (10 R249). -/
def State.accessFlake (s : State) (q : Req) : State :=
  let m := flakeOf q.dpa
  let s := s.heatAccess m
  if !s.mark (s.driftOf m) then s.thawAccess q
  else s.admitOrHold q

/-- Another quadrant than the one of a key has the thaw mark of a home drift cleared (10 R257). -/
def State.unmarkedBy (s : State) (key j : Nat) : Bool :=
  s.dram.quads.any fun e => decide (e.1 ≠ key) && e.2.unmarked.elem j

/-- 10 R257: a hibernation entry before step 3 is cancelled: its flakes return to CLEAN and the
thaw marks of their drifts are set again. -/
def State.cancelHib (s : State) (d k : Nat) : State :=
  let x := s.quad d k
  if !x.hibEntry then s
  else
    let here := fun m : Nat => (flakeLines m).any fun o =>
      let p := s.place o
      let r := s.readRank p.rank p.off
      decide (dieOfRank r = d) && decide (quadOfRank r = k)
    let ms := (s.shadow.firn.map (·.1)).filter fun m =>
      decide (s.firn m = fUnrestored) && here m && !s.unmarkedBy (4 * d + k) (s.driftOf m)
    let js := x.unmarked.filter fun j => !s.unmarkedBy (4 * d + k) j
    let s := s.setQuad d k { x with hibEntry := false, unmarked := [] }
    let s := ms.foldl (fun t m => t.setFirn m fClean) s
    js.foldl (fun t j => t.setMark j true) s

/-- Cancel an entry into hibernation of the quadrant that holds a line. -/
def State.wakeLine (s : State) (o : Nat) : State :=
  let p := s.place o
  let r := s.readRank p.rank p.off
  s.cancelHib (dieOfRank r) (quadOfRank r)

/-- 02 R52, R53: the link has no established stream, and one is required by the port's object, or by a failed
integrity check that no new key exchange has followed (DEDUCED, log 144). -/
def State.ideLacking (s : State) (port link : Nat) : Bool :=
  !(s.hlink port link).ideUp && (decide (s.reg (ixPort port) 4 = 1) || (s.hlink port link).rekeyDue)

/-- 03 R73: the access checks in order; none when all pass, else the tenancy of the record. -/
def State.checkAccess (s : State) (port link dpa : Nat) (wr : Bool) : Option Nat :=
  if s.assignable ≤ dpa then some 0xFFFF
  else
    match s.coverOf (dpa / driftBytes) with
    | none => some 0xFFFF
    | some n =>
      let t := s.tenancy n
      let r := t.rightsOf port
      if t.st ≠ 1 then some n
      else if s.leaving n (dpa / driftBytes) then some 0xFFFF
      else if r = 0 ∨ (wr = true ∧ r ≠ 2) then some n
      else if s.ideLacking port link then some n
      else none

/-- The owning die can be reached over links that are up (01 R18, R27). -/
def State.reachable (s : State) (a b : Nat) : Bool := (s.route a b).isSome && !s.dieOut b

/-- 02 Table 02.9: the unreachable-line response. -/
def State.unreachable (s : State) (q : Req) : State :=
  let s := if q.op.writes then s.listPoison (s.place q.dpa).die q.dpa 1 false else s
  (s.noteUnreachable q).respRefuse q

/-- 06 R137, R138: the class after the meter. -/
def State.meter (s : State) (q : Req) : Req × State :=
  if q.cls ≠ 0 then (q, s)
  else
    let l := s.hlink q.port q.link
    let p := 0x5010 + q.port
    if 0 < l.tokens then
      (q, (s.setLink q.port q.link { l with tokens := l.tokens - 1 }).addReg p 3 1 u64max)
    else ({ q with cls := 1 }, s.inc p 4)

/-- A request's route is being changed: it is held at its ingress die (01 R18). -/
def addHold (a b : Nat) (q : Req) : List RouteHold → Option (List RouteHold)
  | [] => none
  | h :: l =>
    if h.ingress = a ∧ h.owner = b then some ({ h with held := h.held ++ [q] } :: l)
    else (addHold a b q l).map (h :: ·)

/-- A request crosses to its owning die (01 R14, 06 R141): it waits where a link on its route carries
nothing, and is refused where no route is left. -/
def State.carry (s : State) (q : Req) : State :=
  let a := dieOfPort q.port
  let b := (s.place q.dpa).die
  if !s.reachable a b then s.unreachable q
  else
    match s.waitsAt a b with
    | some k => s.waitAt k (.request q)
    | none => (s.wakeLine q.dpa).accessFlake q

/-- A flit that waited goes on. -/
def State.resume (s : State) (f : Flit) : State :=
  match f.body with
  | .request q => s.carry q
  | .data q l p => s.respData q l p
  | .cmp q => s.respCmp { q with answered := false }

/-- The flits that wait at a link, in the order they are sent: by priority, oldest first within one
(06 R141). -/
def sendOrder (key : Nat) (l : List Flit) : List Flit :=
  let here := l.filter fun f => decide (f.key = key)
  [2, 6, 11].flatMap fun p => here.filter fun f => decide (f.prio = p)

/-- A link carries traffic again: what waits at it is sent. -/
def State.sendFlits (s : State) (key : Nat) : State :=
  let l := sendOrder key s.hosts.flits
  l.foldl (fun t f => t.resume f)
    { s with hosts := { s.hosts with flits := s.hosts.flits.filter fun f => !decide (f.key = key) } }

/-- Forward a decoded request to its owning die (01 R13, R18). -/
def State.forward (s : State) (q : Req) : State :=
  let a := dieOfPort q.port
  let b := (s.place q.dpa).die
  match addHold a b q s.hosts.routeHolds with
  | some l => { s with hosts := { s.hosts with routeHolds := l } }
  | none => s.carry q

/-- A request as decoded at its ingress die (03 R72, R73; 06 R132). -/
def State.makeReq (s : State) (port link tag dpa : Nat) (op : ReqOp) (data : Line) (be : BitVec 64) :
    Req :=
  let n := (s.coverOf (dpa / driftBytes)).getD 0xFFFF
  { src := .host, id := s.hosts.nextReq, port := port, link := link, tag := tag, op := op, dpa := dpa, data := data,
    be := be, cls := (s.tenancy n).classOf port, ten := n, key := s.keyFor n dpa, born := s.aon.now, enter := s.aon.now, arr := 0, met := false,
    promoted := false, silent := false, answered := false, confirmed := false, locked := false }

/-- CXL.mem write-data credits of a port (07 R174). -/
def portCredits : Nat := 512

/-- Write-data credits of a port that are out: its writes that wait on links, for a fetch or for admission
(07 R174; log 138). -/
def State.creditsOut (s : State) (g : Nat) : Nat :=
  ((s.shadow.held ++ s.freeze.fetchWait ++ s.hosts.routeHolds.flatMap (·.held) ++
    ((s.hosts.flits.filter fun f => match f.body with | .request _ => true | _ => false).map (·.body.req))).filter
      fun q => decide (q.port = g) && q.op.writes && !q.silent).length

/-- The port has a credit for a write; reads need none. -/
def State.hasCredit (s : State) (g : Nat) (op : ReqOp) : Bool := !op.writes || decide (s.creditsOut g < portCredits)

/-- Part of a decoder's device range: its size over its ways. -/
def HLink.hdmPart (k : HLink) (dec : Nat) : Nat := k.hdmField dec 1 / k.hdmField dec 2

/-- The DPA that decoder `dec` gives a host physical address: blocks of the granularity dealt over the ways, laid
one after another behind the parts of the decoders below it (02 R37; CXL's own decoding, log 145). -/
def HLink.hdmMap (k : HLink) (hpa dec : Nat) : Option Nat :=
  let base := k.hdmField dec 0
  if base ≤ hpa ∧ hpa < base + k.hdmField dec 1 then
    let g := k.hdmField dec 3
    let x := hpa - base
    some (((List.range dec).map k.hdmPart).sum + x / (g * k.hdmField dec 2) * g + x % g)
  else none

/-- 02 R37: the link's HDM decoders translate a host physical address into a DPA; a link whose decoders all have
size 0 passes addresses on as they are (log 145). -/
def HLink.toDpa (k : HLink) (hpa : Nat) : Option Nat :=
  if (List.range 4).all fun d => decide (k.hdmField d 1 = 0) then some hpa
  else (List.range 4).findSome? (k.hdmMap hpa)

/-- 03 R73: a CXL.mem request on a link: its address translated (one that no decoder maps is in no tenancy,
log 145); accepted only while the link is up and the port takes requests and has
a credit; answered media-not-ready before the thaw reports ready; checked; metered; forwarded. -/
def State.hostRequest (s : State) (port link tag hpa : Nat) (op : ReqOp) (data : Line)
    (be : BitVec 64) : State :=
  let at_ := (s.hlink port link).toDpa hpa
  let dpa := at_.getD hpa
  let q := s.makeReq port link tag dpa op data be
  if s.hosts.stopped ∨ (s.hlink port link).st ≠ 2 ∨ s.portDraining port = true ∨
      s.portStopped port = true ∨ s.hasCredit port op = false then s
  else if !s.mediaReady then
    (s.report (dieOfPort port) cMediaNotReady 1 0 [dpa, port, link]).respRefuse q
  else
    match if at_.isSome then s.checkAccess port link dpa op.writes else some 0xFFFF with
    | some n => s.violate q n
    | none =>
      let s := { s with hosts := { s.hosts with nextReq := s.hosts.nextReq + 1 } }
      let p := s.meter q
      State.forward p.2 p.1

/-- CXL_MEM_READ of a host physical address (02 R37). -/
def execCxlMemRead (port link tag hpa : Nat) (s : State) : Host.Outcome State Fault Refusal :=
  act (fun s => s.hostRequest port link tag hpa .read 0 fullBe) s

/-- CXL_MEM_WRITE. -/
def execCxlMemWrite (port link tag hpa : Nat) (data : Line) (s : State) :
    Host.Outcome State Fault Refusal :=
  act (fun s => s.hostRequest port link tag hpa .write data fullBe) s

/-- CXL_MEM_PARTIAL_WRITE: with all byte enables set it is a full write (04 R104). -/
def execCxlMemPartialWrite (port link tag hpa : Nat) (data : Line) (be : BitVec 64) (s : State) :
    Host.Outcome State Fault Refusal :=
  act (fun s => s.hostRequest port link tag hpa (if be = fullBe then .write else .partialWrite) data be) s

/-- CLASS0_TOKEN_REFILL: a token arrives at the link's meter (06 R137). Tokens above a depth that has been lowered stay
until the next one arrives, which R137 leaves open (DESIGN CHOICE, log 164). -/
def execClass0TokenRefill (port link : Nat) (s : State) : Host.Outcome State Fault Refusal :=
  act (fun s =>
    let l := s.hlink port link
    if l.st = 2 then s.setLink port link { l with tokens := min (s.reg 0x5000 1) (l.tokens + 1) } else s) s

/-- CLASS3_PROMOTION: a class 3 request has reached the promotion age 0x5000.02 in its queue (06 R136). -/
def execClass3Promotion (sc id : Nat) (s : State) : Host.Outcome State Fault Refusal :=
  act (fun s =>
    let c := s.chan sc
    let hit := fun q : Req =>
      decide (q.id = id) && decide (q.src = .host) && decide (q.cls = 3) && !q.promoted &&
        decide (s.reg 0x5000 2 * 1000 ≤ s.aon.now - q.enter)
    match (c.reads ++ c.writes).find? hit with
    | none => s
    | some q =>
      let up := fun e : Req => if hit e then { e with promoted := true } else e
      (s.setChan sc { c with reads := c.reads.map up, writes := c.writes.map up }).inc
        (0x5010 + q.port) 7) s

/-- Bank b of every group of one chip ID (04 R92). -/
def sameBankOf (chip b : Nat) : List Nat := (List.range 8).map fun g => (chip * 8 + g) * 4 + b

/-- Banks of a rank that a refresh blocks: bank b of every group of one chip ID, or the whole rank
in all-bank mode (04 R92, R96). -/
def State.refBanks (s : State) (r chip b : Nat) : List Nat :=
  if s.reg (ixChan (r / 2)) 5 = 1 then List.range (32 * 2 ^ stackBits (s.rank r).stack)
  else sameBankOf chip b

/-- Banks that same-bank refresh management of a bank blocks (04 R95). -/
def rfmBanks (b : Nat) : List Nat := sameBankOf (b / 32) (b % 4)

/-- The banks that a refresh of a bank blocks, by rank position and bank number. -/
def State.sameBanks (s : State) (sc k b : Nat) : List Nat :=
  s.refBanks (sc / 2 * 2 + k) (b / 32) (b % 4)

/-- Requests queued on a subchannel for a bank of a rank position. -/
def State.waitingOn (s : State) (sc k b : Nat) : List Req :=
  let c := s.chan sc
  (c.reads ++ c.writes).filter fun q =>
    decide ((s.bankOfReq q).1 = k) && decide ((s.bankOfReq q).2.1 = b)

/-- Class 0 requests that wait for a bank, by number. -/
def State.class0On (s : State) (sc k b : Nat) : List Nat :=
  ((s.waitingOn sc k b).filter fun q => decide (q.cls = 0)).map (·.id)

/-- Change every bank of a list. -/
def State.mapBanks (s : State) (sc k : Nat) (bs : List Nat) (f : Nat → Bank → Bank) : State :=
  bs.foldl (fun t b => t.setBank sc k b (f b (t.bank sc k b))) s

/-- A refresh or refresh management starts, at P1 or not: it blocks its banks and precharges them
(04 R92). -/
def State.startRefresh (s : State) (sc k : Nat) (bs : List Nat) (p1 : Bool) : State :=
  s.mapBanks sc k bs fun _ b =>
    { b with refreshing := true, p1 := p1, whole := decide (8 < bs.length), urgent := false, rfm := false, yields := [], openRow := none,
             streak := 0 }

/-- Some request of a list of numbers is still queued. -/
def Chan.holds (c : Chan) (l : List Nat) : Bool :=
  l.any fun k => (c.reads ++ c.writes).any fun q => decide (q.id = k)

/-- The second read of an uncorrectable line is due on the bank: it is the next command there
(04 R102). -/
def State.retryOn (s : State) (sc k b : Nat) : Bool :=
  (s.chan sc).issued.any fun i =>
    i.retry && decide ((s.bankAt i.rank i.off).1 = k) && decide ((s.bankAt i.rank i.off).2.1 = b)

/-- A P1 command to banks is barred: by class 0 requests that waited on them when it became issuable
(06 R142), or that a completed P1 command left (04 R94), or that arrived during a slice (05 R126), by a
second read, or by a refresh that runs. -/
def State.p1Barred (s : State) (sc k : Nat) (bs : List Nat) : Bool :=
  let c := s.chan sc
  c.holds c.afterSlice ||
    bs.any fun b =>
      let x := s.bank sc k b
      x.refreshing || c.holds x.yields || c.holds x.waiting || s.retryOn sc k b

/-- The quadrant of a subchannel takes commands: Run or Idle (12 Table 12.3), its PLL and the
core PLL in lock (14 R326). -/
def State.quadRuns (s : State) (sc : Nat) : Bool :=
  decide ((s.quad (dieOfSub sc) (quadOfSub sc)).st ≤ 1) &&
    !(s.clk (dieOfSub sc)).unlocked.elem (6 + quadOfSub sc) && !(s.clk (dieOfSub sc)).unlocked.elem 1

/-- A command leaves Idle (12 Table 12.3). -/
def State.leaveIdle (s : State) (sc : Nat) : State :=
  let x := s.quad (dieOfSub sc) (quadOfSub sc)
  if x.st = 1 then s.setQuad (dieOfSub sc) (quadOfSub sc) { x with st := 0 } else s

/-- Banks hold no queued request, and no refresh runs on them (04 R93). -/
def State.banksIdle (s : State) (sc k : Nat) (bs : List Nat) : Bool :=
  bs.all fun b => (s.waitingOn sc k b).isEmpty && !(s.bank sc k b).refreshing && !s.retryOn sc k b

/-- A P1 refresh, or RFM, becomes due on banks: it yields to at most eight class 0 requests that wait on
each (06 R142), and is issued at once where nothing bars it. -/
def State.dueAtP1 (s : State) (sc k : Nat) (bs : List Nat) (rfm : Bool) : State :=
  let t := s.mapBanks sc k bs fun b x =>
    { x with urgent := x.urgent || !rfm, rfm := x.rfm || rfm
             yields := if x.urgent || x.rfm then x.yields else (s.class0On sc k b).take 8 }
  if (s.chan sc).slice.isSome || t.p1Barred sc k bs then t else t.startRefresh sc k bs true

/-- 04 R93: a refresh falls due: issued when its banks are idle, else postponed, and at the limit due at
P1. A slice that runs has it postponed as a queued request does. -/
def State.refreshDue (s : State) (sc r chip b : Nat) : State :=
  let k := r % 2
  let bs := s.refBanks r chip b
  if !s.quadRuns sc || decide (s.capOf r = 0) || (s.rank r).selfRefresh then s
  else if s.banksIdle sc k bs && (s.chan sc).slice.isNone then
    (s.leaveIdle sc).startRefresh sc k bs false
  else if (s.bank sc k (bs.headD 0)).postponed < s.reg (ixChan (sc / 2)) 6 then
    s.mapBanks sc k bs fun _ x => { x with postponed := x.postponed + 1 }
  else s.dueAtP1 sc k bs false

/-- REFRESH_DUE. -/
def execRefreshDue (sc rank chip bank : Nat) (s : State) : Host.Outcome State Fault Refusal :=
  act (fun s => s.refreshDue sc rank chip bank) s

/-- The banks that the refresh which runs on a bank blocks: the whole rank where it was issued as an all-bank
one (04 R92, R96). -/
def State.runningBanks (s : State) (sc r chip b : Nat) : List Nat :=
  if (s.bank sc (r % 2) (chip * 32 + b)).whole then List.range (32 * 2 ^ stackBits (s.rank r).stack)
  else sameBankOf chip b

/-- REFRESH_COMPLETE: the banks are free; the class 0 requests that wait for each have waited behind one command
and are served before a P1 command to it (04 R94). A refresh or RFM takes RAAIMT off the rolling
activation counts (R95). -/
def execRefreshComplete (sc rank chip bank : Nat) (s : State) : Host.Outcome State Fault Refusal :=
  act (fun s =>
    let k := rank % 2
    let bs := s.runningBanks sc rank chip bank
    let off := ((s.rfmOf rank).map (·.1)).getD 0
    s.mapBanks sc k (bs.filter fun b => (s.bank sc k b).refreshing) fun b x =>
      { x with
        refreshing := false, p1 := false, whole := false, raa := x.raa - off
        waiting := s.class0On sc k b }) s

/-- RFM_COUNT_MAX: the rolling activation count of a bank whose devices require refresh management has
reached its maximum, and RFM is due at P1 (04 R95). -/
def execRfmCountMax (sc rank bank : Nat) (s : State) : Host.Outcome State Fault Refusal :=
  act (fun s =>
    match s.rfmOf (sc / 2 * 2 + rank) with
    | some (_, top) =>
      if s.quadRuns sc = true ∧ top ≤ (s.bank sc rank bank).raa then s.dueAtP1 sc rank (rfmBanks bank) true
      else s
    | none => s) s

/-- PAGE_IDLE_TIMEOUT: the bank's idle timer has run out; its row is precharged (04 R88). -/
def execPageIdleTimeout (sc rank bank : Nat) (s : State) : Host.Outcome State Fault Refusal :=
  act (fun s =>
    let b := s.bank sc rank bank
    if b.openRow.isSome then s.setBank sc rank bank { b with openRow := none, streak := 0 } else s) s

/-- An entry that arrived earlier holds the line of a request (04 R90). -/
def lineHeld (c : Chan) (q : Req) : Bool :=
  (c.writes.any fun e => decide (e.dpa = q.dpa) && decide (e.arr < q.arr)) ||
    (c.reads.any fun e => decide (e.dpa = q.dpa) && decide (e.arr < q.arr)) ||
    (c.issued.any fun e => decide (e.req.dpa = q.dpa) && decide (e.req.id ≠ q.id))

/-- The access is to a physical rank that it names, or a pump's, which reads a lost line as poison. -/
def Src.namesRank : Src → Bool
  | .scrub _ _ | .migrate _ _ | .pump _ _ _ => true
  | _ => false

/-- The line of a request has yet to be rebuilt: the request waits for that (10 R249). -/
def State.waitsRebuild (s : State) (q : Req) : Bool :=
  !q.src.namesRank && s.needsRebuild (s.place q.dpa).rank (s.place q.dpa).off

/-- The bank of a request takes a command: no refresh runs there, no second read is due, and the line is not to be
rebuilt first. -/
def State.bankReady (s : State) (sc : Nat) (q : Req) : Bool :=
  let b := s.bankOfReq q
  !(s.bank sc b.1 b.2.1).refreshing && !s.retryOn sc b.1 b.2.1 && !s.waitsRebuild q

/-- A read may be issued: its bank is ready and no earlier request holds its line. -/
def State.readReady (s : State) (sc : Nat) (q : Req) : Bool :=
  s.bankReady sc q && !lineHeld (s.chan sc) q

/-- A write may be issued: its dirty notice is confirmed, its bank ready, and it holds no lock already
(07 R154). -/
def State.writeReady (s : State) (sc : Nat) (q : Req) : Bool :=
  q.confirmed && !q.locked && s.bankReady sc q && !lineHeld (s.chan sc) q

/-- 04 R89: whether a batch of writes runs at this slot, and whether the queue has held more than 16 entries
since it began. A batch stops when the queue falls to 16; one whose queue never held more stops when it is empty,
and so does every batch while a Global Persistent Flush drains the queues (02 R44). -/
def State.batchNow (s : State) (c : Chan) : Bool × Bool :=
  let n := min 64 c.writes.length
  let deep := (c.batch && c.deep) || decide (16 < n)
  let flush := !s.hosts.gpf.isEmpty
  let go :=
    if c.batch then decide ((if deep && !flush then 16 else 0) < n)
    else
      decide (48 ≤ n) ||
        (match c.writes with
         | [] => false
         | w :: _ => flush || (c.reads.take 64).all fun q => decide (s.prioOf q ≠ s.prioOf w))
  (go, deep)

/-- The row of a request is open in its bank. -/
def State.rowHit (s : State) (sc : Nat) (q : Req) : Bool :=
  let b := s.bankOfReq q
  decide ((s.bank sc b.1 b.2.1).openRow = some b.2.2)

/-- Candidates for another row of a request's bank. -/
def State.otherRow (s : State) (q : Req) (cands : List Req) : List Req :=
  let b := s.bankOfReq q
  cands.filter fun e =>
    let x := s.bankOfReq e
    decide (x.1 = b.1) && decide (x.2.1 = b.2.1) && decide (x.2.2 ≠ b.2.2)

/-- The bank's run of row hits must stop for another row's request (04 R87, 06 R135); among class 0 it
stops for an earlier one, which goes first (06 R139). -/
def State.streakOver (s : State) (sc : Nat) (q : Req) (cands : List Req) : Bool :=
  let b := s.bankOfReq q
  let others := s.otherRow q cands
  let run := (s.bank sc b.1 b.2.1).streak
  (decide (s.reg (ixChan (sc / 2)) 4 ≤ run) && !others.isEmpty) ||
    (decide (0 < run) && others.any fun e => decide (s.prioOf e = 6) && decide (4 ≤ s.urgency e)) ||
    (others.any fun e => decide (s.prioOf e = 2) && decide (e.arr < q.arr))

/-- Candidates at the highest priority present, urgency 7 before 6 (04 R87, 06 R135). -/
def State.topCands (s : State) (l : List Req) : List Req :=
  let p := (l.map s.prioOf).foldl min 99
  let l1 := l.filter fun q => decide (s.prioOf q = p)
  let l7 := l1.filter fun q => decide (s.prioOf q = 3) && decide (s.urgency q = 7)
  if l7.isEmpty then l1 else l7

/-- An engaged throttle lets a column command of a priority go: of P3–P11 at most every other slot's (20 R424; which
of them is a DESIGN CHOICE, log 29). -/
def State.mayColumn (s : State) (sc prio : Nat) : Bool :=
  decide (prio ≤ 2) || !s.throttled (dieOfSub sc) || !(s.chan sc).columnLast

/-- An engaged throttle lets an activate of a priority go: of P3–P11 one per 64 QCLK cycles, four transfers long
each (04 R83, 20 R424). -/
def State.mayActivate (s : State) (sc prio : Nat) : Bool :=
  decide (prio ≤ 2) || !s.throttled (dieOfSub sc) ||
    (match (s.chan sc).actAt with
     | none => true
     | some t => decide (256000 ≤ (s.aon.now - t) * (s.quad (dieOfSub sc) (quadOfSub sc)).rate))

/-- What a command slot issues: the request of a column command to an open row, or of an activate: the
oldest whose row is not open (04 R87), as far as the throttle lets them go (06 R143). -/
def State.choose (s : State) (sc : Nat) (l : List Req) : Option (Bool × Req) :=
  let c := s.topCands l
  match c.find? fun q => s.rowHit sc q && !s.streakOver sc q c && s.mayColumn sc (s.prioOf q) with
  | some q => some (true, q)
  | none => (c.find? fun q => !s.rowHit sc q && s.mayActivate sc (s.prioOf q)).map fun q => (false, q)

/-- A column command for a request (04 R88). -/
def State.columnTo (s : State) (sc : Nat) (q : Req) : State :=
  s.columnAt sc (s.bankOfReq q).1 (s.bankOfReq q).2.1

/-- An activate for a request (04 R87). -/
def State.activate (s : State) (sc : Nat) (q : Req) : State :=
  let b := s.bankOfReq q
  s.activateAt sc b.1 b.2.1 b.2.2 (decide (3 ≤ s.prioOf q))

/-- Served requests leave the lists that bar P1 commands. -/
def State.servedClass0 (s : State) (sc : Nat) (q : Req) : State :=
  let b := s.bankOfReq q
  let x := s.bank sc b.1 b.2.1
  let s := s.setBank sc b.1 b.2.1 { x with
    waiting := without q.id x.waiting, yields := without q.id x.yields }
  let c := s.chan sc
  s.setChan sc { c with afterSlice := without q.id c.afterSlice }

/-- 04 R105: a line that held the poison encoding is written whole. -/
def State.unpoison (s : State) (o : Nat) (was : LineCell) : State :=
  match was with
  | .poison => (s.dropPoison (o / 64)).report (s.place o).die cPoisonRemoved 0 0 [o]
  | .data _ _ => s.dropPoison (o / 64)

/-- A write's data reaches DRAM: encrypted under the key in force, or discarded where its key
generation was withdrawn (03 R72, R74; 04 R100, R105), or where its rank has been lost meanwhile (10 R250). -/
def State.burst (s : State) (q : Req) : State :=
  if !s.keyLive q.key then s.countViolation q q.ten
  else if s.isLost (s.place q.dpa).rank then s
  else
    let was := s.cell q.dpa
    match q.op with
    | .injectPoison =>
      (s.setCell q.dpa .poison).listPoison (s.place q.dpa).die q.dpa 1 true
    | _ => (s.setCell q.dpa (s.sealed q.dpa q.data)).unpoison q.dpa was

/-- A read or the read of a partial write is issued (04 R99, R104). -/
def State.issueRead (s : State) (sc : Nat) (q : Req) : State :=
  let p := s.physical q
  let c := s.chan sc
  s.setChan sc { c with
    issued := c.issued ++ [{ req := q, rank := p.1, off := p.2, retry := false }] }

/-- A pump's read is done with its burst: PUMP_READ_DONE takes the lines together (07 R160). -/
def Src.isPump : Src → Bool
  | .pump _ _ _ => true
  | _ => false

/-- Issue a request's column command. -/
def State.issueColumn (s : State) (sc : Nat) (q : Req) : State :=
  let s := s.columnTo sc q
  match q.op with
  | .read =>
    let c := s.chan sc
    let s := (s.setChan sc { c with
      reads := c.reads.filter fun e => !decide (e.id = q.id) }).servedClass0 sc q
    if q.src.isPump then s else s.issueRead sc q
  | .partialWrite =>
    let c := s.chan sc
    let q' := { q with locked := true }
    (s.setChan sc { c with
      writes := c.writes.map fun e => if e.id = q.id then q' else e }).issueRead sc q'
  | _ =>
    let c := s.chan sc
    (((s.setChan sc { c with writes := c.writes.filter fun e => !decide (e.id = q.id) }).burst
      q).servedClass0 sc q).sendCmps sc

/-- Rank position and bank number of a bank's key (`bankKey`). -/
def posOfKey (k : Nat) : Nat := k / 256 % 2
def numOfKey (k : Nat) : Nat := k % 256

/-- The banks of a P1 command that is due and not barred: refresh before RFM (04 R93–R95). -/
def State.urgentBank (s : State) (sc : Nat) : Option (Nat × List Nat) :=
  let own := s.dram.banks.filter fun e => decide (e.1 / 512 = sc)
  match own.find? fun e =>
      e.2.urgent && !s.p1Barred sc (posOfKey e.1) (s.sameBanks sc (posOfKey e.1) (numOfKey e.1)) with
  | some e => some (posOfKey e.1, s.sameBanks sc (posOfKey e.1) (numOfKey e.1))
  | none =>
    (own.find? fun e => e.2.rfm && !s.p1Barred sc (posOfKey e.1) (rfmBanks (numOfKey e.1))).map fun e =>
      (posOfKey e.1, rfmBanks (numOfKey e.1))

/-- Banks whose postponed refreshes can be caught up, all that the refresh blocks being idle (04 R93). R93 gives
no order among several banks: the lowest bank key comes first, in a slot with nothing else to issue (DESIGN
CHOICE, log 119). -/
def State.lateBank (s : State) (sc : Nat) : Option (Nat × List Nat) :=
  (s.dram.banks.find? fun e =>
    decide (e.1 / 512 = sc) && decide (0 < e.2.postponed) &&
      s.banksIdle sc (posOfKey e.1) (s.sameBanks sc (posOfKey e.1) (numOfKey e.1))).map fun e =>
    (posOfKey e.1, s.sameBanks sc (posOfKey e.1) (numOfKey e.1))

/-- Banks whose devices want refresh management and are idle: a refresh opportunity (04 R95). -/
def State.rfmBank (s : State) (sc : Nat) : Option (Nat × List Nat) :=
  (s.dram.banks.find? fun e =>
    decide (e.1 / 512 = sc) &&
      (match s.rfmOf (sc / 2 * 2 + posOfKey e.1) with
       | some (least, _) => decide (least ≤ e.2.raa)
       | none => false) &&
      s.banksIdle sc (posOfKey e.1) (rfmBanks (numOfKey e.1))).map fun e =>
    (posOfKey e.1, rfmBanks (numOfKey e.1))

/-- The requests that a command slot may serve: the writes of a running batch, or the reads. A P0 or P2
read interrupts the batch, and so does a batch none of whose writes can go (04 R89, 06 R140). -/
def State.slotList (s : State) (sc : Nat) (batch : Bool) : List Req :=
  let c := s.chan sc
  let reads := (c.reads.take 64).filter (s.readReady sc)
  let writes := (c.writes.take 64).filter (s.writeReady sc)
  if batch && !writes.isEmpty && !(reads.any fun q => decide (s.prioOf q ≤ 2)) then writes else reads

/-- The best priority among the requests that could go now; 99 with none. -/
def State.bestPrio (s : State) (sc : Nat) : Nat :=
  ((s.slotList sc (s.batchNow (s.chan sc)).1).map s.prioOf).foldl min 99

/-- A subchannel takes a command at a priority now: no slice runs on it, and nothing of a higher priority
could go (06 R140). -/
def State.slotFree (s : State) (sc prio : Nat) : Bool :=
  s.quadRuns sc && (s.chan sc).slice.isNone && decide (prio ≤ s.bestPrio sc) &&
    (decide (prio ≤ 1) || (s.urgentBank sc).isNone)

/-- The queues of a subchannel have room for one more request, and none of them is for a line (04 R86, R90). -/
def Chan.admits (c : Chan) (dpa : Nat) : Bool :=
  decide (c.reads.length < 64) && decide (c.writes.length < 64) &&
    !((c.reads ++ c.writes).any fun q => decide (q.dpa = dpa)) &&
    !(c.issued.any fun e => decide (e.req.dpa = dpa))

/-- A slot of a physical line's subchannel is free at a priority: no refresh holds its bank, no second read is due
there, and the throttle lets the access go (06 R140, R143, log 120). -/
def State.slotTurn (s : State) (r off prio : Nat) : Bool :=
  let sc := subOf r off
  let b := s.bankAt r off
  let x := s.bank sc b.1 b.2.1
  s.slotFree sc prio && !x.refreshing && !s.retryOn sc b.1 b.2.1 && s.mayColumn sc prio &&
    (decide (x.openRow = some b.2.2) || s.mayActivate sc prio)

/-- An engine's access to a line at a priority may take place now: a slot is free, and the queues have an entry for it
and no request for its line (04 R86, R90, 06 R140, log 120). -/
def State.turnOf (s : State) (r off dpa prio : Nat) : Bool :=
  s.slotTurn r off prio && (s.chan (subOf r off)).admits dpa

/-- The physical rank that a write of a line goes to: the target of a rebuild, else the rank that it is read from
(10 R247, R249). -/
def State.writeRank (s : State) (r off : Nat) : Nat :=
  match s.redirectOf r with
  | some d => if d.rebuild then d.carrier else s.readRank r off
  | none => r

/-- An engine's write to a line may take place now, from a die over the links (04 R86, R112, 06 R140, R141). A line of
a lost rank takes none. -/
def State.lineTurn (s : State) (d o prio : Nat) : Bool :=
  let p := s.place o
  s.isLost p.rank || (s.turnOf (s.writeRank p.rank p.off) p.off o prio && s.linkOpen d p.die)

/-- An engine's writes to every line of a flake may take place now, from its home die. -/
def State.flakeTurn (s : State) (m prio : Nat) : Bool :=
  (flakeLines m).all fun o => s.lineTurn (s.homeDie m) o prio

/-- 10 R253 step 3: write a healed line from the page; one that the bitmap marks holds the poison encoding (07 R161). A
line that a rebuild has yet to write is left to it (R249). -/
def State.healLine (s : State) (m i : Nat) (bm : BitVec 256) (ls : Sparse LineCell) : State :=
  let o := m * flakeBytes + 64 * i
  if s.needsRebuild (s.place o).rank (s.place o).off then s
  else if bm.getLsbD i then s.setLine o .poison
  else (s.setLine o (pageCell o s bm ls i)).dropPoison (o / 64)

/-- Serve a read from the line that its heal has written: it waits in no queue, and is answered from the heal's write as
from a queued one (10 R254, 04 R90). -/
def State.serveRead (s : State) (q : Req) : State :=
  if !s.keyLive q.key then s.violateRead q
  else
    match s.cell q.dpa with
    | .data l k => s.respData q (s.decrypt q.dpa l k) false
    | .poison => s.respPoison q

/-- A heal may write its lines now, at P5 (10 R253, 06 R140). -/
def State.healTurn (s : State) (h : Heal) : Bool :=
  (List.range 256).all fun i =>
    let o := h.flake * flakeBytes + 64 * i
    let p := s.place o
    !h.lines.getLsbD i || s.needsRebuild p.rank p.off || s.lineTurn (s.homeDie h.flake) o 5

/-- 10 R253 steps 2–4: the page of a queued heal has arrived. -/
def State.healArrived (s : State) (d m : Nat) : State :=
  match takeRead (fun r => decide (r.flake = m) && decide (r.purpose = 1) && r.res.isSome) (s.die d).reads,
        (s.healsOf d).find? fun h => decide (h.flake = m) with
  | some r, some h =>
    if !s.healTurn h then s else
    let s := s.setDie d { s.die d with reads := r.2 }
    let s := s.setHeals d ((s.healsOf d).filter fun x => !decide (x.flake = m))
    let p := s.page d r.1.page
    if (s.tenOf (m * flakeBytes)).isSome ∧ s.flakeTen m = none then h.waiting.foldl (fun t q => t.violateRead q) s
    else if s.firn m ≠ fClean ∨ s.fmapOf m ≠ h.page then
      let s := (s.inc 0x6900 9).report d cHealBad 1 0 [m]
      h.waiting.foldl (fun t q => t.respPoison q) s
    else
      match r.1.res, p.body with
      | some true, .data bm ls =>
        let s := (List.range 256).foldl
          (fun t i => if h.lines.getLsbD i then t.healLine m i bm ls else t) s
        let s := (s.inc 0x6900 8).report d cHealDone 0 0 [m]
        h.waiting.foldl (fun t q => t.serveRead q) s
      | _, _ =>
        let s := ((s.redirty m).inc 0x6900 9).report d cHealBad 1 0 [m]
        h.waiting.foldl (fun t q => t.respPoison q) s
  | _, _ => s

/-- HEAL_PAGE_ARRIVED. -/
def execHealPageArrived (die flake : Nat) (s : State) : Host.Outcome State Fault Refusal :=
  act (fun s => s.healArrived die flake) s

/-- 04 R87–R91, R93–R95, 06 R140: one command slot of a subchannel. A request of a pump in a freeze, at
P0, goes before P1 commands. -/
def State.commandSlot (s : State) (sc : Nat) : State :=
  let c := s.chan sc
  if !s.quadRuns sc || c.slice.isSome then s
  else
    match (if s.bestPrio sc = 0 then none else s.urgentBank sc) with
    | some (k, bs) => (s.leaveIdle sc).startRefresh sc k bs true
    | none =>
      let b := s.batchNow c
      let pick := s.choose sc (s.slotList sc b.1)
      let low := match pick with
        | some (true, q) => s.throttled (dieOfSub sc) && decide (3 ≤ s.prioOf q)
        | _ => false
      let s := s.setChan sc { c with batch := b.1, deep := b.2 && b.1, columnLast := low }
      match pick with
      | some (true, q) => (s.leaveIdle sc).issueColumn sc q
      | some (false, q) => (s.leaveIdle sc).activate sc q
      | none =>
        match s.lateBank sc with
        | some (k, bs) =>
          (s.mapBanks sc k bs fun _ x => { x with postponed := x.postponed - 1 }).startRefresh sc k bs false
        | none =>
          match s.rfmBank sc with
          | some (k, bs) => s.startRefresh sc k bs false
          | none => s

/-- A request of the SW74's own for a line, silent (04 R86). -/
def State.ownRead (s : State) (src : Src) (o cls : Nat) : Req :=
  { src := src, id := s.hosts.nextReq, port := 0xFFFF, link := 0, tag := 0, op := .read, dpa := o,
    data := 0, be := fullBe, cls := cls, ten := 0xFFFF, key := { transit := false, slot := 0, gen := 0 },
    born := s.aon.now, enter := s.aon.now, arr := 0, met := true, promoted := false, silent := true,
    answered := false, confirmed := false, locked := false }

/-- An engine's read of the line at its watermark: decoded at once, or, where it is uncorrectable, read once
more by RETRY_READ_COMPLETE as the next command to the bank (04 R102). -/
def State.engineRead (s : State) (src : Src) (o r off : Nat) (errs : List Nat) (found : State → ReadOut → State) :
    State :=
  let v := (s.touchBank r off).decodeLine (s.cellAt o r off) errs
  let s : State := v.2
  match v.1 with
  | .uncorrectable =>
    let q := s.ownRead src o 3
    let c := s.chan (subOf r off)
    { s with hosts := { s.hosts with nextReq := s.hosts.nextReq + 1 } }.setChan (subOf r off)
      { c with issued := { req := q, rank := r, off := off, retry := true } :: c.issued }
  | .corrected c p => found (s.countCe r off p) (.corrected c p)
  | x => found s x

/-- An engine already awaits the second read of its line, or the page that the line comes from. -/
def State.awaitsRetry (s : State) (src : Src) : Bool :=
  s.dram.chans.any fun e => e.2.issued.any fun i => decide (i.req.src = src)

/-- MIGRATION_LINE: one line of the migration that runs on a die, at P7 (10 R247, R248; 06 R140). -/
def State.migrateLine (s : State) (d : Nat) (errs : List Nat) : State :=
  match s.runningCopy d with
  | none => s
  | some e =>
    let off := e.2.watermark
    let src : Src := .migrate e.2.source off
    let o := s.dpaOfRank e.1 off
    if s.freeze.active || s.awaitsRetry src || !s.turnOf e.2.source off o 7 || !s.turnOf e.2.carrier off o 7 then s
    else s.engineRead src o e.2.source off errs fun t v => t.migrateFound d v

def execMigrationLine (die : Nat) (errs : List Nat) (s : State) : Host.Outcome State Fault Refusal :=
  act (fun s => s.migrateLine die errs) s

/-- The rebuild's writes to the lines of a flake may take place now; the requests that wait for them hold entries of the
queues, and are no obstacle (log 120). -/
def State.rebuildTurn (s : State) (m prio : Nat) : Bool :=
  (flakeLines m).all fun o =>
    let p := s.place o
    !s.needsRebuild p.rank p.off ||
      (s.slotTurn (s.writeRank p.rank p.off) p.off prio &&
        s.linkOpen (if o < s.assignable then s.homeDie m else p.die) p.die)

/-- The page read of a rebuild of a flake. -/
def PRead.rebuilds (r : PRead) (m : Nat) : Bool := decide (r.flake = m) && decide (r.purpose = 4)

/-- A flake's lines on ranks being rebuilt are rebuilt together: those of a CLEAN flake from its page, which is asked
for first; a home die that has stopped has none (10 R249). -/
def State.rebuildFlake (s : State) (m prio : Nat) : State :=
  let d := s.homeDie m
  let s := s.settleFirn m
  let x := s.die d
  if !s.rebuildTurn m prio then s
  else if s.assignable ≤ m * flakeBytes ∨ s.firn m ≠ fClean ∨ s.dieOut d = true then s.rebuildFirst m false
  else
    match takeRead (fun r => r.rebuilds m && r.res.isSome) x.reads with
    | some (r, l) =>
      let s := s.setDie d { x with reads := l }
      if r.page = s.fmapOf m then s.rebuildFirst m (decide (r.res = some true)) else s
    | none =>
      let mine := fun e : PRead => e.rebuilds m
      if x.reads.any mine then
        s.setDie d { x with
          reads := x.reads.map fun e => if mine e then { e with host := e.host || decide (prio = 5) } else e }
      else
        s.askPage d { page := s.fmapOf m, flake := m, purpose := 4, host := decide (prio = 5), level := 0, res := none }

/-- The flake whose lines on a rank are rebuilt first, for a request that waits for one of them (10 R249). -/
def State.rebuildDue (s : State) (l r : Nat) : Option Nat :=
  (([2 * (r / 2), 2 * (r / 2) + 1].flatMap fun sc => (s.chan sc).reads ++ (s.chan sc).writes).find? fun q =>
    decide ((s.place q.dpa).rank = l) && s.waitsRebuild q).map fun q => flakeOf q.dpa

/-- REBUILD_LINE: the flake that a request waits for, at P5; else the line at the watermark, at P7, which may have been
written already (10 R249). A CLEAN flake's page serves all its lines on the rank. -/
def State.rebuildStep (s : State) (d r : Nat) : State :=
  match s.sparing.redirect.find? fun e =>
      decide (dieOfRank e.1 = d) && decide (e.2.source = r) && !e.2.complete && e.2.rebuild with
  | none => s
  | some e =>
    let off := e.2.watermark
    let o := s.dpaOfRank e.1 off
    let s :=
      if s.freeze.active then s
      else
        match s.rebuildDue e.1 r with
        | some m => s.rebuildFlake m 5
        | none =>
          if e.2.early.elem (off / 64) then s.copyAdvance e.1 e.2
          else if o < s.assignable ∧ (s.coverOf (o / driftBytes)).isSome = true ∧ s.firn (flakeOf o) = fClean then
            s.rebuildFlake (flakeOf o) 7
          else if s.slotTurn e.2.carrier off 7 then
            (s.lostLine o e.2.carrier off true false).copyAdvance e.1 e.2
          else s
    (s.rehome (2 * (r / 2))).rehome (2 * (r / 2) + 1)

def execRebuildLine (die rank : Nat) (s : State) : Host.Outcome State Fault Refusal :=
  act (fun s => s.rebuildStep die rank) s

/-- A line of a quadrant that has returned is not trusted before its flake has been fetched or filled: nothing reads
it (10 R260). -/
def State.untrusted (s : State) (r o : Nat) : Bool :=
  let m := flakeOf o
  let j := s.driftOf m
  let c := s.firn m
  decide (o < s.assignable) && (s.quad (dieOfRank r) (quadOfRank r)).unmarked.elem j && !s.mark j &&
    (decide (c = fUnrestored) || decide (c = fRestoring) ||
      ((decide (c = fTrimmed) || decide (c = fPoisoned)) && !s.freeze.filled.elem m))

/-- The sweep enters a flake: it marks it like a write, but for a VOLATILE tenancy; in a CHECKPOINT tenancy
that is no host write (03 R77). -/
def State.sweepEnter (s : State) (n m : Nat) : State :=
  if (s.tenancy n).mode = 2 then s
  else if (s.tenancy n).mode = 1 ∧ (s.firn m = fClean ∨ s.firn m = fTrimmed) then
    { s.firnWrite m with shadow := { (s.firnWrite m).shadow with
        swept := addOnce m (s.firnWrite m).shadow.swept } }
  else s.firnWrite m

/-- The sweep marks the flake of its line: as it enters it, and where a recovery has made it CLEAN or TRIMMED again since,
for its page would give lines under the old key (03 R77, R79). -/
def State.sweepMarks (s : State) (n m o : Nat) : Bool :=
  decide (o % flakeBytes = 0) || (decide ((s.tenancy n).mode ≠ 2) && (decide (s.firn m = fClean) || decide (s.firn m = fTrimmed)))

/-- 03 R77: the sweep re-encrypts the line at the watermark, at P7; it enters a flake once its tenancy is
not held. -/
def State.sweepLine (s : State) (n : Nat) (errs : List Nat) : State :=
  match s.transitOf n with
  | none => s
  | some k =>
    let o := (s.tenancy n).watermark
    let m := flakeOf o
    let lost := s.isLost (s.place o).rank
    if s.seq.st ≠ 12 ∨ s.freeze.active = true ∨ s.thawing = true ∨ (s.keySlot k).st ≠ 4 ∨
        s.awaitsRetry (.sweep n) = true then s
    else if s.sweepMarks n m o = true ∧ s.tenHeld n = true ∧ isSnow (s.firn m) = false then s
    else if lost = false ∧ (s.turnOf (s.physOf o) (s.place o).off o 7 = false ∨
        s.needsRebuild (s.place o).rank (s.place o).off = true ∨ s.untrusted (s.physOf o) o = true) then s
    else
      let s := if s.sweepMarks n m o then s.sweepEnter n m else s
      if lost then s.sweepFound n .poison
      else s.engineRead (.sweep n) o (s.physOf o) (s.place o).off errs fun t v => t.sweepFound n v

/-- REKEY_SWEEP_LINE. -/
def execRekeySweepLine (line : SweptLine) (s : State) : Host.Outcome State Fault Refusal :=
  act (fun s => s.sweepLine line.tenancy line.errs) s

/-- COMMAND_SLOT. -/
def execCommandSlot (sc : Nat) (s : State) : Host.Outcome State Fault Refusal :=
  act (fun s => s.commandSlot sc) s

/-- Take the first issued read that satisfies a test. -/
def takeIssued (p : Issued → Bool) : List Issued → Option (Issued × List Issued)
  | [] => none
  | i :: l => if p i then some (i, l) else (takeIssued p l).map fun x => (x.1, i :: x.2)

/-- Data of a read reaches the inline crypto engine and the host (03 R72, R74). -/
def State.deliver (s : State) (q : Req) (c : LineCell) : State :=
  if !s.keyLive q.key then s.violateRead q
  else
    match c with
    | .data l k => s.respData q (s.decrypt q.dpa l k) false
    | .poison => s.respPoison q

/-- The cell that a channel finds at a physical line; nothing on a lost rank. -/
def State.cellOf (s : State) (i : Issued) : LineCell :=
  if i.req.src = .host ∧ s.isLost (s.place i.req.dpa).rank = true then .poison
  else s.cellAt i.req.dpa i.rank i.off

/-- A read that decodes as poison counts on its rank, whoever reads (04 C+1+k.0A). -/
def State.countPoison (s : State) (r : Nat) : State := s.inc (ixRank r) 0x0A

/-- A partial write ends: merged over the line, or discarded over poison (04 Table 04.4). -/
def State.endPartial (s : State) (sc : Nat) (q : Req) (c : Option LineCell) : State :=
  let ch := s.chan sc
  let s := s.setChan sc { ch with writes := ch.writes.filter fun e => !decide (e.id = q.id) }
  let s := match c with
    | some (.data l k) =>
      if s.keyLive q.key then
        s.setCell q.dpa (s.sealed q.dpa (mergeBytes (s.decrypt q.dpa l k) q.data q.be))
      else s.countViolation q q.ten
    | _ => s.report (s.place q.dpa).die cWriteOverPoison 1 0 [q.dpa]
  (s.servedClass0 sc q).sendCmps sc

/-- 02 R54, 10 R252–R254: a host read of a line that holds the poison encoding: it waits for a heal
of its CLEAN flake where heal on read is set and the line is queued, else receives poison. -/
def State.readPoison (s : State) (i : Issued) : State :=
  let q := i.req
  let m := flakeOf q.dpa
  let s := (s.countPoison i.rank).report (dieOfRank i.rank) cMedia 1 0 [q.dpa]
  let healing := (s.healsOf (s.homeDie m)).any fun h =>
    decide (h.flake = m) && h.lines.getLsbD (q.dpa / 64 % 256)
  if s.reg 0x6900 1 = 1 ∧ healing = true ∧ s.firn m = fClean then s.requestHeal q.dpa [q]
  else s.respPoison q

/-- 04 R102, R103: confirmed uncorrectable: the poison encoding is written and listed, or a sump line is
rebuilt; counted either way. -/
def State.confirmUe (s : State) (o r : Nat) : State :=
  if s.assignable ≤ o then (s.countUe r).sumpRebuild (s.dieAny o).1 (s.dieAny o).2
  else
    let s := (s.setCell o .poison).listPoison (s.place o).die o 1 false
    (s.countUe r).report (dieOfRank r) cMedia 1 0 [o]

/-- After a confirmed uncorrectable host read: a heal for a CLEAN flake, waited for where heal on
read is set; poison otherwise (02 R54, 10 R252). -/
def State.afterUe (s : State) (q : Req) : State :=
  if s.firn (flakeOf q.dpa) = fClean then
    if s.reg 0x6900 1 = 1 then s.requestHeal q.dpa [q] else (s.requestHeal q.dpa []).respPoison q
  else s.respPoison q

/-- 07 R155: the lines a die's firn cache holds, newest first, at most 16,384. -/
def State.cacheLine (s : State) (j : Nat) : State :=
  let d := dieOfDrift j
  { s with shadow := { s.shadow with
      cache := put [] s.shadow.cache d ((j :: without j (look [] s.shadow.cache d)).take 16384) } }

/-- A read that DRAM_READ_COMPLETE ends: a host's, or a home die's of a firn-map line. -/
def Req.plainRead (q : Req) : Bool :=
  match q.src with
  | .host => decide (q.op = .read)
  | .firn _ => true
  | _ => false

/-- A line read from DRAM goes to who asked for it: the host, or the firn cache (07 R155). -/
def State.arrives (s : State) (q : Req) (x : LineCell) : State :=
  match q.src with
  | .firn j => s.cacheLine j
  | _ => s.deliver q x

/-- A line that holds the poison encoding has been read (02 R54, 04 C+1+k.0A). -/
def State.arrivesPoison (s : State) (i : Issued) : State :=
  match i.req.src with
  | .firn j => (s.countPoison i.rank).cacheLine j
  | _ => s.readPoison i

/-- DRAM_READ_COMPLETE: the oldest burst of a host read, or of a read of a firn-map line, is decoded
(04 R99–R102, 07 R155). -/
def State.readComplete (s : State) (sc : Nat) (errs : List Nat) : State :=
  let c := s.chan sc
  match takeIssued (fun i => !i.retry && i.req.plainRead) c.issued with
  | none => s
  | some (i, l) =>
    let v := s.decodeLine (s.cellOf i) errs
    let s : State := v.2
    match v.1 with
    | .clean x => (s.setChan sc { c with issued := l }).arrives i.req x
    | .corrected x p => ((s.setChan sc { c with issued := l }).countCe i.rank i.off p).arrives i.req x
    | .poison => (s.setChan sc { c with issued := l }).arrivesPoison i
    | .uncorrectable => s.setChan sc { c with issued := { i with retry := true } :: l }

def execDramReadComplete (sc : Nat) (errs : List Nat) (s : State) : Host.Outcome State Fault Refusal :=
  act (fun s => s.readComplete sc errs) s

/-- A second read that decodes counts as one corrected error of the rank, and towards retirement as a corrected line
(04 R102, 10 R242); R102 says no more, and no device position is counted, for the first read gave none (DEDUCED,
log 121). -/
def State.countRetry (s : State) (r off : Nat) : State := (s.inc (ixRank r) 4).countLine r off

/-- A rank's state is one that patrol scrub reads (04 R107). -/
def scrubbed (st : Nat) : Bool :=
  decide (st = 1) || decide (st = 3) || decide (st = 4) || decide (st = 5) || decide (st = 6)

def noScrub : Scrub := { k := 0, line := 0, inFlight := false, start := 0, extra := 0 }

def State.scrubOf (s : State) (ch : Nat) : Scrub := look noScrub s.dram.scrub ch
def State.setScrub (s : State) (ch : Nat) (x : Scrub) : State :=
  { s with dram := { s.dram with scrub := put noScrub s.dram.scrub ch x } }

/-- 04 R109: the rank may be read: a spare after its initialising pass, another rank once the thaw
has completed; of a quadrant that has returned, once the thaw marks of its drifts are set (10 Table 10.6 step 5). -/
def State.scrubMay (s : State) (r : Nat) : Bool :=
  let k := s.rank r
  scrubbed k.st && (s.quad (dieOfRank r) (quadOfRank r)).unmarked.isEmpty && (if k.st = 3 then k.initPass else decide (s.freeze.thaw = 5))

/-- The pass over a channel ends: it is counted, and late when it took over 10 % longer than its period,
time in Idle-Deep aside (04 R107, R110). -/
def State.scrubEnd (s : State) (ch : Nat) : State :=
  let x := s.scrubOf ch
  let took := s.aon.now - x.start
  let s := s.setScrub ch { noScrub with start := s.aon.now }
  let s := (s.inc (ixChan ch + 4) 2).setReg (ixChan ch + 4) 3 (time48 (took / 1000))
  if s.reg (ixChan ch) 7 * 1100000000 + x.extra < took then s.report (ch / 8) cScrubLate 1 0 [ch] else s

/-- The scrub leaves a rank: for rank position 1, or for the next pass (04 R107). -/
def State.scrubLeave (s : State) (ch : Nat) : State :=
  let x := s.scrubOf ch
  let s := s.setRank (2 * ch + x.k) { s.rank (2 * ch + x.k) with filter := [] }
  if x.k = 0 ∧ scrubbed (s.rank (2 * ch + 1)).st = true then
    s.setScrub ch { x with k := 1, line := 0, inFlight := false }
  else s.scrubEnd ch

/-- Put a read of the SW74's own into its channel queue, silent (04 R86). -/
def State.queueOwn (s : State) (src : Src) (o cls : Nat) : State :=
  let q := s.ownRead src o cls
  let s : State := { s with hosts := { s.hosts with nextReq := s.hosts.nextReq + 1 } }
  let sc := s.subOfReq q
  let c := s.chan sc
  (s.setChan sc { c with reads := c.reads ++ [{ q with arr := c.arrivals }], arrivals := c.arrivals + 1 }).noteSlice sc q

/-- DPA of a physical rank's line; a rank that holds no logical rank's data has none, and gives a number
above every DPA (04 R107). -/
def State.dpaOfPhys (s : State) (r off : Nat) : Nat :=
  if (s.rank r).st = 3 then 2 ^ 60 + off else s.dpaOfRank (s.logicalOf r) off

/-- The scrub position moves on past a rank's line (04 R107). -/
def State.scrubNext (s : State) (ch r off : Nat) : State :=
  let x := s.scrubOf ch
  if 2 * ch + x.k ≠ r ∨ x.line * 64 ≠ off then s
  else if (x.line + 1) * 64 < s.capOf r then s.setScrub ch { x with line := x.line + 1, inFlight := false }
  else s.scrubLeave ch

/-- The patrol read of a line: answered from a queued write to it, or queued (04 R90). -/
def State.scrubRead (s : State) (ch r off : Nat) : State :=
  let o := s.dpaOfPhys r off
  if s.untrusted r o then s
  else
    match queuedLine o (s.chan (subOf r off)).writes with
    | some { op := .write, .. } => s.scrubNext ch r off
    | some { op := .clearPoison, .. } => s.scrubNext ch r off
    | _ => (s.setScrub ch { s.scrubOf ch with inFlight := true }).queueOwn (.scrub r off) o 3

/-- SCRUB_READ_DUE: the next line's read joins its queue at P10 (04 R107–R110). The scrub passes over a
rank that is not in a scrubbed state. -/
def State.scrubDue (s : State) (ch : Nat) : State :=
  let x := s.scrubOf ch
  let r := 2 * ch + x.k
  if x.inFlight || decide (1 < (s.quad (ch / 8) (ch % 8 / 2)).st) || s.freeze.active then s
  else if s.scrubMay r then s.scrubRead ch r (x.line * 64)
  else if scrubbed (s.rank r).st then s
  else if x.k = 0 ∧ s.scrubMay (r + 1) = true then (s.setScrub ch { x with k := 1, line := 0 }).scrubRead ch (r + 1) 0
  else if x.k = 1 ∧ scrubbed (s.rank (2 * ch)).st = true then s.scrubEnd ch
  else s

def execScrubReadDue (ch : Nat) (s : State) : Host.Outcome State Fault Refusal :=
  act (fun s => s.scrubDue ch) s

/-- A scrubbed line that stays uncorrectable (04 R102, R103, R108): that of the rank that serves its DPA as
any read of it; a spare, or a line of a copy that no request reads, holds the poison encoding and has no
list entry. -/
def State.scrubUe (s : State) (r off o : Nat) : State :=
  let s := s.inc (ixChan (r / 2) + 4) 5
  if (s.rank r).st ≠ 3 ∧ s.physOf o = r then
    let s := s.confirmUe o r
    if s.assignable ≤ o then s else s.requestHeal o []
  else (s.countUe r).putCell o r off .poison

/-- A scrub read has its outcome (04 R108). -/
def State.scrubFound (s : State) (r off o : Nat) (v : ReadOut) : State :=
  match v with
  | .clean _ => s
  | .poison => s.countPoison r
  | .corrected c _ =>
    let queued := (s.chan (subOf r off)).writes.any fun q => decide (q.dpa = o)
    let s := s.inc (ixChan (r / 2) + 4) 4
    if queued then s else s.putCell o r off c
  | .uncorrectable => s.scrubUe r off o

/-- SCRUB_READ_RESULT: the patrol read of a channel is decoded (04 R108); an uncorrectable line is read
once more (R102). -/
def State.scrubResult (s : State) (ch : Nat) (errs : List Nat) : State :=
  let mine := fun i : Issued => match i.req.src with
    | .scrub r _ => decide (r / 2 = ch) && !i.retry
    | _ => false
  let at_ := fun sc : Nat => takeIssued mine (s.chan sc).issued
  match (match at_ (2 * ch) with | some x => some (2 * ch, x) | none => (at_ (2 * ch + 1)).map fun x => (2 * ch + 1, x)) with
  | none => s
  | some (sc, i, l) =>
    let v := s.decodeLine (s.cellAt i.req.dpa i.rank i.off) errs
    let s : State := v.2
    match v.1 with
    | .uncorrectable => s.setChan sc { s.chan sc with issued := { i with retry := true } :: l }
    | x =>
      let s := s.setChan sc { s.chan sc with issued := l }
      let s := match x with
        | .corrected _ p => s.countCe i.rank i.off p
        | _ => s
      (s.scrubFound i.rank i.off i.req.dpa x).scrubNext ch i.rank i.off

def execScrubReadResult (ch : Nat) (errs : List Nat) (s : State) : Host.Outcome State Fault Refusal :=
  act (fun s => s.scrubResult ch errs) s

/-- A migration asks the page of a CLEAN flake for a line that stays uncorrectable, and holds the line meanwhile
(10 Table 10.4). -/
def State.migrateAsks (s : State) (i : Issued) : State :=
  let m := flakeOf i.req.dpa
  let sc := subOf i.rank i.off
  let s := (s.countUe i.rank).setChan sc
    { s.chan sc with issued := { i with retry := false } :: (s.chan sc).issued }
  s.askPage (s.homeDie m)
    { page := s.fmapOf m, flake := m, purpose := 3, host := false, level := 0, res := none }

/-- The second read of an engine's line has its outcome (04 R102). -/
def State.engineRetry (s : State) (i : Issued) (v : ReadOut) : State :=
  match i.req.src with
  | .scrub r off => (s.scrubFound r off i.req.dpa v).scrubNext (r / 2) r off
  | .migrate r _ =>
    if v = .uncorrectable ∧ i.req.dpa < s.assignable ∧ s.firn (flakeOf i.req.dpa) = fClean then s.migrateAsks i
    else s.migrateFound (dieOfRank r) v
  | .sweep n => s.sweepFound n v
  | .firn j => (if v = .uncorrectable then s.confirmUe i.req.dpa i.rank else s).cacheLine j
  | _ => s

/-- RETRY_READ_COMPLETE: the second read of an uncorrectable line (04 R102, Table 04.4). -/
def State.retryComplete (s : State) (sc : Nat) (errs : List Nat) : State :=
  let c := s.chan sc
  match takeIssued (fun i => i.retry) c.issued with
  | none => s
  | some (i, l) =>
    let v := s.decodeLine (s.cellOf i) errs
    let s : State := (State.setChan v.2 sc { c with issued := l })
    let q := i.req
    let s := match v.1 with
      | .clean _ | .corrected _ _ => s.countRetry i.rank i.off
      | _ => s
    if q.src ≠ .host then s.engineRetry i v.1
    else
      let rd := decide (q.op = .read)
      match v.1 with
      | .clean x | .corrected x _ => if rd then s.deliver q x else s.endPartial sc q (some x)
      | .poison =>
        if rd then s.readPoison i else (s.countPoison i.rank).endPartial sc q (some .poison)
      | .uncorrectable =>
        let s := s.confirmUe q.dpa i.rank
        if rd then s.afterUe q else s.endPartial sc q none

def execRetryReadComplete (sc : Nat) (errs : List Nat) (s : State) : Host.Outcome State Fault Refusal :=
  act (fun s => s.retryComplete sc errs) s

/-- PARTIAL_WRITE_MERGE: the read of a partial write comes back (04 Table 04.4). -/
def State.partialMerge (s : State) (sc : Nat) (errs : List Nat) : State :=
  let c := s.chan sc
  match takeIssued (fun i => !i.retry && decide (i.req.op = .partialWrite)) c.issued with
  | none => s
  | some (i, l) =>
    let v := s.decodeLine (s.cellOf i) errs
    let s : State := v.2
    match v.1 with
    | .clean x => (s.setChan sc { c with issued := l }).endPartial sc i.req (some x)
    | .corrected x p =>
      (((s.setChan sc { c with issued := l }).countCe i.rank i.off p).report (dieOfRank i.rank)
        cCorrected 0 0 [i.req.dpa, p]).endPartial sc i.req (some x)
    | .poison =>
      ((s.setChan sc { c with issued := l }).countPoison i.rank).endPartial sc i.req (some .poison)
    | .uncorrectable => s.setChan sc { c with issued := { i with retry := true } :: l }

def execPartialWriteMerge (sc : Nat) (errs : List Nat) (s : State) : Host.Outcome State Fault Refusal :=
  act (fun s => s.partialMerge sc errs) s

/-- The thermal throttle engages for a rank in the over-temperature refresh state (20 R423). -/
def State.throttleByDram (s : State) (d : Nat) : State :=
  if s.throttled d then s else s.setThrottle d 2

/-- MR4_POLL: the worst reading of a rank (04 Table 04.3). -/
def State.mr4 (s : State) (r : Nat) (m : Mr4) (field : Nat) : State :=
  let s := s.setRank r { s.rank r with mr4At := s.aon.now }
  let k := s.rank r
  let d := dieOfRank r
  let s := s.setReg (ixRank r) 8 field
  match m with
  | .beyond =>
    if k.refresh = 2 then s
    else ((s.setRank r { k with refresh := 2 }).report d cOverTemp 2 0 [r]).throttleByDram d
  | .double =>
    if k.refresh = 0 then (s.setRank r { k with refresh := 1, normalCount := 0 }).report d cRefreshDouble 0 0 [r]
    else if k.refresh = 1 then s.setRank r { k with normalCount := 0 }
    else (s.setRank r { k with refresh := 1, normalCount := 0 }).report d cOverTempEnd 1 0 [r]
  | .single =>
    if k.refresh = 0 then s
    else if k.refresh = 1 then
      if k.normalCount + 1 < 16 then s.setRank r { k with normalCount := k.normalCount + 1 }
      else (s.setRank r { k with refresh := 0, normalCount := 0 }).report d cRefreshSingle 0 0 [r]
    else (s.setRank r { k with refresh := 1, normalCount := 0 }).report d cOverTempEnd 1 0 [r]

/-- A rank's MR4 can be read: its quadrant takes commands, and a P10 slot is free on both subchannels, or 16 ms have
passed since the last reading, which R97 holds to whatever waits (04 R97, 06 R140; DESIGN CHOICE, log 120). -/
def State.mayMr4 (s : State) (r : Nat) : Bool :=
  let l := [2 * (r / 2), 2 * (r / 2) + 1]
  l.all s.quadRuns && !(s.rank r).selfRefresh && l.all (fun sc => (s.chan sc).slice.isNone) &&
    (l.all (fun sc => s.slotFree sc 10) || decide (16000000 ≤ s.aon.now - (s.rank r).mr4At))

def execMr4Poll (rank : Nat) (reading : Mr4) (field : Nat) (s : State) :
    Host.Outcome State Fault Refusal :=
  act (fun s => if s.capOf rank = 0 ∨ s.mayMr4 rank = false then s else s.mr4 rank reading field) s

/-- One parity error counts against a rank (04 R106, 10 R242). -/
def State.countParity (s : State) (r : Nat) : State :=
  let k := s.rank r
  (s.setRank r { k with
    parity := s.aon.now :: (k.parity.filter fun t => decide (s.aon.now - t < 60000000000)) }).inc
    (ixRank r) 6

/-- CA_PARITY_ERROR: recovered by the channel, counted and logged (04 R106). -/
def execCaParityError (ch : Nat) (rank : Option Nat) (s : State) : Host.Outcome State Fault Refusal :=
  act (fun s =>
    let rs := match rank with
      | some r => [r]
      | none => [2 * ch, 2 * ch + 1]
    let s := (rs.filter fun r => decide (s.capOf r ≠ 0)).foldl (fun t r => t.countParity r) s
    s.report (ch / 8) cParity 0 0 [ch]) s

/-- SCRUB_INIT_PASS: the initialising pass over a rank in state spare writes the all-zero line to
every line, at P10 while its quadrant runs and no freeze does (04 R107, R109, R112, 09 Table 09.1 step 3). -/
def execScrubInitPass (rank : Nat) (s : State) : Host.Outcome State Fault Refusal :=
  act (fun s =>
    let k := s.rank rank
    if k.st = 3 ∧ k.initPass = false ∧ s.freeze.active = false ∧
        ([2 * (rank / 2), 2 * (rank / 2) + 1].all fun sc => s.slotFree sc 10) = true then
      let s := s.setRank rank { k with initPass := true }
      { s with dram := { s.dram with
          lines := keepK (fun a => !decide (a / 2 ^ 40 = rank)) s.dram.lines } }
    else s) s

/-- Subchannels of a quadrant. -/
def subsOf (d q : Nat) : List Nat := (List.range 4).map fun i => 16 * d + 4 * q + i

/-- Nothing is queued or issued on a quadrant's subchannels: by a host, a pump or an engine. -/
def State.quadEmpty (s : State) (d q : Nat) : Bool :=
  (subsOf d q).all fun sc =>
    (s.chan sc).reads.isEmpty && (s.chan sc).writes.isEmpty && (s.chan sc).issued.isEmpty

/-- An engine needs a quadrant: a migration or rebuild with a rank there, a heal, a fetch, a zero fill or a rekey sweep
with a line there (04 R112, Table 04.5 Exit 1). -/
def State.engineNeeds (s : State) (d q : Nat) : Bool :=
  let at_ := fun r : Nat => decide (dieOfRank r = d) && decide (quadOfRank r = q)
  (s.sparing.redirect.any fun e => !e.2.complete && !e.2.queued && (at_ e.2.carrier || at_ e.2.source)) ||
    (s.sparing.heals.any fun e => e.2.any fun h => (flakeLines h.flake).any fun o => at_ (s.physOf o)) ||
    (s.shadow.firn.any fun e => decide (e.2 = fRestoring) && (flakeLines e.1).any fun o => at_ (s.physOf o)) ||
    (match s.fillRange with
     | some r => (s.chansOfRange r.1 r.2).any fun g => decide (g / 8 = d) && decide (g % 8 / 2 = q)
     | none => false) ||
    (s.ten.keys.any fun e => decide (e.2.st = 4) && at_ (s.physOf (s.tenancy e.2.ten).watermark))

/-- QUADRANT_IDLE: no command for 64 QCLK cycles (12 Table 12.3). -/
def execQuadrantIdle (die q : Nat) (s : State) : Host.Outcome State Fault Refusal :=
  act (fun s =>
    let x := s.quad die q
    if x.st = 0 ∧ s.quadEmpty die q = true then s.setQuad die q { x with st := 1 } else s) s

/-- Ranks of a quadrant. -/
def ranksOf (d q : Nat) : List Nat := (List.range 4).map fun i => 16 * d + 4 * q + i

/-- A recalibration runs on the quadrant (05 R128). -/
def State.recalRuns (s : State) (d q : Nat) : Bool :=
  (ranksOf d q).any fun r => decide ((s.rank r).train = 4)

/-- Banks of a subchannel forget open rows and postponements (04 Table 04.5, R113). -/
def State.quietBanks (s : State) (d q : Nat) : State :=
  { s with dram := { s.dram with
      banks := s.dram.banks.filterMap fun e =>
        if dieOfSub (e.1 / 512) = d ∧ quadOfSub (e.1 / 512) = q then
          let b := { e.2 with openRow := none, streak := 0, postponed := 0, refreshing := false,
                              p1 := false, urgent := false, rfm := false, yields := [] }
          if b = noBank then none else some (e.1, b)
        else some e } }

/-- IDLE_DEEP_ENTRY: the entry delay of a permitted quadrant has passed with nothing queued
(04 R111, R112). -/
def execIdleDeepEntry (die q : Nat) (s : State) : Host.Outcome State Fault Refusal :=
  act (fun s =>
    let x := s.quad die q
    if s.reg (ixQuad die q) 2 = 1 ∧ x.st ≤ 1 ∧ s.quadEmpty die q = true ∧ s.engineNeeds die q = false ∧
        s.recalRuns die q = false then
      ((s.quietBanks die q).setQuad die q { x with st := 2, deepAt := s.aon.now }).inc (ixQuad die q) 4
    else s) s

/-- A rank is treated as failed after training (05 R119). -/
def State.failRank (s : State) (r reason retire : Nat) : State :=
  let s := (s.setRank r { s.rank r with train := 3 }).setReg (ixTrainRank r) 8 reason
  (s.report (dieOfRank r) cRankFailed 2 0 [r, reason]).retireRank r retire

/-- Take the first notice that satisfies a test. -/
def takeNotice (p : Notice → Bool) : List Notice → Option (Notice × List Notice)
  | [] => none
  | n :: l => if p n then some (n, l) else (takeNotice p l).map fun x => (x.1, n :: x.2)

/-- Apply one notice to the firn map (07 R154). -/
def State.applyNotice (s : State) (n : Notice) : State := (s.firnWrite n.flake).unswept n.flake

/-- The firn cache of a home drift's die holds its firn-map line (07 R155). -/
def State.firnHit (s : State) (j : Nat) : Bool := (look [] s.shadow.cache (dieOfDrift j)).elem j

/-- DPA of the firn-map line of a home drift in its die's sump (03 R430). -/
def State.firnLine (s : State) (j : Nat) : Nat :=
  let d := dieOfDrift j
  s.dpaOfDie d (s.assign d + 768 * (s.usable d / driftBytes) + 64 * (j / 8))

/-- A read of the firn-map line of a home drift is on its way. -/
def State.firnAsked (s : State) (j : Nat) : Bool :=
  s.dram.chans.any fun e =>
    (e.2.reads.any fun q => decide (q.src = .firn j)) || e.2.issued.any fun i => decide (i.req.src = .firn j)

/-- A notice that misses the firn cache has the firn-map line read from the sump at the class of its write; a line
of a lost rank has nothing to be read (07 R155). -/
def State.askFirn (s : State) (n : Notice) : State :=
  let j := s.driftOf n.flake
  let w := (s.chan n.sc).writes.find? fun q => decide (q.id = n.req)
  if s.firnHit j || s.firnAsked j then s
  else if s.isLost (s.place (s.firnLine j)).rank then s.cacheLine j
  else s.queueOwn (.firn j) (s.firnLine j) ((w.map (·.cls)).getD 3)

/-- The first notice that satisfies a test is changed. -/
def changeFirst (p : Notice → Bool) (f : Notice → Notice) : List Notice → List Notice
  | [] => []
  | n :: l => if p n then f n :: l else n :: changeFirst p f l

/-- DIRTY_NOTICE: the oldest notice that can cross to a home die is applied to its firn map (07 R154, 06 R141). -/
def State.noticeStep (s : State) (d : Nat) : State :=
  let due := fun n : Notice => decide (s.homeDie n.flake = d) && !n.applied && s.linkOpen (dieOfSub n.sc) d
  match s.shadow.notices.find? due with
  | none => s
  | some n =>
    let l := changeFirst due (fun x => { x with applied := true }) s.shadow.notices
    ({ s with shadow := { s.shadow with notices := l } }.applyNotice n).askFirn n

def execDirtyNotice (die : Nat) (s : State) : Host.Outcome State Fault Refusal :=
  act (fun s => if s.coreStopped die then s else s.noticeStep die) s

/-- NOTICE_CONFIRMED: the oldest applied notice of a home die whose firn-map line is in the cache is confirmed to its
channel; a queue entry that a later notice names too waits for that one (07 R154, R155). With none whose line is
there, the line of the oldest is asked for. -/
def State.confirmStep (s : State) (d : Nat) : State :=
  let mine := fun n : Notice => decide (s.homeDie n.flake = d) && n.applied && s.linkOpen d (dieOfSub n.sc)
  match takeNotice (fun n => mine n && s.firnHit (s.driftOf n.flake)) s.shadow.notices with
  | none =>
    match s.shadow.notices.find? mine with
    | some n => s.askFirn n
    | none => s
  | some (n, l) =>
    let c := s.chan n.sc
    let last := !(l.any fun x => decide (x.req = n.req))
    let s := s.setChan n.sc { c with
      writes := c.writes.map fun q => if q.id = n.req ∧ last = true then { q with confirmed := true } else q }
    { s with shadow := { s.shadow with notices := l } }.cacheLine (s.driftOf n.flake)

def execNoticeConfirmed (die : Nat) (s : State) : Host.Outcome State Fault Refusal :=
  act (fun s => if s.coreStopped die then s else s.confirmStep die) s

/-- ADMISSION_STAGE_ENTRY: the oldest held write that waits at its ingress die enters the stage of
its owning die (07 R174). -/
def execAdmissionStageEntry (die : Nat) (s : State) : Host.Outcome State Fault Refusal :=
  act (fun s =>
    match s.shadow.held.find? fun q =>
        decide ((s.place q.dpa).die = die) && !(s.shadow.staged.elem q.id) with
    | some q =>
      if s.stageOcc die < 1024 ∧ s.coreStopped die = false then
        { s with shadow := { s.shadow with staged := s.shadow.staged ++ [q.id] } }
      else s
    | none => s) s

/-- The write is the oldest of its tenancy that waits, on any die (07 R174). -/
def State.firstOfTen (s : State) (q : Req) : Bool :=
  (s.shadow.held.find? fun e => decide (e.ten = q.ten)).map (·.id) = some q.id

/-- 07 R174: the write that is admitted next at a die: the oldest within its tenancy's share, in arrival order
within the tenancy, or the package's oldest waiting write when the pool has room for it. -/
def State.nextAdmitted (s : State) (d : Nat) : Option Req :=
  let here := fun q : Req => decide ((s.place q.dpa).die = d) && s.shadow.staged.elem q.id
  match s.shadow.held.find? fun q => here q && s.firstOfTen q && (s.withinShare q.ten || !s.holdsOn) with
  | some q => some q
  | none =>
    match s.shadow.held.find? fun q => !s.withinShare q.ten with
    | some q => if here q && s.poolRoom then some q else none
    | none => none

/-- WRITE_ADMITTED: the write is admitted, charges its flake, and enters its queue (07 R174). -/
def State.admitStep (s : State) (d : Nat) : State :=
  match s.nextAdmitted d with
  | none => s
  | some q =>
    let s : State := { s with shadow := { s.shadow with
      held := s.shadow.held.filter fun e => !decide (e.id = q.id)
      staged := without q.id s.shadow.staged } }
    (s.noteWait q).enterChannel q

def execWriteAdmitted (die : Nat) (s : State) : Host.Outcome State Fault Refusal :=
  act (fun s => if s.coreStopped die then s else s.admitStep die) s

/-- SNOW_COUNT_MESSAGE: a die's charges and releases reach the lead die's totals (07 R156). -/
def State.tellLead (s : State) (d : Nat) : State :=
  let x := s.die d
  let s := s.setDie d { x with unsent := [] }
  { s with shadow := { s.shadow with
      lead := x.unsent.foldl
        (fun (m : Sparse Nat) e => put 0 m e.1 (((look 0 m e.1 : Nat) : Int) + e.2).toNat) s.shadow.lead } }

def execSnowCountMessage (die : Nat) (s : State) : Host.Outcome State Fault Refusal :=
  act (fun s => if s.coreStopped die then s else s.tellLead die) s

/-- A read in a drain that no command brings the errors of: they are a free value (log 162). -/
def State.drainDecode (s : State) (c : LineCell) : ReadOut × State :=
  ({ s with freeCount := s.freeCount + 1 }).decodeLine c (Config.drainErrs s.freeCount)

/-- The second read of a partial write in a drain (04 R102, Table 04.4). -/
def State.drainRetry (s : State) (sc : Nat) (q : Req) : State :=
  let r := s.physOf q.dpa
  let v := s.drainDecode (s.cell q.dpa)
  match v.1 with
  | .clean x | .corrected x _ => (v.2.countRetry r (s.place q.dpa).off).endPartial sc q (some x)
  | .poison => (v.2.countPoison r).endPartial sc q (some .poison)
  | .uncorrectable => (v.2.confirmUe q.dpa r).endPartial sc q none

/-- A partial write of a drained queue (04 Table 04.4). -/
def State.drainPartial (s : State) (sc : Nat) (q : Req) : State :=
  let r := s.physOf q.dpa
  let v := s.drainDecode (s.cell q.dpa)
  if (s.chan sc).issued.any fun i => i.retry && decide (i.req.id = q.id) then s.drainRetry sc q
  else
    match v.1 with
    | .clean x => v.2.endPartial sc q (some x)
    | .corrected x p =>
      ((v.2.countCe r (s.place q.dpa).off p).report (dieOfRank r) cCorrected 0 0 [q.dpa, p]).endPartial sc q (some x)
    | .poison => (v.2.countPoison r).endPartial sc q (some .poison)
    | .uncorrectable => v.2.drainRetry sc q

/-- Everything a write queue holds is carried to DRAM, its notices applied (07 R154, 09 R218). -/
def State.drainWrites (s : State) : State :=
  let ns := s.shadow.notices.filter fun n => !n.applied
  let s := ns.foldl (fun t n => t.applyNotice n) s
  let s : State := { s with shadow := { s.shadow with notices := [] } }
  (s.dram.chans.map (·.1)).foldl (fun t sc =>
    let ws := (t.chan sc).writes
    let t := ws.foldl (fun t q =>
      match q.op with
      | .partialWrite => t.drainPartial sc q
      | _ => t.burst q) t
    let t := ws.foldl (fun t q => t.respCmp q) t
    t.setChan sc { t.chan sc with
      writes := [], batch := false,
      issued := (t.chan sc).issued.filter fun i => decide (i.req.op = .read) }) s

/-- Accepted writes that are on a link or held at their ingress die (02 R44, 09 R216). -/
def State.writesUnderWay (s : State) : List Req :=
  (s.hosts.flits.filterMap fun f =>
    match f.body with
    | .request q => if q.op.writes then some q else none
    | _ => none) ++ s.hosts.routeHolds.flatMap fun h => h.held.filter fun q => q.op.writes

/-- A write on a link reaches its owning die (02 R44, 09 R218). -/
def State.landWrite (s : State) (q : Req) : State :=
  if s.reachable (dieOfPort q.port) (s.place q.dpa).die then (s.wakeLine q.dpa).accessFlake q else s.unreachable q

/-- Every accepted write that is under way reaches its queue; what else waits at a link stays (02 R44, 09 R218). -/
def State.landWrites (s : State) : State :=
  let stays := fun f : Flit => match f.body with
    | .request q => !q.op.writes
    | _ => true
  s.writesUnderWay.foldl (fun t q => t.landWrite q)
    { s with hosts := { s.hosts with
        flits := s.hosts.flits.filter stays
        routeHolds := s.hosts.routeHolds.map fun (h : RouteHold) =>
          { h with held := h.held.filter fun q => !q.op.writes } } }

/-- The flake has its data in DRAM (09 R232). -/
def State.hasData (s : State) (m : Nat) : Bool :=
  let c := s.firn m
  decide (c ≤ 3) || decide (c = fVolatile) || s.freeze.filled.elem m

/-- Home flakes of a home drift. -/
def State.driftFlakes (s : State) (j : Nat) : List Nat :=
  (List.range 128).map fun i => s.flakeAt (dieOfDrift j) (j / 8 * 128 + i)

/-- Patrol scrub of a quadrant's channels restarts at offset 0, where no thaw mark that its hibernation cleared is left
(04 R110, 10 Table 10.6 step 5). -/
def State.restartPatrol (s : State) (d q : Nat) : State :=
  if (s.quad d q).unmarked.isEmpty then
    [8 * d + 2 * q, 8 * d + 2 * q + 1].foldl (fun t g => t.setScrub g { noScrub with start := t.aon.now }) s
  else s

/-- A drift's mark is set: quadrants whose last it was among those that their hibernation cleared are patrolled again
(10 Table 10.6 step 5). -/
def State.remarked (s : State) (j : Nat) : State :=
  let ended := s.dram.quads.filter fun e => decide (e.2.unmarked = [j]) && decide (e.2.st < 3)
  let s : State := { s with dram := { s.dram with
    quads := s.dram.quads.map fun e => (e.1, { e.2 with unmarked := without j e.2.unmarked }) } }
  ended.foldl (fun t e => t.restartPatrol (e.1 / 4) (e.1 % 4)) s

/-- The mark of a drift is set once each of its flakes has its data (09 R232). -/
def State.settleMark (s : State) (j : Nat) : State :=
  let l := s.driftFlakes j
  if !s.mark j && l.all s.hasData then
    let s := s.setMark j true
    { s with freeze := { s.freeze with filled := s.freeze.filled.filter fun m => !l.elem m } }.remarked j
  else s

/-- Requests that wait for a flake are served in arrival order (09 R237). -/
def State.serveWaiting (s : State) (m : Nat) : State :=
  let here := fun q : Req => decide (flakeOf q.dpa = m)
  let l := s.freeze.fetchWait.filter here
  let s : State := { s with freeze := { s.freeze with fetchWait := s.freeze.fetchWait.filter fun q => !here q } }
  l.foldl (fun t q => t.admitOrHold q) s

end Sys2Proof.Machine
end

