-- ==== Sys2Proof/Machine/Training.lean ====
section
/-! DEFINITION. Start-up training of DRAM and flash, the population record, drift tracking and the
recalibration in slices (05, 08 R184–R186). -/
namespace Sys2Proof.Machine

/-- Some tenancy is LIVE or FENCED (05 R119); every tenancy is FREE. -/
def State.anyOpen (s : State) : Bool := s.ten.table.any fun e => e.2.open_
def State.allFree (s : State) : Bool := s.ten.table.all fun e => decide (e.2.st = 0)

/-- Channels of a quadrant (01 R21). -/
def chansOf (d q : Nat) : List Nat := [8 * d + 2 * q, 8 * d + 2 * q + 1]

/-- A device is soldered on some rank position of a channel. -/
def State.soldered (s : State) (g : Nat) : Bool :=
  (look? s.build.ranks (2 * g)).isSome || (look? s.build.ranks (2 * g + 1)).isSome

/-- The least rate limit of some channels; 0 with none (04 R83). -/
def State.leastRate (s : State) : List Nat → Nat
  | [] => 0
  | g :: gs => gs.foldl (fun m c => min m (s.rateLimit c)) (s.rateLimit g)

/-- Rate in force of a quadrant before its ranks are known (04 R83). -/
def State.startRate (s : State) (d q : Nat) : Nat := s.leastRate ((chansOf d q).filter s.soldered)

/-- The sweep's codes from i on: length and first code of the widest passing run, the first of equal ones.
A code passes when all 16 bursts matched (05 R117). -/
def scanRuns : Sweep → Nat → Nat → Nat → Nat → Nat × Nat
  | [], _, _, best, bstart => (best, bstart)
  | b :: l, i, run, best, bstart =>
    if b = 16 then
      if best < run + 1 then scanRuns l (i + 1) (run + 1) (run + 1) (i - run)
      else scanRuns l (i + 1) (run + 1) best bstart
    else scanRuns l (i + 1) 0 best bstart

/-- The widest passing run of a sweep, where it meets the minimum: first code and length (05 R117). -/
def widestRun (minimum : Nat) (l : Sweep) : Option (Nat × Nat) :=
  let x := scanRuns l 0 0 0 0
  if x.1 < minimum then none else some (x.2, x.1)

/-- Minima of a delay sweep and of a reference sweep in codes (05 R118). -/
def delayMinimum : Nat := 16
def refMinimum : Nat := 10

/-- Centre of a run; ties resolve to the lower code (05 R117). -/
def centreOf (x : Nat × Nat) : Nat := x.1 + (x.2 - 1) / 2

/-- What sets one side of a nibble: its codes, its eye width, and the ends of the delay run
(05 R117, R118, R122). -/
structure EyeFound where
  delay : Nat
  ref : Nat
  width : Nat
  lo : Nat
  hi : Nat
  deriving DecidableEq, Repr

/-- The eye that a delay run and a reference run make. Its width is that of the narrower run in its own steps, as R118 has
the narrowest run of the sweeps, though the two step sizes differ and .04 is named in delay steps (DEDUCED, log 171). -/
def eyeOf (d r : Nat × Nat) : EyeFound :=
  { delay := centreOf d, ref := centreOf r, width := min d.2 r.2, lo := d.1, hi := d.1 + d.2 - 1 }

/-- The three passes of one side: all must meet their minimum; pass 3 and pass 2 set the codes (05 R117). -/
def eyesFound (e : EyeSweeps) : Option EyeFound :=
  match widestRun delayMinimum e.delay1, widestRun refMinimum e.ref, widestRun delayMinimum e.delay3 with
  | some _, some r, some d => some (eyeOf d r)
  | _, _, _ => none

/-- All of a list, or the place of the first that is missing: where several nibbles fail, the lowest is the one that the
Failure record names (05 R127; DESIGN CHOICE, log 172). -/
def allOf {α : Type} : List (Option α) → Except Nat (List α)
  | [] => .ok []
  | none :: _ => .error 0
  | some a :: l =>
    match allOf l with
    | .ok x => .ok (a :: x)
    | .error n => .error (n + 1)

/-- What a rank that trains is left with: both sides of nibbles 0–19 and the oscillator baseline. -/
structure Trained where
  dev : RankDev
  read : List EyeFound
  write : List EyeFound
  osc : List Nat
  deriving DecidableEq, Repr

/-- Density and stack height that an attempt has fixed (05 Table 05.2, step 3). -/
def attemptDev : Attempt → Option RankDev
  | .silent | .unidentified => none
  | .levellingFails density stack | .gateFails density stack | .swept density stack _ _ _ =>
    some { density, stack }

/-- An attempt trains the rank, or fails with the reason of G+1+k.08 (05 Table 05.2, R117, R118). The list of reasons has
none for a failed step 3, which gives 6 (R131; DESIGN CHOICE, log 173). -/
def attemptOutcome : Attempt → Except Nat Trained
  | .silent => .error 1
  | .unidentified => .error 6
  | .levellingFails _ _ => .error 2
  | .gateFails _ _ => .error 3
  | .swept density stack nibbles verified osc =>
    match allOf (nibbles.map fun x => eyesFound x.read), allOf (nibbles.map fun x => eyesFound x.write) with
    | .error _, _ => .error 4
    | .ok _, .error _ => .error 5
    | .ok r, .ok w =>
      if verified then .ok { dev := { density, stack }, read := r, write := w, osc } else .error 7

/-- A rank position after its training, with one retry from step 2 (05 R119). -/
def trainOutcome (x : RankTrain) : Except Nat Trained :=
  match attemptOutcome x.first with
  | .ok t => .ok t
  | .error _ => attemptOutcome x.again

/-- Density and stack height of a rank position that responded, where a run fixed them. -/
def trainDev (x : RankTrain) : Option RankDev :=
  match attemptOutcome x.first with
  | .ok t => some t.dev
  | .error _ => (attemptDev x.again).or (attemptDev x.first)

/-- Silent at step 2 (05 R119). -/
def startsSilent (x : RankTrain) : Bool := decide (x.first = .silent)

/-- Nothing soldered answers. -/
def silentTrain : RankTrain := { first := .silent, again := .silent }

/-- Replace the half of a 40-byte object that one side fills: nibbles 0–19 of read, then of write
(05 Table 05.4). -/
def putHalf (b : Bytes) (write : Bool) (l : List Nat) : Bytes :=
  let b := if b.length = 40 then b else List.replicate 40 0
  let h : Bytes := l.map (BitVec.ofNat 8)
  if write then b.take 20 ++ h else h ++ b.drop 20

/-- New settings of one side of a rank apply to all its nibbles at once (05 R124, Table 05.4). -/
def State.putSide (s : State) (r : Nat) (write : Bool) (l : List EyeFound) : State :=
  let i := ixTrainRank r
  let s := s.setDom i 2 (putHalf (s.dom i 2) write (l.map (·.delay)))
  let s := s.setDom i 3 (putHalf (s.dom i 3) write (l.map (·.ref)))
  let s := s.setDom i 4 (putHalf (s.dom i 4) write (l.map (·.width)))
  if write then s else s.setRank r { s.rank r with edges := l.map fun e => (e.lo, e.hi) }

/-- A calibration of a rank has completed: narrowest eye, drift, time, and the oscillator baseline
(05 R118, R121, Table 05.4). -/
def State.calibrated (s : State) (r : Nat) (osc : List Nat) : State :=
  let i := ixTrainRank r
  let s := s.setReg i 5 (((s.dom i 4).map (·.toNat)).foldl min 128)
  let s := ((s.setReg i 6 0).setReg i 7 s.aon.deviceTime).setReg i 8 0
  s.setRank r { s.rank r with base := osc }

/-- Both sides of a rank are set by training, and its checks run from now (05 Table 05.2 step 9). -/
def State.publish (s : State) (r : Nat) (t : Trained) : State :=
  let s := (((s.putSide r false t.read).putSide r true t.write).calibrated r t.osc)
  s.setRank r { s.rank r with
    oscAt := s.aon.now, probeAt := s.aon.now, oscDue := none, probeDue := none }

/-- The place in the map of a rank that does not serve: what the population record gives it, and while no
tenancy is LIVE or FENCED what it responded with (05 R119); one that has neither has density and stack height 0
(DESIGN CHOICE, log 125). -/
def State.placeOf (s : State) (r : Nat) (dev : Option RankDev) : RankDev :=
  let p := look? s.dram.population r
  ((if s.anyOpen then p else dev.or p)).getD { density := 0, stack := 0 }

/-- A rank takes the state that training gives it; a change of its state is stamped (10 Table 10.7 .07). -/
def State.landRank (s : State) (r : Nat) (k : Rank) : State :=
  let t := s.setRank r k
  if k.st = (s.rank r).st then t else t.setReg (0x6920 + r) 7 s.aon.deviceTime

/-- A spare: a position named in 0x2810+d.01, or one whose own data another rank carries since a clear has swapped
their roles (10 R244, R262). -/
def State.sparePlace (s : State) (r : Nat) : Bool :=
  s.isSpare r ||
    (match s.redirectOf r with
     | some d => d.complete && decide (d.carrier ≠ r)
     | none => false)

/-- State of a rank position after its training: what the redirection entries hold stands (10 R243), and `st` is where
they hold nothing. -/
def Rank.landed (k : Rank) (st : Nat) : Nat := if 5 ≤ k.st then k.st else st

/-- A rank fails its training: it keeps its place in the map (05 R119). -/
def State.trainFail (s : State) (r reason : Nat) (dev : Option RankDev) : State :=
  let p := s.placeOf r dev
  let k := s.rank r
  let s := s.landRank r { k with
    train := 3, trained := false, density := p.density, stack := p.stack
    st := k.landed (if p.density = 0 then 0 else if s.sparePlace r then 3 else 1) }
  (s.setReg (ixTrainRank r) 8 reason).report (dieOfRank r) cRankFailed 2 0 [r, reason]

/-- A quadrant has no power, or no clock, in state 9: it takes no part in training. A recorded rank of it fails, and R131
names no reason for it: it shows 6 (DESIGN CHOICE, log 128). -/
def State.quadUnfed (s : State) (d q : Nat) : State :=
  let s := s.setQuad d q { noQuad with st := 4 }
  (((List.range 4).map fun i => 16 * d + 4 * q + i).filter fun r =>
    (look? s.dram.population r).isSome).foldl (fun t r => t.trainFail r 6 none) s

/-- 10 R262: a rank that trains and whose clear bit is set leaves retirement. -/
def State.clearRank (s : State) (r : Nat) : State :=
  let i := 0x6910 + dieOfRank r
  if !bitOf (s.reg i 8) (r % 16) then s
  else
    let s := s.setReg i 8 (setBitOf (s.reg i 8) (r % 16) false)
    let st := (s.rank r).st
    if st = 8 ∨ st = 10 then (s.setRankSt r 3).setReason r 0
    else if st = 9 then
      (s.setRankSt r (if s.logicalOf r = r then 1 else 5)).setReason r 0
    else s

/-- A rank trains at a density and height (05 R119). It is held while a tenancy is LIVE or FENCED, as the population
record goes; Table 05.3 adopts it once every tenancy is FREE, and one that is RETIRING stands between the two
(DESIGN CHOICE, log 174). -/
def State.trainPass (s : State) (r : Nat) (t : Trained) : State :=
  let k := s.rank r
  if s.anyOpen = true ∧ look? s.dram.population r ≠ some t.dev then
    let p := s.placeOf r (some t.dev)
    (s.landRank r { k with
      train := 2, st := k.landed 2, trained := false, density := p.density, stack := p.stack }).report
      (dieOfRank r) cRankHeld 1 0 [r]
  else
    let s := s.landRank r { k with
      train := 1, trained := true, density := t.dev.density, stack := t.dev.stack,
      st := k.landed (if s.sparePlace r then 3 else 1) }
    (s.publish r t).clearRank r

/-- One rank position at the end of start-up training (05 Table 05.3). One that is absent from the record, responds and
then fails under a LIVE or FENCED tenancy fits the rows held and failed alike, and counts as failed (DESIGN CHOICE,
log 175). -/
def State.trainOne (s : State) (r : Nat) (x : RankTrain) : State :=
  if startsSilent x && (look? s.dram.population r).isNone then
    let k := s.rank r
    s.landRank r { k with train := 0, st := k.landed 0, trained := false, density := 0, stack := 0 }
  else
    match trainOutcome x with
    | .ok t => s.trainPass r t
    | .error reason => s.trainFail r reason (trainDev x)

/-- The population record after a training while no tenancy is LIVE or FENCED: the positions that
responded, with their density and stack height. A recorded rank that is silent has failed by the old
record before it leaves it: R119 does not say which comes first (05 R119; DESIGN CHOICE, log 125). -/
def State.recordPopulation (s : State) (r : Nat) (x : RankTrain) : State :=
  if s.anyOpen then s
  else
    match trainDev x with
    | some dev => { s with dram := { s.dram with population := insertK s.dram.population r dev } }
    | none =>
      if x.first = .silent ∧ x.again = .silent then
        { s with dram := { s.dram with population := eraseK s.dram.population r } }
      else s

/-- Ranks of a quadrant with what each came to. -/
def trainPairs {α : Type} (d q : Nat) (res : List α) : List (Nat × α) := (ranksOf d q).zip res

/-- The two ranks of a channel respond with unequal density or stack height, which Table 04.1 bars
(04 R82). -/
def mixedPair (a b : RankTrain) : Bool :=
  match trainDev a, trainDev b with
  | some x, some y => decide (x ≠ y)
  | _, _ => false

/-- A channel of mixed ranks is left unpopulated, where no tenancy that is LIVE or FENCED holds it to the
record (04 R82, log 129): its ranks count as absent. -/
def State.barMixed (s : State) : List RankTrain → List RankTrain
  | a :: b :: l =>
    (if mixedPair a b && !s.anyOpen then [silentTrain, silentTrain] else [a, b]) ++ State.barMixed s l
  | l => l

/-- Mixed ranks leave the population record, so that they count as absent (04 R82). -/
def State.forgetMixed (s : State) (d q : Nat) (res : List RankTrain) : State :=
  (trainPairs d q (res.zip (s.barMixed res))).foldl (fun t e =>
    if e.2.1 ≠ e.2.2 then { t with dram := { t.dram with population := eraseK t.dram.population e.1 } }
    else t) s

/-- 05 R120: a failed rank whose channel allowed fallback at the package reset makes the quadrant lower its
rate; once it has, only a rank that responds does. -/
def State.fallsBack (s : State) (d q : Nat) (res : List RankTrain) : Bool :=
  let x := s.quad d q
  decide (4800 < x.rate) && (trainPairs d q res).any fun e =>
    s.dram.fallback.elem (e.1 / 2) &&
      (match trainOutcome e.2 with
       | .ok _ => false
       | .error _ => if startsSilent e.2 then !x.lowered && (look? s.dram.population e.1).isSome else true)

/-- The quadrant has finished training or cannot take part (05 R116). -/
def State.quadDone (s : State) (d q : Nat) : Bool :=
  (s.quad d q).trained || decide ((s.quad d q).st = 4)

/-- A die releases SEQSYNC for the state (12 R284). -/
def State.releaseDie (s : State) (d : Nat) : State :=
  { s with seq := { s.seq with holds := without d s.seq.holds } }

/-- A rank of a die that failed training is treated as a retired rank, spares first (05 R119, 10 R261). State 10 does so,
once the population of every die and with it the address map is known. -/
def State.retireFailed (s : State) (d : Nat) : State :=
  let bad := (List.range 16).filterMap fun i =>
    let r := 16 * d + i
    if (s.rank r).train = 3 ∧ s.capOf r ≠ 0 then some r else none
  let l := bad.filter (fun r => s.isSpare r) ++ bad.filter fun r => !s.isSpare r
  l.foldl (fun t r =>
    t.retireRank r (if (t.quad d (quadOfRank r)).st = 4 then 6 else 4)) s

/-- A rank of the channel is in service (04 R83). -/
def State.chanServes (s : State) (g : Nat) : Bool :=
  (s.rank (2 * g)).serves || (s.rank (2 * g + 1)).serves

/-- The NAND of a channel is one of Table 08.1 (08 R184). -/
def NandDev.supported (n : NandDev) : Bool :=
  n.nvLpddr4 && decide (800 ≤ n.mts) && decide (n.width = 8) && (decide (n.bits = 3) || decide (n.bits = 4)) &&
    n.oneShot && n.ops && decide (n.dataBytes = flakeBytes) && decide (1840 ≤ n.spareBytes) &&
    decide (n.tProg ≤ 1120) && decide (n.tRead ≤ 50) && decide (n.tSuspend ≤ 200) &&
    (decide (n.planes = 2) || decide (n.planes = 4)) && decide (n.blocksPerPlane ≤ 65536) &&
    decide (n.pagesPerBlock ≤ 4096) && decide (1 ≤ n.ces) && decide (n.ces ≤ 8) &&
    decide (1 ≤ n.lunsPerCe) && decide (n.lunsPerCe ≤ 4) && decide (64 ≤ n.suspendLimit)

/-- Block number as a page address holds it, from LUN within the channel and plane x blocks +
block (08 Table 08.2). -/
def blkAddr (nd : NandDev) (f lun b : Nat) : Nat :=
  2 ^ 27 + f * 2 ^ 23 + lun / 4 * 2 ^ 20 + lun % 4 * 2 ^ 18 + b / nd.blocksPerPlane * 2 ^ 16 +
    b % nd.blocksPerPlane

/-- Enter a block on a die's moraine list (08 R196). -/
def State.addMoraine (s : State) (d b reason : Nat) : State :=
  let x := s.die d
  if x.moraine.any fun m => decide (m.blk = b) then s
  else
    s.setDie d { x with
      moraine := if x.moraine.length < moraineTop then
          x.moraine ++ [{ blk := b, reason := reason, time := s.aon.deviceTime }] else x.moraine
      blocks := put 0 x.blocks b 5 }

/-- 08 R196: the factory marks of a channel at first glacier initialisation. -/
def State.addFactory (s : State) (d f : Nat) (nd : NandDev) : State :=
  nd.factoryBad.foldl (fun t b => t.addMoraine d (blkAddr nd f b.1 b.2) 1) s

/-- What the glacier record keeps of a device (08 R185). -/
def NandDev.record (n : NandDev) : GlacierRec :=
  { onfiId := n.onfiId, planes := n.planes, blocksPerPlane := n.blocksPerPlane, pagesPerBlock := n.pagesPerBlock }

/-- State of a flash channel after identification and interface training (08 R184, R185). -/
def State.flashOutcome (s : State) (d f : Nat) : Nat :=
  match s.nandOf d f, s.nandOf 0 0 with
  | none, _ => 0
  | some nd, ref =>
    if !nd.supported then 2
    else if !nd.trains then 3
    else if (match ref with | some r => decide (r.record ≠ nd.record) | none => true) then 2
    else
      match s.shadow.glacier with
      | some g => if g ≠ nd.record ∧ s.allFree = false then 2 else 1
      | none => 1

/-- All blocks of a LUN, as block numbers (08 Table 08.2). -/
def State.blocksOf (s : State) (d l : Nat) : List Nat :=
  match s.nandOf d (l / 32) with
  | some nd => (List.range (nd.planes * nd.blocksPerPlane)).map (blkAddr nd (l / 32) (l % 32))
  | none => []

/-- 12 R294, 14 R326: the LUNs of a channel whose rails have failed, or the die's NFCLK PLL, count as failed LUNs
(08 R209). -/
def State.channelLost (s : State) (d f : Nat) : State :=
  let l := match s.nandOf d f with
    | some nd => lunsOfNand f nd
    | none => []
  let s := l.foldl (fun (t : State) x =>
    let t := t.setLun d x { t.lunOf d x with failed := true, openData := none, openMap := none }
    let t := (t.blocksOf d x).foldl (fun (u : State) b => u.addMoraine d b 5) t
    let y := t.die d
    (t.setDie d { y with pages := y.pages.filter fun e => !decide (lunOfBlk (blkOfPage e.1) = x) }).report d
      cLunFailed 2 0 [d, x]) s
  s.setReg (ixFlash d f) 1 4

/-- The flash channels of a die train in state 9 (08 R184–R186). -/
def State.trainFlash (s : State) (d : Nat) : State :=
  (List.range 16).foldl (fun t f =>
    let o := t.flashOutcome d f
    let differs := match t.nandOf d f, t.nandOf 0 0 with
      | some a, some b => decide (a.record ≠ b.record)
      | _, _ => false
    let t := t.setReg (ixFlash d f) 1 o
    let t := if differs then t.report d cFlashDiffers 1 0 [d, f] else t
    let t := match t.nandOf d f with
      | some nd => if o = 1 ∧ t.shadow.glacier.isNone = true then t.addFactory d f nd else t
      | none => t
    if o = 1 ∧ (t.activeLuns d f).isEmpty = true then t.setReg (ixFlash d f) 1 4
    else if o = 1 ∧ (t.domainOn d (17 + f / 4) = false ∨ (t.clk d).failed.elem 10 = true) then t.channelLost d f
    else t) s

/-- The glacier record of die 0's ledger at its first initialisation or adoption (08 R185). -/
def State.recordGlacier (s : State) : State :=
  match s.nandOf 0 0 with
  | some nd =>
    if s.shadow.glacier.isNone || s.allFree then
      { s with shadow := { s.shadow with glacier := some nd.record } }
    else s
  | none => s

/-- 03 Table 03.2: spare positions of a die: those named that are populated; with the default and local
rank 15 unpopulated, the highest populated one. -/
def State.spareWanted (s : State) (d : Nat) : List Nat :=
  let v := s.reg (0x2810 + d) 1
  let pop := (List.range 16).filter fun i => decide (s.capOf (16 * d + i) ≠ 0)
  if v = 0x8000 ∧ pop.elem 15 = false then pop.reverse.take 1 else pop.filter (bitOf v)

/-- The spare positions of a die are placed once its population is known (03 R62, 10 R244). -/
def State.placeSpares (s : State) (d : Nat) : State :=
  let l := s.spareWanted d
  let m := l.foldl (fun m i => m + 2 ^ i) 0
  let s : State := { s with dram := { s.dram with spareMask := put 0 s.dram.spareMask d m } }
  l.foldl (fun t i => if (t.rank (16 * d + i)).st = 1 then t.setRankSt (16 * d + i) 3 else t) s

/-- Every quadrant of a die has finished: its spares are placed, the flash is trained and the die releases SEQSYNC
(05 R116). The last die writes the glacier record. -/
def State.finishTraining (s : State) (d : Nat) : State :=
  if s.seq.st = 9 ∧ s.seq.holds.elem d = true ∧ (List.range 4).all (s.quadDone d) = true then
    let s := ((s.placeSpares d).trainFlash d).releaseDie d
    if s.seq.holds.isEmpty then s.recordGlacier else s
  else s

/-- A quadrant's training is over: the rate in force is the one it was lowered to, or the least limit of
its channels with a rank in service (04 R83, 05 R120). -/
def State.endTraining (s : State) (d q : Nat) : State :=
  let x := s.quad d q
  let rate := if x.lowered then x.rate else s.leastRate ((chansOf d q).filter s.chanServes)
  (s.setQuad d q { x with st := 0, rate := rate, trained := true }).finishTraining d

/-- Start-up training of a quadrant ends with these outcomes (05 R119, R120). -/
def State.startTraining (s : State) (d q : Nat) (res : List RankTrain) : State :=
  let all := res
  let res := s.barMixed res
  let x := s.quad d q
  if s.fallsBack d q res then
    (s.setQuad d q { x with rate := x.rate - 400, lowered := true }).report d cRateLowered 1 0
      [d, q, x.rate - 400]
  else
    let s := s.forgetMixed d q all
    let s := (trainPairs d q res).foldl (fun t e => t.trainOne e.1 e.2) s
    let s := (trainPairs d q res).foldl (fun t e => t.recordPopulation e.1 e.2) s
    s.endTraining d q

/-- Requests that wait for flakes of a quadrant start their fetches (10 Table 10.6 step 4). -/
def State.fetchWaiting (s : State) : State :=
  s.freeze.fetchWait.foldl (fun t q =>
    let m := flakeOf q.dpa
    if t.firn m = fUnrestored ∧ t.flakeAwake m = true then t.beginFetch m true else t) s

/-- A rank that returns unlike the population record, or one that was held before, is held: it is not used
(05 Table 05.3, R130; with no tenancy LIVE or FENCED no row of the table holds, DESIGN CHOICE, log 169). -/
def State.holdRank (s : State) (r : Nat) : State :=
  let k := s.rank r
  (s.landRank r { k with
    train := 2, trained := false
    st := if k.st = 1 ∨ k.st = 3 then 2 else k.st }).report (dieOfRank r) cRankHeld 1 0 [r]

/-- One rank of a quadrant that returns (05 R130): it serves as it trained, is held where it is not what the record
names, or fails with a reason of G+1+k.08. -/
def State.returnOne (s : State) (r : Nat) (x : RankTrain) : State :=
  let k := s.rank r
  if s.capOf r = 0 then s
  else
    match trainOutcome x with
    | .ok t =>
      if k.train = 2 then s
      else if k.density = t.dev.density ∧ k.stack = t.dev.stack then (s.setRank r { k with train := 1 }).publish r t
      else s.holdRank r
    | .error reason =>
      ((s.setRank r { k with train := 3 }).setReg (ixTrainRank r) 8 reason).report (dieOfRank r) cRankFailed 2 0 [r, reason]

/-- Ranks of a quadrant by number, spares first. -/
def State.sparesFirst (s : State) (l : List Nat) : List Nat := (l.filter s.isSpare) ++ l.filter fun r => !s.isSpare r

/-- 10 R259: where a rank of a returning quadrant has failed its training, every rank of the quadrant is retired with
reason 7, the spares first. Those of a quadrant that went with its rails have been, and keep their states (R261). -/
def State.retireReturned (s : State) (d q : Nat) : State :=
  let l := (ranksOf d q).filter fun r => decide (s.capOf r ≠ 0)
  if (l.any fun r => decide ((s.rank r).train = 3) && decide ((s.rank r).st < 8)) = true then
    (s.sparesFirst (l.filter fun r => decide ((s.rank r).train ≠ 2))).foldl (fun t r => t.retireRank r 7) s
  else s

/-- A returning quadrant enters Run: a spare of it is initialised again, for its lines are not trusted (10 R260), and what
waits for its flakes goes on (Table 10.6 step 4). Patrol scrub of its channels restarts at offset 0 once the thaw marks of
its drifts are set (step 5). -/
def State.endReturn (s : State) (d q : Nat) : State :=
  let s := s.retireReturned d q
  let s := s.setQuad d q { s.quad d q with st := 0, trained := true, returning := false }
  let s := (ranksOf d q).foldl (fun t r =>
    if (t.rank r).st = 3 then t.setRank r { t.rank r with initPass := false } else t) s
  (s.restartPatrol d q).fetchWaiting

/-- A quadrant trains again on its return, its domain on (05 R130). -/
def State.trainsAgain (s : State) (d q : Nat) : Bool :=
  (s.quad d q).returning && decide (10 ≤ s.seq.st) && decide (s.seq.st ≤ 12) && s.domainOn d (13 + q)

/-- TRAINING_DONE: a quadrant finishes start-up training, or the training of its return; it waits while its clock is
stopped (14 R326). -/
def execTrainingDone (die q : Nat) (res : List RankTrain) (s : State) :
    Host.Outcome State Fault Refusal :=
  act (fun s =>
    if s.pllOut die (6 + q) then s
    else if s.seq.st = 9 ∧ s.quadDone die q = false ∧ die < s.n then s.startTraining die q res
    else if s.trainsAgain die q then
      ((trainPairs die q res).foldl (fun t e => t.returnOne e.1 e.2) s).endReturn die q
    else s) s

/-- A rank position at the time limit: one that has not finished fails, and without devices it was silent
at step 2 (05 R119). -/
def State.trainLate (s : State) (r : Nat) (x : Option RankTrain) : State :=
  match x with
  | some x => (s.trainOne r x).recordPopulation r x
  | none =>
    if (look? s.build.ranks r).isNone then s.trainOne r silentTrain else s.trainFail r 8 none

/-- A rank position of a returning quadrant at the time limit (05 R130). -/
def State.returnLate (s : State) (r : Nat) (x : Option RankTrain) : State :=
  match x with
  | some x => s.returnOne r x
  | none =>
    if s.capOf r = 0 then s
    else
      ((s.setRank r { s.rank r with train := 3 }).setReg (ixTrainRank r) 8 8).report (dieOfRank r) cRankFailed 2 0 [r, 8]

/-- What the positions of a quadrant came to by the time limit, a channel of mixed ranks counting as absent (04 R82). -/
def State.barLate (s : State) (res : List (Option RankTrain)) : List (Option RankTrain) :=
  (res.zip (s.barMixed (res.map fun x => x.getD silentTrain))).map fun e => e.1.map fun _ => e.2

/-- TRAINING_TIME_LIMIT: the quadrant has reached 250 ms, or 40 ms on its return, and its ranks that have
not trained fail (05 R116, R119, R130). -/
def execTrainingTimeLimit (quad : Nat) (res : List (Option RankTrain)) (s : State) :
    Host.Outcome State Fault Refusal :=
  act (fun s =>
    let die := quad / 4
    let q := quad % 4
    if s.seq.st = 9 ∧ s.quadDone die q = false ∧ die < s.n then
      let late := s.barLate res
      let s := s.forgetMixed die q (res.map fun x => x.getD silentTrain)
      ((trainPairs die q late).foldl (fun t e => t.trainLate e.1 e.2) s).endTraining die q
    else if s.trainsAgain die q then
      ((trainPairs die q res).foldl (fun t e => t.returnLate e.1 e.2) s).endReturn die q
    else s) s

/-- A rank is measured: in service or spare, its quadrant in Run or Idle (05, Drift tracking). -/
def State.measured (s : State) (r : Nat) : Bool :=
  let k := s.rank r
  (decide (k.train = 1) || decide (k.train = 4)) && (decide (k.st = 1) || (decide (3 ≤ k.st) && decide (k.st ≤ 6))) &&
    decide ((s.quad (dieOfRank r) (quadOfRank r)).st ≤ 1)

/-- Start conditions of a slice or a check on a subchannel (05 R125, R126, 06 R144). -/
def State.maySlice (s : State) (sc : Nat) : Bool :=
  let c := s.chan sc
  s.quadRuns sc && ((c.reads ++ c.writes).all fun q => decide (q.cls ≠ 0)) && c.slice.isNone &&
    !c.holds c.afterSlice &&
    (s.dram.banks.all fun e => !(decide (e.1 / 512 = sc) && e.2.refreshing)) &&
    (match c.lastSlice with
     | none => true
     | some t => decide (s.reg (ixTrain (sc / 2)) 6 ≤ s.aon.now - t))

/-- The subchannel has nothing queued (05 R123). -/
def State.subIdle (s : State) (sc : Nat) : Bool :=
  (s.chan sc).reads.isEmpty && (s.chan sc).writes.isEmpty

/-- The subchannels of a rank. -/
def subsOfRank (r : Nat) : List Nat := [2 * (r / 2), 2 * (r / 2) + 1]

/-- A check of a rank can be issued: an idle slot and the conditions of a slice on both its subchannels. R123 speaks of one
subchannel, and a check measures all 20 nibbles: it takes both at once (DESIGN CHOICE, log 176). -/
def State.mayCheck (s : State) (r : Nat) : Bool :=
  (subsOfRank r).all fun sc => s.subIdle sc && s.maySlice sc

/-- A check that found no idle slot can be issued at P10 (05 R123). -/
def State.mayForce (s : State) (r : Nat) : Bool :=
  !(subsOfRank r).all s.subIdle && (subsOfRank r).all fun sc => s.maySlice sc && s.slotFree sc 10

/-- A check has used the buses of both subchannels: its end counts for the spacing (05 R123, R125). -/
def State.checked (s : State) (r : Nat) : State :=
  (subsOfRank r).foldl (fun t sc => t.setChan sc { t.chan sc with lastSlice := some t.aon.now }) s

/-- Slices of a recalibration per subchannel and side: 49 delay codes and 17 reference codes
(05 R124). -/
def sliceCount : Nat := 66

/-- A recalibration of one side of a rank begins; detections on a side that is being recalibrated
are ignored (05 R128). -/
def State.wantRecal (s : State) (r : Nat) (write : Bool) : State :=
  let k := s.rank r
  let k : Rank := if write then { k with wantWrite := true } else { k with wantRead := true }
  if (s.rank r).train = 1 then
    s.setRank r { k with train := 4, recalWrite := write, meas0 := [], meas1 := [] }
  else s.setRank r k

/-- A side that waits begins once the running recalibration has ended; where both wait the read side runs first, for R128
gives no order (DESIGN CHOICE, log 177). -/
def State.nextRecal (s : State) (r : Nat) : State :=
  let k := s.rank r
  if k.train = 1 ∧ (k.wantRead = true ∨ k.wantWrite = true) then
    s.setRank r { k with train := 4, recalWrite := !k.wantRead, meas0 := [], meas1 := [] }
  else s

/-- Quotient rounded to the nearest integer, halves away from zero (log 126). -/
def roundDiv (a : Int) (b : Nat) : Int :=
  if 0 ≤ a then ((2 * a.natAbs + b) / (2 * b) : Nat) else -((2 * a.natAbs + b) / (2 * b) : Nat)

/-- 05 R121 in delay steps: over 2,048 DRAM clocks, of two UI each, rt / (2 cnt) is 2,048 / cnt UI, or
131,072 / cnt steps of 1/64 UI, at any rate. -/
def countDrift (cnt base : Nat) : Int :=
  if cnt = 0 ∨ base = 0 then Config.driftUnstated cnt base
  else roundDiv (131072 * ((base : Int) - (cnt : Int))) (cnt * base)

/-- Drift of each nibble against the baseline of the last calibration (05 R121). -/
def State.drifts (s : State) (r : Nat) (counts : List Nat) : List Int :=
  (counts.zip (s.rank r).base).map fun e => countDrift e.1 e.2

/-- The drift of some nibble reaches the threshold (05 R121). -/
def State.driftsFar (s : State) (r : Nat) (counts : List Nat) : Bool :=
  (s.drifts r counts).any fun x => decide (s.reg (ixTrain (r / 2)) 5 ≤ x.natAbs)

/-- An oscillator readout of a rank: the largest drift since the last calibration is kept (05 G+1+k.06). -/
def State.noteDrift (s : State) (r : Nat) (counts : List Nat) : State :=
  let i := ixTrainRank r
  let worst := (s.drifts r counts).foldl (fun (m : Int) x => if m.natAbs < x.natAbs then x else m)
    (signed32 (s.reg i 6))
  (s.setReg i 6 (raw32 worst)).setRank r { s.rank r with oscAt := s.aon.now, oscDue := none }

/-- An oscillator check of a rank: a write-side recalibration is scheduled at the threshold (05 R121). -/
def State.oscillate (s : State) (r : Nat) (counts : List Nat) : State :=
  let t := (s.noteDrift r counts).checked r
  if s.driftsFar r counts then t.wantRecal r true else t

/-- The two probe codes of a nibble: the edges of its passing run moved inwards by the drift threshold, but
not out of it (05 R122, log 127). -/
def probeCodes (th : Nat) (e : Nat × Nat) : Nat × Nat := (min (e.1 + th) e.2, max (e.2 - th) e.1)

/-- Both probes of every nibble match (05 R122). -/
def State.probesMatch (s : State) (r : Nat) (codes : List Nat) : Bool :=
  ((s.rank r).edges.zip codes).all fun e =>
    let p := probeCodes (s.reg (ixTrain (r / 2)) 5) e.1
    bitOf e.2 p.1 && bitOf e.2 p.2

/-- An edge probe of a rank: a mismatch schedules a read-side recalibration (05 R122). -/
def State.probe (s : State) (r : Nat) (codes : List Nat) : State :=
  let t := (s.setRank r { s.rank r with probeAt := s.aon.now, probeDue := none }).checked r
  if s.probesMatch r codes then t else t.wantRecal r false

/-- So many intervals in µs have passed since a time. -/
def State.passed (s : State) (t k interval : Nat) : Bool := decide (1000 * interval * k ≤ s.aon.now - t)

/-- OSCILLATOR_CHECK: the interval has expired; the check is issued in an idle slot or waits for one
(05 R121, R123). -/
def execOscillatorCheck (rank : Nat) (counts : List Nat) (s : State) : Host.Outcome State Fault Refusal :=
  act (fun s =>
    let k := s.rank rank
    if s.measured rank && s.passed k.oscAt 1 (s.reg (ixTrain (rank / 2)) 3) then
      if s.mayCheck rank then s.oscillate rank counts
      else s.setRank rank { k with oscDue := some (k.oscDue.getD s.aon.now) }
    else s) s

/-- EDGE_PROBE: the interval has expired; the probes are issued in an idle slot or wait for one
(05 R122, R123). -/
def execEdgeProbe (rank : Nat) (codes : List Nat) (s : State) : Host.Outcome State Fault Refusal :=
  act (fun s =>
    let k := s.rank rank
    if s.measured rank && s.passed k.probeAt 1 (s.reg (ixTrain (rank / 2)) 4) then
      if s.mayCheck rank then s.probe rank codes
      else s.setRank rank { k with probeDue := some (k.probeDue.getD s.aon.now) }
    else s) s

/-- A check that waits, and has for 10 intervals (05 R123). -/
def State.overdue (s : State) (since : Option Nat) (interval : Nat) : Bool :=
  match since with
  | some t => s.passed t 10 interval
  | none => false

/-- CHECK_FORCED: a check that found no idle slot within 10 intervals is issued at P10 under the
start conditions of a slice (05 R123). -/
def execCheckForced (check : ForcedCheck) (s : State) : Host.Outcome State Fault Refusal :=
  act (fun s =>
    let rank := check.rank
    let k := s.rank rank
    let g := ixTrain (rank / 2)
    if s.measured rank && s.mayForce rank then
      match check.check with
      | .osc counts => if s.overdue k.oscDue (s.reg g 3) then s.oscillate rank counts else s
      | .probe codes => if s.overdue k.probeDue (s.reg g 4) then s.probe rank codes else s
    else s) s

/-- What the slices of a recalibration have measured on a subchannel. -/
def Rank.meas (k : Rank) (sc : Nat) : List Sweep := if sc % 2 = 0 then k.meas0 else k.meas1

/-- Slices left of a rank on a subchannel. -/
def Rank.slices (k : Rank) (sc : Nat) : Nat := sliceCount - (k.meas sc).length

/-- RECAL_SLICE: a slice of a running recalibration starts at P4; it precharges the rank (05 R125). -/
def execRecalSlice (sc rank : Nat) (s : State) : Host.Outcome State Fault Refusal :=
  act (fun s =>
    let k := s.rank rank
    if rank / 2 = sc / 2 ∧ k.train = 4 ∧ 0 < k.slices sc ∧ s.maySlice sc = true ∧ s.slotFree sc 4 = true
    then
      let s := s.setChan sc { s.chan sc with slice := some rank }
      { s with dram := { s.dram with
          banks := s.dram.banks.filterMap fun e =>
            if e.1 / 256 = 2 * sc + rank % 2 then
              let b := { e.2 with openRow := none, streak := 0 }
              if b = noBank then none else some (e.1, b)
            else some e } }
    else s) s

/-- A sweep around a code over ± half codes: a code outside 0 to top cannot pass (05 R124, log 127). -/
def aroundSweep (cur half top : Nat) (l : Sweep) : Sweep :=
  l.mapIdx fun i b => if half ≤ cur + i ∧ cur + i - half ≤ top then b else 0

/-- The eye of one nibble from a delay sweep and a reference sweep around the settings in force, by the
centre and minimum rules (05 R124). -/
def eyeAround (delay ref : Nat) (dl rl : Sweep) : Option EyeFound :=
  match widestRun delayMinimum (aroundSweep delay 24 127 dl), widestRun refMinimum (aroundSweep ref 8 125 rl) with
  | some d, some r => some (eyeOf (delay + d.1 - 24, d.2) (ref + r.1 - 8, r.2))
  | _, _ => none

/-- The code of a nibble of a side in one of a rank's objects (05 Table 05.4). -/
def State.trainedCode (s : State) (r sub : Nat) (write : Bool) (n : Nat) : Nat :=
  ((s.dom (ixTrainRank r) sub).getD (n + if write then 20 else 0) 0).toNat

/-- The new settings of a side from the sweeps of nibbles 0–19, or the first nibble that fails
(05 R124, R127). -/
def State.recalEyes (s : State) (r : Nat) (write : Bool) (delay ref : List Sweep) :
    Except Nat (List EyeFound) :=
  allOf ((List.range 20).map fun n =>
    eyeAround (s.trainedCode r 2 write n) (s.trainedCode r 3 write n) (delay.getD n []) (ref.getD n []))

/-- The sweep of a nibble of a subchannel, from what some slices measured. -/
def sweepOf (l : List Sweep) (n : Nat) : Sweep := l.map fun x => x.getD n 0

/-- Sweeps of nibbles 0–19 from some slices of both subchannels. -/
def sweepsOf (l0 l1 : List Sweep) : List Sweep :=
  (List.range 10).map (sweepOf l0) ++ (List.range 10).map (sweepOf l1)

/-- A recalibration of a side ends: the new settings apply to the whole rank, or the old ones stay and the
failure is recorded (05 R124, R127). -/
def State.recalOutcome (s : State) (r : Nat) (write : Bool) (delay ref : List Sweep) (osc : List Nat) : State :=
  match s.recalEyes r write delay ref with
  | .ok l => ((s.putSide r write l).calibrated r osc).inc (ixTrain (r / 2)) 7
  | .error n => (s.inc (ixTrain (r / 2)) 8).report (dieOfRank r) cRecalFailed 2 0 [r, n]

/-- The running recalibration of a rank has measured every code: 49 delay codes, then 17 reference codes on
each subchannel (05 R124). -/
def State.endRecal (s : State) (r : Nat) (osc : List Nat) : State :=
  let k := s.rank r
  let k' : Rank := if k.recalWrite then { k with wantWrite := false } else { k with wantRead := false }
  let s := s.setRank r { k' with train := 1, meas0 := [], meas1 := [] }
  (s.recalOutcome r k.recalWrite (sweepsOf (k.meas0.take 49) (k.meas1.take 49))
    (sweepsOf (k.meas0.drop 49) (k.meas1.drop 49)) osc).nextRecal r

/-- RECAL_SLICE_END: a slice ends; after the last one of both subchannels the recalibration ends
(05 R124–R127). -/
def execRecalSliceEnd (sc rank : Nat) (bursts osc : List Nat) (s : State) :
    Host.Outcome State Fault Refusal :=
  act (fun s =>
    let c := s.chan sc
    if c.slice = some rank then
      let s := s.setChan sc { c with slice := none, lastSlice := some s.aon.now }
      let k := s.rank rank
      if k.train ≠ 4 then s
      else
        let k : Rank := if sc % 2 = 0 then { k with meas0 := k.meas0 ++ [bursts] }
          else { k with meas1 := k.meas1 ++ [bursts] }
        let s := s.setRank rank k
        if k.slices 0 = 0 ∧ k.slices 1 = 0 then s.endRecal rank osc else s
    else s) s

/-- A freeze abandons running recalibrations; old settings stay in force (05 R128). -/
def State.abandonRecals (s : State) : State :=
  s.rankList.foldl (fun t r =>
    let k := t.rank r
    if k.train = 4 then
      t.setRank r { k with train := 1, meas0 := [], meas1 := [], wantRead := false, wantWrite := false }
    else t) s

/-- The check of a rank at Idle-Deep exit: a probe that mismatches has the read side recalibrated at once,
and a rank whose recalibration fails is treated as failed; drift is corrected in slices (05 R129). -/
def State.wakeRank (s : State) (r : Nat) (c : WakeCheck) (w : WakeRecal) : State :=
  if (s.rank r).train ≠ 1 then s
  else
    let far := s.driftsFar r c.osc
    let t := s.noteDrift r c.osc
    let t := (t.setRank r { t.rank r with probeAt := t.aon.now, probeDue := none }).checked r
    let t :=
      if s.probesMatch r c.probe then t
      else
        let u := t.recalOutcome r false w.delay w.ref w.after
        match t.recalEyes r false w.delay w.ref with
        | .ok _ => u
        | .error _ => u.failRank r 9 5
    if far = true ∧ (t.rank r).train = 1 then t.wantRecal r true else t

/-- IDLE_DEEP_EXIT: the quadrant is needed: the clocks restart, self-refresh ends, each rank is checked and
the quadrant enters Run (04 Table 04.5, 05 R129). The deadlines of its scrub passes are extended by the
time it was away (04 R110). -/
def execIdleDeepExit (die q : Nat) (checks : List WakeCheck) (recals : List WakeRecal) (s : State) :
    Host.Outcome State Fault Refusal :=
  act (fun s =>
    let x := s.quad die q
    if x.st = 2 then
      let s := s.cancelHib die q
      let s := s.setQuad die q { x with st := 0, hibEntry := false }
      let s := (chansOf die q).foldl (fun (t : State) g =>
        let p := t.scrubOf g
        t.setScrub g { p with extra := p.extra + (t.aon.now - x.deepAt) }) s
      ((ranksOf die q).zip (checks.zip recals)).foldl (fun (t : State) e => t.wakeRank e.1 e.2.1 e.2.2) s
    else s) s

end Sys2Proof.Machine
end

