-- ==== Sys2Proof/Machine/Shadowing.lean ====
section
/-! DEFINITION. Pumps, program units and their status, epochs and their seals, persistence arming and
the wear horizon (07 R158–R182, 08 R188–R193). -/
namespace Sys2Proof.Machine

/-- The newest valid epoch seal of a die (07 R167). -/
def DieShadow.newest (x : DieShadow) : Option Seal :=
  match x.sealA.filter (·.whole), x.sealB.filter (·.whole) with
  | some a, some b => if a.epoch < b.epoch then some b else some a
  | some a, none => some a
  | none, b => b

/-- 03 R78: the flake has been re-encrypted by a running sweep, and no epoch seal of its home die
records a watermark beyond it. -/
def State.sweptUnsealed (s : State) (m : Nat) : Bool :=
  match s.flakeTen m with
  | none => false
  | some n =>
    match s.transitOf n with
    | none => false
    | some _ =>
      let sealedTo := match (s.die (s.homeDie m)).newest with
        | some sl => ((sl.sweeps.find? fun e => decide (e.1 = n)).map (·.2)).getD 0
        | none => 0
      decide (m * flakeBytes < (s.tenancy n).watermark) && decide (sealedTo < (m + 1) * flakeBytes)

/-- Home flakes of a die in a list of firn states, ascending. -/
def State.homeIn (s : State) (d : Nat) (p : Nat → Bool) : List Nat :=
  (s.shadow.firn.filter fun e => p e.2 && decide (s.homeDie e.1 = d)).map (·.1)

/-- A checkpoint runs on the tenancy of a flake (07 R177). -/
def State.ckptRuns (s : State) (m : Nat) : Bool :=
  match s.flakeTen m with
  | some n => decide ((s.tenancy n).mode = 1) && decide (s.reg (ixPer 0x5820 n) (subPer n) = 1)
  | none => false

/-- The flake lies in a LIVE or FENCED PERSISTENT tenancy. -/
def State.inPersistent (s : State) (m : Nat) : Bool :=
  match s.flakeTen m with
  | some n => decide ((s.tenancy n).mode = 0)
  | none => false

/-- The flake's tenancy is over its effective share (07 R158 step 2). -/
def State.overShare (s : State) (m : Nat) : Bool :=
  match s.flakeTen m with
  | some n => decide ((s.tenancy n).mode = 0) && decide (s.effShare n < s.tenSnow n)
  | none => false

/-- A write-through write waits for the flake to become CLEAN (07 R180). -/
def State.throughOn (s : State) (m : Nat) : Bool :=
  s.shadow.through.any fun q => decide (flakeOf q.dpa = m)

/-- Search a rising list from a cursor on, wrapping (07 R158 step 4). -/
def fromCursor (c : Nat) (l : List Nat) : Option Nat :=
  match l.find? fun m => decide (c ≤ m) with
  | some m => some m
  | none => l.head?

/-- Summary code of a flake's home drift. -/
def State.codeOf (s : State) (m : Nat) : Nat := look 0 s.shadow.summary (s.driftOf m)

/-- Cursor of a summary code. -/
def DieShadow.cursor (x : DieShadow) (c : Nat) : Nat :=
  if c = 1 then x.cursor1 else if c = 2 then x.cursor2 else x.cursor3

/-- The flake that the search of the codes finds, with its code. -/
def State.byCode (s : State) (d : Nat) (l : List Nat) : List Nat → Option (Nat × Nat)
  | [] => none
  | c :: cs =>
    match fromCursor ((s.die d).cursor c) (l.filter fun m => decide (s.codeOf m = c)) with
    | some m => some (m, c)
    | none => s.byCode d l cs

/-- Lines of a flake whose owning die cannot be reached (07 Table 07.4). -/
def State.linesCut (s : State) (d m : Nat) : Bool :=
  ((flakeLines m).foldl (fun l o => addOnce (s.place o).die l) []).any fun x => !s.reachable d x

/-- What a free pump takes: the flake, the priority of its reads, the code whose cursor moves. -/
structure PumpPick where
  flake : Nat
  prio : Nat
  code : Nat
  deriving DecidableEq, Repr

/-- 07 R158, R159, R180: the flake of a free pump outside a freeze. One with a line that cannot be reached is
taken once it can be (R162). Within steps 2 and 3, and for write-through, R158 gives no order: the lowest flake number
comes first (DESIGN CHOICE, log 165). -/
def State.pickFlake (s : State) (d : Nat) : Option PumpPick :=
  let dirty := (s.homeIn d fun c => decide (c = fDirty)).filter fun m =>
    (s.inPersistent m || s.ckptRuns m) && !s.sweptUnsealed m && !s.linesCut d m
  let urgent := s.urgent
  let five := fun m : Nat => some { flake := m, prio := if urgent then 5 else 9, code := 0 }
  match (s.die d).first.find? fun m => dirty.elem m with
  | some m => five m
  | none =>
    match (if urgent || !s.shadow.held.isEmpty then dirty.find? s.overShare else none) with
    | some m => some { flake := m, prio := 5, code := 0 }
    | none =>
      match (if s.writeThrough then dirty.find? s.throughOn else none) with
      | some m => some { flake := m, prio := 5, code := 0 }
      | none =>
        match dirty.find? s.ckptRuns with
        | some m => some { flake := m, prio := 5, code := 0 }
        | none =>
          match s.byCode d (dirty.filter s.inPersistent) (if urgent then [3, 2, 1] else [3, 2]) with
          | some (m, c) => some { flake := m, prio := if urgent then 5 else 9, code := c }
          | none => none

/-- Layer and quadrant of a flake's lowest line (09 R222). -/
def State.drainKey (s : State) (m : Nat) : Nat :=
  let r := (s.place (m * flakeBytes)).rank
  r % 2 * 4 + quadOfRank r

/-- 09 R221, R222: the flake of a free pump in freeze mode. -/
def State.pickFreeze (s : State) (d : Nat) : Option PumpPick :=
  let snow := (s.homeIn d fun c => decide (c = fDirty) || decide (c = fStale)).filter fun m =>
    s.inPersistent m && !((s.die d).pumps.any fun p => decide (p.flake = m) && p.moving.isNone) &&
      !((s.die d).units.any fun u => u.moves.any fun v => decide (v.flake = m) && v.old.isNone)
  let k := (snow.map s.drainKey).foldl min 99
  let l := snow.filter fun m => decide (s.drainKey m = k)
  match s.byCode d l [3, 2, 1] with
  | some (m, c) => some { flake := m, prio := 0, code := c }
  | none => l.head?.map fun m => { flake := m, prio := 0, code := 0 }

/-- The least pump number not in use. -/
def freePump (l : List Pump) : Option Nat :=
  (List.range 128).find? fun k => l.all fun p => decide (p.num ≠ k)

/-- Move the cursor of a code past the flake taken from it. -/
def DieShadow.moveCursor (x : DieShadow) (c m : Nat) : DieShadow :=
  if c = 1 then { x with cursor1 := m + 1 }
  else if c = 2 then { x with cursor2 := m + 1 }
  else if c = 3 then { x with cursor3 := m + 1 }
  else x

def State.setPump (s : State) (d : Nat) (q : Pump) : State :=
  let x := s.die d
  s.setDie d { x with pumps := x.pumps.map fun p => if p.num = q.num then q else p }

/-- A pump has a line of its flake, from a write queue (04 R90). -/
def State.pumpHas (s : State) (d k : Nat) (f : Pump → Pump) : State :=
  match (s.die d).pumps.find? fun p => decide (p.num = k) with
  | some p => s.setPump d (f p)
  | none => s

/-- The line is one that a rebuild has yet to write: it is read as lost (10 R249). -/
def State.yetToRebuild (s : State) (o : Nat) : Bool := s.needsRebuild (s.place o).rank (s.place o).off

/-- A pump's read of a line: answered from a queued write to it, under the key in force, or queued (04 R86, R90). -/
def State.pumpLine (s : State) (d k prio o : Nat) : State :=
  let i := o / 64 % 256
  match queuedLine o (s.chan (subOf (s.physOf o) (s.place o).off)).writes with
  | some { op := .write, data := l, .. } => s.pumpHas d k fun p => { p with lines := p.lines ++ [(i, s.sealed o l)] }
  | some { op := .clearPoison, data := l, .. } => s.pumpHas d k fun p => { p with lines := p.lines ++ [(i, s.sealed o l)] }
  | some { op := .injectPoison, .. } => s.pumpHas d k fun p => { p with bitmap := p.bitmap ||| lineBit i }
  | some _ => s.queueOwn (.pump d k prio) o 3
  | none => if s.yetToRebuild o then s else s.queueOwn (.pump d k prio) o 3

/-- The DRAM reads of a pump join their channel queues (07 Table 07.3 step 2, 04 R86): those of the lines that
have DRAM and can be reached. -/
def State.queuePump (s : State) (d k m prio : Nat) : State :=
  (flakeLines m).foldl (fun t o =>
    if t.isLost (t.place o).rank || !t.reachable d (t.place o).die then t else t.pumpLine d k prio o) s

/-- The read is one of a pump. -/
def Req.ofPump (q : Req) (d k : Nat) : Bool :=
  match q.src with
  | .pump e j _ => decide (e = d) && decide (j = k)
  | _ => false

/-- A read of a pump still waits in a queue. -/
def State.pumpReads (s : State) (d k : Nat) : Bool := s.dram.chans.any fun e => e.2.reads.any fun q => q.ofPump d k

/-- Drop a pump's reads. -/
def State.dropReads (s : State) (d k : Nat) : State :=
  (s.dram.chans.map (·.1)).foldl (fun t sc =>
    t.setChan sc { t.chan sc with reads := (t.chan sc).reads.filter fun q => !q.ofPump d k }) s

/-- 07 Table 07.3 step 1: a pump claims a flake. -/
def State.claim (s : State) (d k : Nat) (p : PumpPick) : State :=
  let s := (s.setFirn p.flake fPumping).touchMap p.flake
  let x := (s.die d).moveCursor p.code p.flake
  let s := s.setDie d { x with
    first := without p.flake x.first
    pumps := x.pumps ++ [{ num := k, flake := p.flake, ready := false, prio := p.prio, bitmap := 0,
                           lines := [], moving := none, stale := false }] }
  s.queuePump d k p.flake p.prio

/-- Pumps of a die work: in service, or in a freeze of a die that has snow left, while its core clock runs (07 R158,
09 R220, 14 R326). -/
def State.pumpsRun (s : State) (d : Nat) : Bool :=
  decide (d < s.n) && !s.dieOut d && !s.coreStopped d &&
    (if s.freeze.active then !s.freeze.drained.elem d
     else decide (s.seq.st = 12) || decide (s.seq.st = 15))

/-- The pumps' search settles the reserved codes that it reads (07 R152). -/
def State.settleHome (s : State) (d : Nat) : State :=
  (s.homeIn d fun c => decide (9 ≤ c)).foldl (fun t m => t.settleFirn m) s

/-- PUMP_DISPATCH. -/
def execPumpDispatch (die : Nat) (s : State) : Host.Outcome State Fault Refusal :=
  act (fun s =>
    if !s.pumpsRun die then s
    else
      let s := s.settleHome die
      match freePump (s.die die).pumps, if s.freeze.active then s.pickFreeze die else s.pickFlake die with
      | some k, some p => s.claim die k p
      | _, _ => s) s

/-- Take a pump off a die, with its reads. -/
def State.dropPump (s : State) (d k : Nat) : State :=
  let s := s.dropReads d k
  let x := s.die d
  s.setDie d { x with pumps := x.pumps.filter fun p => !decide (p.num = k) }

/-- 07 Table 07.3 step 2, R161: the lines as read: those that a write queue gave, and the others marked where they
hold poison. -/
def State.gather (s : State) (p : Pump) : BitVec 256 × Sparse LineCell :=
  (List.range 256).foldl (fun (acc : BitVec 256 × Sparse LineCell) i =>
    match p.lines.find? fun e => decide (e.1 = i) with
    | some e => (acc.1, acc.2 ++ [e])
    | none =>
      let o := p.flake * flakeBytes + 64 * i
      match if s.yetToRebuild o then .poison else s.cell o with
      | .poison => (acc.1 ||| lineBit i, acc.2)
      | .data l k =>
        if acc.1.getLsbD i then acc else (acc.1, acc.2 ++ [(i, .data l k)])) (p.bitmap, [])

/-- A pump's read of a line went to DRAM: no write queue gave it, and it has DRAM that is not lost. -/
def State.pumpedDram (s : State) (p : Pump) (i : Nat) : Bool :=
  let o := p.flake * flakeBytes + 64 * i
  !p.bitmap.getLsbD i && !(p.lines.any fun e => decide (e.1 = i)) && !s.isLost (s.place o).rank && !s.yetToRebuild o

/-- What a pump's reads of DRAM find and count (04 R101–R103, C+1+k.0A; 10 R242): lines that decode as poison,
corrected ones with their position, ones that their second read gave, and confirmed uncorrectable ones, which hold
the poison encoding from then on. -/
def State.countReads (s : State) (p : Pump) (res : FlakeRead) : State :=
  let at_ := fun i : Nat => p.flake * flakeBytes + 64 * i
  let rank := fun (t : State) i => t.physOf (at_ i)
  let mine := (List.range 256).filter (s.pumpedDram p)
  let s := (mine.filter fun i => !res.bad.elem i).foldl (fun t i =>
    match t.cell (at_ i) with
    | .poison => t.countPoison (rank t i)
    | .data _ _ => t) s
  let s := (res.corrected.filter fun e => mine.elem e.1).foldl (fun t e =>
    t.countCe (rank t e.1) (t.place (at_ e.1)).off e.2) s
  let s := (res.second.filter mine.elem).foldl (fun t i => t.countRetry (rank t i) (t.place (at_ i)).off) s
  (res.bad.filter mine.elem).foldl (fun t i => t.confirmUe (at_ i) (rank t i)) s

/-- 09 R221: a freeze records a flake as POISONED in the saved map; its DRAM is not rewritten. -/
def State.freezeLoses (s : State) (d m : Nat) : State :=
  let s := (((s.releaseFlake m (s.tenOf (m * flakeBytes))).setFirn m fPoisoned).setFmap m 0).touchMap m
  { s with freeze := { s.freeze with lost := put 0 s.freeze.lost d (look 0 s.freeze.lost d + 1) } }

/-- The page of a CLEAN flake is to be moved (08 R200, R207). -/
def State.wantMove (s : State) (d a : Nat) : State :=
  let x := s.die d
  s.setDie d { x with relocate := addOnce a x.relocate }

/-- A relocation that has come to nothing starts again while its flake still points to the old page (07 R160,
08 R204). -/
def State.moveAgain (s : State) (d m : Nat) (old : Option Nat) : State :=
  match old with
  | some o => if s.firn m = fClean ∧ s.fmapOf m = o then s.wantMove d o else s
  | none => s

/-- A pump gives its flake back (07 Table 07.4). -/
def State.putBack (s : State) (d : Nat) (p : Pump) : State :=
  let s := s.dropPump d p.num
  if p.stale then s
  else if p.moving.isSome then s.moveAgain d p.flake p.moving
  else if s.freeze.active then s.freezeLoses d p.flake
  else if s.firn p.flake = fPumping ∨ s.firn p.flake = fStale then
    (s.setFirn p.flake fDirty).touchMap p.flake
  else s

/-- Physical ranks that hold the lines of a logical rank: both while a copy runs. -/
def State.carriers (s : State) (r : Nat) : List Nat :=
  match s.redirectOf r with
  | some x => if x.complete then [x.carrier] else [x.carrier, x.source]
  | none => [r]

/-- Logical ranks of a die with a sump line: the sump lies at the top of its usable DRAM (03 R59). -/
def State.sumpRanks (s : State) (d : Nat) : List Nat :=
  let w := (s.layer d 0).length * s.crank
  let a := s.assign d
  let u := s.usable d
  ((s.chansOfStretch d 0 (min a w) (min u w)).map fun g => 2 * g) ++
    (s.chansOfStretch d 1 (max a w - w) (max u w - w)).map fun g => 2 * g + 1

/-- Physical ranks with a line of a flake, on any die. -/
def State.flakeRanks (s : State) (m : Nat) : List Nat :=
  (flakeLines m).foldl (fun l o => addOnce (s.readRank (s.place o).rank (s.place o).off) l) []

/-- Flakes that the freeze pumps. -/
def State.snowFlakes (s : State) : List Nat :=
  (s.shadow.firn.filter fun e => isSnow e.2 && s.inPersistent e.1).map (·.1)

/-- 09 R222: a rank layer of a die that holds no more snow: its ranks enter self-refresh, but for those that hold sump
lines. -/
def State.restLayer (s : State) (d k : Nat) : State :=
  let rs := ((s.layer d k).map fun c => 16 * d + 2 * c + k).flatMap s.carriers
  let sump := (s.sumpRanks d).flatMap s.carriers
  if s.snowFlakes.any fun m => (s.flakeRanks m).any rs.elem then s
  else
    (rs.filter fun r => !sump.elem r && decide ((s.quad (dieOfRank r) (quadOfRank r)).st ≤ 2)).foldl
      (fun t r => t.setRank r { t.rank r with selfRefresh := true }) s

/-- In a freeze, the layers of every die that are drained of snow rest. -/
def State.restDrained (s : State) : State :=
  if s.freeze.active then s.dieList.foldl (fun t d => (t.restLayer d 0).restLayer d 1) s else s

/-- PUMP_READ_DONE: the 256 lines have been read; a relocation with an uncorrectable DRAM line turns to the
old page, and the lines are healed (07 R160, R161, 08 R204). -/
def State.pumpRead (s : State) (d k : Nat) (res : FlakeRead) : State :=
  match (s.die d).pumps.find? fun p => decide (p.num = k) && !p.ready with
  | none => s
  | some p =>
    if s.linesCut d p.flake then s.putBack d p
    else if s.pumpReads d k then s
    else
      let bad := res.bad.filter (s.pumpedDram p)
      let s := s.countReads p res
      let g := s.gather p
      let ready := s.setPump d { p with ready := true, bitmap := g.1, lines := g.2 }
      match p.moving with
      | some a =>
        if bad.isEmpty ∧ (flakeLines p.flake).any s.yetToRebuild = false then ready
        else
          let s := bad.foldl (fun t i => t.requestHeal (p.flake * flakeBytes + 64 * i) []) s
          s.askPage d { page := a, flake := p.flake, purpose := 2, host := false, level := 0, res := none }
      | none => ready

def execPumpReadDone (die pump : Nat) (res : FlakeRead) (s : State) : Host.Outcome State Fault Refusal :=
  act (fun s => (s.pumpRead die pump res).restDrained) s

/-- Page number within its block, and the address of a block's page (08 Table 08.2). -/
def pgOf (a : Nat) : Nat := a / 256 % 4096
def pageAddr (b pg : Nat) : Nat := b * 2 ^ 20 + pg * 256

/-- Plane of a block number. -/
def planeOf (b : Nat) : Nat := b / 2 ^ 16 % 4

/-- Active LUNs of a die. -/
def State.allLuns (s : State) (d : Nat) : List Nat := (List.range 16).flatMap (s.activeLuns d)

/-- A unit's pages are all filled: a wordline, or the end of its block (08 R188). -/
def State.unitFull (s : State) (d : Nat) (u : PUnit) : Bool :=
  match s.nandOf d (u.lun / 32) with
  | some nd =>
    decide (nd.bits ≤ u.pages.length) ||
      (u.pages.any fun a => decide (nd.pagesPerBlock ≤ pgOf a + 1))
  | none => true

/-- The block of this number is a free block of a LUN (08 R189, R211). -/
def State.isFresh (s : State) (d l b : Nat) : Bool :=
  match s.nandOf d (l / 32) with
  | some nd =>
    decide (b / 2 ^ 27 = 1) && decide (lunOfBlk b = l) && decide (planeOf b < nd.planes) &&
      decide (b % 2 ^ 16 < nd.blocksPerPlane) && decide (look 0 (s.die d).blocks b = 0) &&
      !isBootBlk d b
  | none => false

/-- The free block that the SW74 takes where no operand names one: the lowest (log 132). -/
def State.lowFree (s : State) (d l : Nat) : Option Nat := (s.blocksOf d l).find? (s.isFresh d l)

/-- A LUN's open block for data or for map pages, with its next page (08 R189). -/
def Lun.openOf (k : Lun) (map : Bool) : Option (Nat × Nat) := if map then k.openMap else k.openData
def Lun.setOpen (k : Lun) (map : Bool) (o : Option (Nat × Nat)) : Lun :=
  if map then { k with openMap := o } else { k with openData := o }

/-- The LUN may be given a unit of data or of map pages: none of its kind waits there to be programmed, it has
an open or a free block, and a running erase has suspensions left for a program (08 R188, R189, R197). -/
def State.lunTakes (s : State) (d : Nat) (map : Bool) (l : Nat) : Bool :=
  let k := s.lunOf d l
  ((s.die d).units.all fun u => decide (u.lun ≠ l) || u.running || decide (u.map ≠ map)) &&
    (k.erasing.isNone || decide (k.suspends < 32)) &&
    ((k.openOf map).isSome || (s.lowFree d l).isSome)

/-- A list from a position on, then from its head. -/
def rotated (k : Nat) (l : List Nat) : List Nat := l.drop (k % max 1 l.length) ++ l.take (k % max 1 l.length)

/-- The LUN of a channel that opens the next unit, in rotation (08 R188). -/
def State.nextLun (s : State) (d f : Nat) (map : Bool) : Option Nat :=
  (rotated (look 0 (s.die d).lunTurn f) (s.activeLuns d f)).find? (s.lunTakes d map)

/-- The unit that a channel is filling (08 R188). -/
def State.openUnit (s : State) (d f : Nat) : Option PUnit :=
  (s.die d).units.find? fun u => decide (u.lun / 32 = f) && !u.running && !s.unitFull d u

/-- The channel next in the rotation with a unit of a kind open for filling, or able to open one
(08 R188). -/
def State.nextChannel (s : State) (d : Nat) (map : Bool) : Option Nat :=
  (rotated (s.die d).rotation (List.range 16)).find? fun f =>
    match s.openUnit d f with
    | some u => decide (u.map = map)
    | none => (s.nextLun d f map).isSome

/-- Open a unit on a LUN: its block is the LUN's open block of the kind, or a fresh one, `fresh` where it names one
of the LUN's free blocks (08 R189). -/
def State.unitOn (s : State) (d l : Nat) (map : Bool) (fresh : Option Nat) : Option (PUnit × State) :=
  let x := s.die d
  let u := fun b : Nat =>
    ({ num := x.nextUnit, lun := l, blk := b, pages := [], running := false, map := map, moves := [], jobs := [] } : PUnit)
  let x' := { x with
    nextUnit := x.nextUnit + 1, lunTurn := put 0 x.lunTurn (l / 32) (look 0 x.lunTurn (l / 32) + 1) }
  match (s.lunOf d l).openOf map with
  | some (b, _) => some (u b, s.setDie d { x' with units := x'.units ++ [u b] })
  | none =>
    match (match fresh with | some b => if s.isFresh d l b then some b else none | none => s.lowFree d l) with
    | some b =>
      let s := s.setDie d { x' with
        units := x'.units ++ [u b], blocks := put 0 x'.blocks b (if map then 2 else 1) }
      some (u b, s.setLun d l ((s.lunOf d l).setOpen map (some (b, 0))))
    | none => none

/-- Open a unit on the LUN of a channel whose turn it is (08 R188). -/
def State.newUnit (s : State) (d f : Nat) (map : Bool) (fresh : Option Nat) : Option (PUnit × State) :=
  (s.nextLun d f map).bind fun l => s.unitOn d l map fresh

/-- What goes into a page of a unit: header fields, content, and what it moves or saves. -/
structure Load where
  typ : Nat
  ten : Nat
  mapNum : Nat
  flake : Nat
  body : PageBody
  move : Option Move
  job : Option MapJob
  /-- The program sequence it already has. -/
  seqNo : Option Nat
  deriving DecidableEq, Repr

def dataLoad (ten m : Nat) (body : PageBody) (v : Move) : Load :=
  { typ := 1, ten := ten, mapNum := u32max, flake := m, body := body, move := some v, job := none, seqNo := none }

def padLoad : Load :=
  { typ := 5, ten := 0xFFFF, mapNum := u32max, flake := u64max, body := .pad, move := none, job := none, seqNo := none }

def jobLoad (j : MapJob) : Load :=
  { typ := j.typ, ten := 0xFFFF, mapNum := j.num, flake := u64max, body := j.body, move := none, job := some j,
    seqNo := none }

/-- The page that a unit is given next, in ascending order in its block (08 R189). -/
def State.nextPage (s : State) (d : Nat) (u : PUnit) : Option Nat :=
  match (s.lunOf d u.lun).openOf u.map with
  | some (b, pg) => if b = u.blk then some pg else none
  | none => none

/-- Put a page into a unit, with its header (08 Table 08.3); the block closes with its last page. It reads once
its program has passed. -/
def State.addToUnit (s : State) (d : Nat) (u : PUnit) (ld : Load) : State :=
  match s.nextPage d u with
  | none => s
  | some pg =>
    let last := match s.nandOf d (u.lun / 32) with
      | some nd => decide (nd.pagesPerBlock ≤ pg + 1)
      | none => true
    let s := s.setLun d u.lun ((s.lunOf d u.lun).setOpen u.map (if last then none else some (u.blk, pg + 1)))
    let x := s.die d
    let a := pageAddr u.blk pg
    let page : Page :=
      { typ := ld.typ, format := 1, ten := ld.ten, mapNum := ld.mapNum, flake := ld.flake, epoch := s.shadow.epoch,
        progSeq := ld.seqNo.getD (x.progSeq + 1), body := ld.body, tweak := a, unreadable := true }
    s.setDie d { x with
      progSeq := if ld.seqNo.isSome then x.progSeq else x.progSeq + 1
      blocks := if last then put 0 x.blocks u.blk 3 else x.blocks
      openSince := addOnce u.blk x.openSince
      pages := put noPage x.pages a page
      units := x.units.map fun (v : PUnit) => if v.num = u.num then
        { v with pages := v.pages ++ [a], moves := v.moves ++ ld.move.toList, jobs := v.jobs ++ ld.job.toList }
        else v }

/-- Put a page into the unit that is being filled next, on the channel next in the rotation; the LUN it went
to (08 R188). -/
def State.placeLoad (s : State) (d : Nat) (map : Bool) (fresh : Option Nat) (ld : Load) : Option (Nat × State) :=
  match s.nextChannel d map with
  | none => none
  | some f =>
    (match s.openUnit d f with
     | some u => some (u, s)
     | none => s.newUnit d f map fresh).map fun (e : PUnit × State) =>
      let t : State := e.2.addToUnit d e.1 ld
      (e.1.lun, t.setDie d { t.die d with rotation := (f + 1) % 16 })

/-- What a unit that waits carries. -/
def State.unitLoads (s : State) (d : Nat) (u : PUnit) : List Load :=
  (List.range u.pages.length).map fun i =>
    let p := s.page d (u.pages.getD i 0)
    { typ := p.typ, ten := p.ten, mapNum := p.mapNum, flake := p.flake, body := p.body, move := u.moves[i]?,
      job := u.jobs[i]?, seqNo := some p.progSeq }

/-- Take a unit that has not been programmed off its LUN. -/
def State.takeUnit (s : State) (d : Nat) (u : PUnit) : State :=
  let x := s.die d
  s.setDie d { x with
    units := x.units.filter fun v => !decide (v.num = u.num)
    pages := x.pages.filter fun e => !u.pages.elem e.1 }

/-- A LUN's open block has room for so many pages, or it opens a fresh one. -/
def State.lunRoom (s : State) (d l : Nat) (map : Bool) (k : Nat) : Bool :=
  match (s.lunOf d l).openOf map, s.nandOf d (l / 32) with
  | some (_, pg), some nd => decide (pg + k ≤ nd.pagesPerBlock)
  | none, _ => true
  | _, none => false

/-- The LUN, next in rotation, that can take the whole of a unit of another one (08 R197). -/
def State.takerOf (s : State) (d : Nat) (u : PUnit) : Option Nat :=
  ((rotated (s.die d).rotation (List.range 16)).flatMap (s.activeLuns d)).find? fun l =>
    decide (l ≠ u.lun) && s.lunTakes d u.map l && s.lunRoom d l u.map u.pages.length

/-- A unit for a LUN whose erase has used its 32 suspensions is given to another LUN as it is; its pages are free again
(08 R197). Where none takes it, it waits. Gives the LUN that took it. -/
def State.giveAway (s : State) (d : Nat) (u : PUnit) : Option (Nat × State) :=
  let loads := s.unitLoads d u
  (s.takerOf d u).bind fun l =>
    let t := s.takeUnit d u
    let y := t.die d
    let t := (t.setDie d { y with blocks := put 0 y.blocks u.blk (if u.map then 2 else 1) }).setLun d u.lun
      ((t.lunOf d u.lun).setOpen u.map (u.pages.head?.map fun a => (u.blk, pgOf a)))
    (t.unitOn d l u.map none).map fun e => (l, loads.foldl (fun v ld => v.addToUnit d e.1 ld) e.2)

/-- Reads queued for a LUN. -/
def State.readsFor (s : State) (d l : Nat) : Bool :=
  (s.die d).reads.any fun r => decide (lunOfBlk (blkOfPage r.page) = l) && r.res.isNone

/-- A program runs on a LUN. -/
def State.programs (s : State) (d l : Nat) : Bool := (s.die d).units.any fun u => decide (u.lun = l) && u.running

/-- Filled units of a LUN that wait. -/
def State.readyUnits (s : State) (d l : Nat) : List PUnit :=
  (s.die d).units.filter fun u => decide (u.lun = l) && !u.running && s.unitFull d u

/-- The first unit on each plane: what one multi-plane program takes (08 R188). -/
def onPlanes (l : List PUnit) : List PUnit :=
  l.foldl (fun acc u => if acc.any fun v => decide (planeOf v.blk = planeOf u.blk) then acc else acc ++ [u]) []

/-- Issue the program of units of a LUN. -/
def State.issueUnits (s : State) (d : Nat) (l : List PUnit) : State :=
  let x := s.die d
  s.setDie d { x with
    units := x.units.map fun (u : PUnit) => if l.any fun v => decide (v.num = u.num) then { u with running := true } else u }

/-- Programs start on a LUN with filled units, one at a time and behind the queued reads: at once, or after the
suspension of its erase, which they ask for. While the erase is suspended, one further unit is issued (08 R188, R197,
R199). -/
def State.startHere (s : State) (d l : Nat) : State :=
  let k := s.lunOf d l
  let go := s.readyUnits d l
  if s.flashHalted d || s.programs d l || s.readsFor d l then s
  else
    match go with
    | [] => s
    | u :: _ =>
      if k.erasing.isNone then s.issueUnits d (onPlanes go)
      else if k.susp = 3 then (s.issueUnits d [u]).setLun d l { k with susp := 4 }
      else if k.susp ≠ 0 ∨ 32 ≤ k.suspends then s
      else s.setLun d l { k with susp := 2, suspends := k.suspends + 1 }

/-- Programs start on a LUN; the filled units of one whose erase has used its 32 suspensions go to other LUNs, and
start there (08 R197). -/
def State.startUnits (s : State) (d l : Nat) : State :=
  let k := s.lunOf d l
  if k.erasing.isSome ∧ k.susp = 0 ∧ 32 ≤ k.suspends ∧ s.flashHalted d = false then
    (s.readyUnits d l).foldl (fun t u =>
      match t.giveAway d u with
      | some (m, v) => v.startHere d m
      | none => t) s
  else s.startHere d l

/-- Every LUN of a die starts what it can. -/
def State.startAll (s : State) (d : Nat) : State := (s.allLuns d).foldl (fun t l => t.startUnits d l) s

/-- What waits for a LUN goes on; a suspended erase resumes once its reads and its one further unit are done,
and what has come since asks for a suspension again (08 R197). -/
def State.settleLun (s : State) (d l : Nat) : State :=
  let s := s.startUnits d l
  let k := s.lunOf d l
  if k.erasing.isSome ∧ 3 ≤ k.susp ∧ s.readsFor d l = false ∧ s.programs d l = false then
    (s.setLun d l { k with susp := 0 }).startAll d
  else s

/-- Where P9 pumps are metered, a page takes its time at the sustainable rate (07 R181, log 134). -/
def State.metered (s : State) (prio : Nat) : Bool :=
  decide (prio = 9) && decide (s.reg 0x5803 4 = 1) && !s.urgent && !s.freeze.active

def State.meterPage (s : State) : State :=
  let step := if s.sustainable = 0 then 2 ^ 64 else flakeBytes * 1000000000 / s.sustainable
  { s with shadow := { s.shadow with wearNext := max s.aon.now s.shadow.wearNext + step } }

/-- PUMP_TRANSFER: a waiting pump is given a fresh page, transfers its flake and is released; with none on any
LUN, or ahead of the wear limit's rate, it waits (07 Table 07.3, Table 07.4, R181). -/
def State.pumpTransfer (s : State) (d k fresh : Nat) : State :=
  match (s.die d).pumps.find? fun p => decide (p.num = k) && p.ready with
  | none => s
  | some p =>
    if s.flashHalted d || (s.metered p.prio && decide (s.aon.now < s.shadow.wearNext)) then s
    else
      let v : Move := { flake := p.flake, old := p.moving, inFreeze := s.freeze.active, stale := p.stale }
      let ten := (s.tenOf (p.flake * flakeBytes)).getD 0xFFFF
      match s.placeLoad d false (some fresh) (dataLoad ten p.flake (.data p.bitmap p.lines) v) with
      | none => s
      | some (l, t) =>
        let t := if s.metered p.prio then t.meterPage else t
        (t.dropPump d p.num).startUnits d l

def execPumpTransfer (die pump fresh : Nat) (s : State) : Host.Outcome State Fault Refusal :=
  act (fun s => s.pumpTransfer die pump fresh) s

/-- Fill what is left of a unit with pad pages (08 R188). -/
def State.padUnit (s : State) (d num : Nat) : Nat → State
  | 0 => s
  | k + 1 =>
    match (s.die d).units.find? fun u => decide (u.num = num) with
    | none => s
    | some u =>
      if s.unitFull d u then s
      else State.padUnit (s.addToUnit d u padLoad) d num k

/-- The code that a map page records for a firn state (08 R191). -/
def mapCode (c : Nat) : Nat := if c = fUnrestored ∨ c = fRestoring then fClean else c

/-- The map page of a die as it stands (08 Table 08.4). -/
def State.mapPage (s : State) (d m : Nat) : PageBody :=
  let mine := fun (t : Sparse Nat) => (t.filter fun e =>
    decide (s.homeDie e.1 = d) && decide (s.homeIdx e.1 / 2048 = m)).map fun e => (s.homeIdx e.1 % 2048, e.2)
  .map d m (mine s.shadow.fmap) ((mine s.shadow.firn).map fun e => (e.1, mapCode e.2))
    ((s.shadow.heat.filter fun e => decide (dieOfDrift e.1 = d) && decide (e.1 / 128 = m)).map fun e =>
      (e.1 / 8 % 16, e.2))

def State.mapJob (s : State) (d m : Nat) : MapJob := { typ := 2, num := m, body := s.mapPage d m }

/-- An index page of a die: the addresses of its 2,048 map pages (08 R192). -/
def DieShadow.indexJob (x : DieShadow) (d i : Nat) : MapJob :=
  { typ := 3, num := i
    body := .index d i ((x.mapAddr.filter fun e => decide (e.1 / 2048 = i)).map fun e => (e.1 % 2048, e.2)) }

def DieShadow.rootJob (x : DieShadow) (d : Nat) : MapJob := { typ := 4, num := 0, body := .index d 0 x.indexAddr }

/-- Map jobs go to units as long as one takes them; the others wait (08 R188). -/
def State.placeJobs (s : State) (d : Nat) : State :=
  let r := (s.die d).jobs.foldl (fun (acc : State × List MapJob) j =>
    if !acc.2.isEmpty then (acc.1, acc.2 ++ [j])
    else match acc.1.placeLoad d true none (jobLoad j) with
      | some (l, t) => (t.startUnits d l, [])
      | none => (acc.1, [j])) (s, [])
  r.1.setDie d { r.1.die d with jobs := r.2 }

/-- The pages of the running step have all passed. -/
def State.mapIdle (s : State) (d : Nat) : Bool :=
  (s.die d).jobs.isEmpty && (s.die d).units.all fun u => u.jobs.isEmpty

/-- The next step of programming the map: the index pages over the new map pages, then a new root index page
(08 R192). -/
def State.mapStep (s : State) (d : Nat) : State :=
  let x := s.die d
  if !s.mapIdle d then s
  else if x.phase = 1 then
    s.setDie d { x with
      phase := 2, jobs := (x.mapPages.foldl (fun l p => addOnce (p / 2048) l) []).map (x.indexJob d) }
  else if x.phase = 2 then s.setDie d { x with phase := 3, jobs := [x.rootJob d] }
  else if x.phase = 3 then s.setDie d { x with phase := 4 }
  else s

/-- The programming of a die's map goes on as far as it can. -/
def State.advanceMaps (s : State) (d : Nat) : State :=
  let s := (s.placeJobs d).mapStep d
  let s := (s.placeJobs d).mapStep d
  (s.placeJobs d).mapStep d

/-- Save a set of map pages as they stand (08 R192). -/
def State.startMaps (s : State) (d : Nat) (pages : List Nat) : State :=
  (s.setDie d { s.die d with phase := 1, mapPages := pages, jobs := pages.map (s.mapJob d) }).advanceMaps d

/-- UNIT_FILL_TIMEOUT: 80 us after the first page of a unit, its empty pages are padded; what waited for the
channel goes on. -/
def execUnitFillTimeout (die unit : Nat) (s : State) : Host.Outcome State Fault Refusal :=
  act (fun s =>
    match (s.die die).units.find? fun u => decide (u.num = unit) && !u.running with
    | some u =>
      if u.pages.isEmpty || s.flashHalted die then s
      else ((s.padUnit die unit 4).startUnits die u.lun).advanceMaps die
    | none => s) s

/-- Add bytes programmed to the running hour (07 R182). -/
def addHour (k : Nat) : List Nat → List Nat
  | [] => [k]
  | x :: l => (x + k) :: l

/-- Pages programmed count from the first initialisation, and as bytes from service start
(07 R181). -/
def State.countPages (s : State) (k : Nat) : State :=
  let s : State := { s with shadow := { s.shadow with
    pagesProgrammed := s.shadow.pagesProgrammed + k
    dayBuckets := addHour (k * flakeBytes) s.shadow.dayBuckets } }
  if s.shadow.counter.isSome then s.addReg 0x5803 7 (k * flakeBytes) u64max else s

/-- Write-through writes to a flake that has become CLEAN are answered (07 R180). -/
def State.throughDone (s : State) (m : Nat) : State :=
  let l := s.shadow.through.filter fun q => decide (flakeOf q.dpa = m)
  let s : State := { s with shadow := { s.shadow with
    through := s.shadow.through.filter fun q => !decide (flakeOf q.dpa = m) } }
  l.foldl (fun t q => t.respCmp q) s

/-- A pumped flake's page has passed (07 Table 07.2); one whose program was started in freeze mode counts as saved by the
freeze (09 Table 09.3). -/
def State.becomeClean (s : State) (d m a : Nat) (inFreeze : Bool) : State :=
  let k := s.tenOf (m * flakeBytes)
  let s := (((s.releaseFlake m k).setFmap m a).setFirn m fClean).touchMap m
  let s := (((s.desummarise m).unswept m).addReg (ixShadow d) 4 1 u64max).throughDone m
  let s : State := if inFreeze then
      { s with freeze := { s.freeze with saved := put 0 s.freeze.saved d (look 0 s.freeze.saved d + 1) } }
    else s
  match k with
  | some n => s.ckptSettle n
  | none => s

/-- The page of a move is stale: it is counted as discarded (07 D.05). -/
def State.discardPage (s : State) (d a : Nat) : State :=
  (s.stalePage d a).inc (ixShadow d) 5

/-- The program of a page has passed: it reads. -/
def State.pageDone (s : State) (d a : Nat) : State :=
  let x := s.die d
  s.setDie d { x with pages := put noPage x.pages a { s.page d a with unreadable := false } }

/-- One page of a data unit whose program passed (07 Table 07.2, 08 R204). -/
def State.passMove (s : State) (d : Nat) (a : Nat) (v : Move) : State :=
  let m := v.flake
  if v.stale = true ∨ s.flakeTen m = none then s.discardPage d a
  else
    match v.old with
    | some o =>
      if s.firn m = fClean ∧ s.fmapOf m = o then (s.setFmap m a).touchMap m else s.stalePage d a
    | none =>
      if s.firn m = fPumping then s.becomeClean d m a v.inFreeze
      else if s.firn m = fStale then ((s.setFirn m fDirty).touchMap m).discardPage d a
      else s.discardPage d a

/-- One map, index or root index page whose program passed: the map index points to it, and the page it
replaces is stale (08 R192). -/
def State.passJob (s : State) (d a : Nat) (j : MapJob) : State :=
  let x := s.die d
  if j.typ = 2 then
    let s := s.stalePage d (look 0 x.mapAddr j.num)
    s.setDie d { s.die d with mapAddr := put 0 x.mapAddr j.num a }
  else if j.typ = 3 then
    let s := s.stalePage d (look 0 x.indexAddr j.num)
    s.setDie d { s.die d with indexAddr := put 0 x.indexAddr j.num a }
  else
    let s := s.stalePage d x.rootAddr
    s.setDie d { s.die d with rootAddr := a }

/-- A flake goes back to DIRTY, put first (07 Table 07.2). -/
def State.putFirst (s : State) (d m : Nat) : State :=
  let x := s.die d
  ((s.setDie d { x with first := addOnce m x.first }).setFirn m fDirty).touchMap m

/-- A flake of a failed program goes back to DIRTY, put first; the third freeze-mode failure loses it
(07 Table 07.2, 09 R221). The page of a flake written since is stale. -/
def State.failMove (s : State) (d : Nat) (a : Nat) (v : Move) : State :=
  let m := v.flake
  if v.stale = true ∨ s.flakeTen m = none then s
  else if v.old.isSome = true then s.moveAgain d m v.old
  else if s.firn m = fStale then ((s.setFirn m fDirty).touchMap m).discardPage d a
  else if s.firn m = fPumping then
    let k := look 0 s.freeze.fails m + 1
    if v.inFreeze = true ∧ 3 ≤ k then (s.setFirn m fDirty).freezeLoses d m
    else
      let s : State := if v.inFreeze then
          { s with freeze := { s.freeze with fails := put 0 s.freeze.fails m k } } else s
      (s.putFirst d m).inc (ixShadow d) 6
  else s

/-- A flake of a unit that will not be programmed: it is put first, without a failure; a relocation is wanted
again (log 133). -/
def State.dropMove (s : State) (d : Nat) (v : Move) : State :=
  let m := v.flake
  if v.stale = true ∨ s.flakeTen m = none then s
  else
    match v.old with
    | some _ => s.moveAgain d m v.old
    | none => if s.firn m = fPumping ∨ s.firn m = fStale then s.putFirst d m else s

/-- Map pages whose program failed or cannot come are programmed again elsewhere (07 R166, 08 R193). -/
def State.requeue (s : State) (d : Nat) (u : PUnit) : State :=
  let x := s.die d
  if x.phase = 0 then s else s.setDie d { x with jobs := u.jobs ++ x.jobs }

/-- A unit that will not be programmed is taken off its LUN. -/
def State.dropUnit (s : State) (d : Nat) (u : PUnit) : State :=
  u.moves.foldl (fun t v => t.dropMove d v) ((s.takeUnit d u).requeue d u)

/-- A block leaves the LUN's open blocks. -/
def Lun.closeBlk (l : Lun) (b : Nat) : Lun :=
  let keep := fun (o : Option (Nat × Nat)) => o.filter fun e => !decide (e.1 = b)
  { l with openData := keep l.openData, openMap := keep l.openMap }

/-- A program fails: the block is retired and closed, its flakes resolve, its map pages are programmed again,
and no unit that waits on the block is programmed (07 Table 07.2, 08 R193). -/
def State.programFails (s : State) (d : Nat) (u : PUnit) : State :=
  let s := (s.inc (ixFlash d (u.lun / 32)) 4).addMoraine d u.blk 2
  let s := s.setLun d u.lun ((s.lunOf d u.lun).closeBlk u.blk)
  let s := (u.pages.zip u.moves).foldl (fun t e => t.failMove d e.1 e.2) s
  let s := s.requeue d u
  let s := ((s.die d).units.filter fun v => decide (v.blk = u.blk) && !v.running).foldl (fun t v => t.dropUnit d v) s
  s.report d cProgramFail 1 0 [d, u.blk]

/-- Pad pages of a unit (08 F.0D). -/
def State.padsOfUnit (s : State) (d : Nat) (u : PUnit) : Nat :=
  (u.pages.filter fun a => decide ((s.page d a).typ = 5)).length

/-- A running unit has its status: its pages and pads count as programmed, and what it moves or saves resolves
(07 Table 07.2, 08 R193). -/
def State.resolveUnit (s : State) (d : Nat) (u : PUnit) (pass : Bool) : State :=
  let x := s.die d
  let s := ((s.addReg (ixGlacier d) 0x0D (s.padsOfUnit d u) u32max).setDie d
    { x with units := x.units.filter fun v => !decide (v.num = u.num) }).countPages u.pages.length
  if pass then
    let s := u.pages.foldl (fun t a => t.pageDone d a) s
    let s := (u.pages.zip u.moves).foldl (fun t e => t.passMove d e.1 e.2) s
    (u.pages.zip u.jobs).foldl (fun t e => t.passJob d e.1 e.2) s
  else s.programFails d u

/-- PROGRAM_STATUS: the status of a running unit (07 Table 07.2, 08 R193). -/
def State.programStatus (s : State) (d num : Nat) (pass : Bool) : State :=
  match (s.die d).units.find? fun u => decide (u.num = num) && u.running with
  | none => s
  | some u => ((s.resolveUnit d u pass).settleLun d u.lun).advanceMaps d

def execProgramStatus (die unit : Nat) (pass : Bool) (s : State) : Host.Outcome State Fault Refusal :=
  act (fun s => if s.flashHalted die then s else (s.programStatus die unit pass).restDrained) s

/-- Running sweeps and their watermarks (03 R78). -/
def State.sweepList (s : State) : List (Nat × Nat) :=
  (s.ten.keys.filter fun e => decide (1024 ≤ e.1) && decide (e.2.st = 4)).map fun e =>
    (e.2.ten, (s.tenancy e.2.ten).watermark)

/-- Home flakes of a die that only a rekey sweep has marked, as its map records them (03 R77; log 40). -/
def State.sweptHome (s : State) (d : Nat) : List Nat := s.shadow.swept.filter fun m => decide (s.homeDie m = d)

/-- What a boundary fixes of a die's seal (07 Table 07.6). -/
def State.draftSeal (s : State) (d e : Nat) : Seal :=
  { epoch := e, root := 0, openBlocks := [], snowline := s.dieSnow d * flakeBytes, budget := s.budget, whole := true,
    sweeps := s.sweepList, checkpoints := s.shadow.ckptDone, swept := s.sweptHome d, saved := 0, lost := 0, source := 0,
    time := 0, duration := 0, thawRunning := false, progSeq := (s.die d).progSeq }

/-- Summary codes age at a boundary (07 R157). -/
def ageCode (c : Nat) : Nat := if c = 0 then 0 else min 3 (c + 1)

/-- Dies that work: those that close epochs and seal (01 R27, log 135). -/
def State.workingDies (s : State) : List Nat := s.dieList.filter fun d => !s.dieOut d

/-- What the close of an epoch fixes on a die: its seal, and its changed map pages, the whole map at the first
arming, on their way to the glacier (07 Table 07.5 steps 1 to 3, R164). -/
def State.closeOn (s : State) (d : Nat) (sl : Seal) : State :=
  let x := s.die d
  let pages := if s.shadow.counter.isNone then List.range (s.mapTotal d) else x.mapChanged
  (s.setDie d { x with
    closing := some sl, mapChanged := [], heatChanged := x.heatChanged.filter fun p => !pages.elem p }).startMaps d
      pages

/-- 07 Table 07.5 steps 1 to 3 on every die: epoch e closes. -/
def State.closeEpoch (s : State) (e : Nat) : State :=
  let t := s.workingDies.foldl (fun t d => t.closeOn d (s.draftSeal d e)) s
  { t with shadow := { t.shadow with
      summary := t.shadow.summary.map fun (x : Nat × Nat) => (x.1, ageCode x.2)
      sealing := (s.ten.keys.filter fun x => decide (1024 ≤ x.1) && decide (x.2.st = 5)).map (·.1)
      ckptDone := [], ckptSealing := s.shadow.ckptDone, boundaryDue := false } }

/-- An epoch close runs on some die. -/
def State.closingAny (s : State) : Bool := s.workingDies.any fun d => (s.die d).closing.isSome

/-- A boundary: epoch e closes and e + 1 opens; the counter is committed (07 R163, R165). The changed map pages
are programmed in the epoch that opens. -/
def State.boundary (s : State) : State :=
  let e := s.shadow.epoch
  ({ s with shadow := { s.shadow with epoch := e + 1, counter := some (e + 1) } } : State).closeEpoch e

/-- EPOCH_BOUNDARY: no epoch runs before persistence is first armed; a boundary waits for the close
that still runs, and the stretch is counted (07 R163–R166). -/
def execEpochBoundary (s : State) : Host.Outcome State Fault Refusal :=
  act (fun s =>
    if s.shadow.counter = none ∨ s.shadow.arming = true ∨ s.freeze.active = true ∨ s.seq.st ≠ 12 then s
    else if s.closingAny then
      if s.shadow.boundaryDue then s
      else { s with shadow := { s.shadow with boundaryDue := true } }.inc 0x5801 4
    else s.boundary) s

/-- Write a seal into the slot that does not hold the newest valid one (07 R167). -/
def DieShadow.writeSeal (x : DieShadow) (sl : Seal) : DieShadow :=
  match x.sealA.filter (·.whole), x.sealB.filter (·.whole) with
  | none, _ => { x with sealA := some sl }
  | some _, none => { x with sealB := some sl }
  | some a, some b => if a.epoch < b.epoch then { x with sealA := some sl } else { x with sealB := some sl }

/-- The seal in a slot is valid and of an epoch. -/
def sealIs (e : Nat) : Option Seal → Bool
  | some a => a.whole && decide (a.epoch = e)
  | none => false

/-- Every die that works holds a seal for an epoch. -/
def State.sealedBy (s : State) (e : Nat) : Bool :=
  s.workingDies.all fun d => sealIs e (s.die d).sealA || sealIs e (s.die d).sealB

/-- 03 R79: transit slots whose sweep the sealed boundary records as complete move home. -/
def State.sealSweeps (s : State) : State :=
  s.shadow.sealing.foldl (fun t k =>
    let x := t.keySlot k
    if x.st = 5 then
      let h := t.keySlot x.ten
      ((t.setKey x.ten { h with material := x.material, gen := min u32max (h.gen + 1) }).setKey k
        x.cleared).setTen x.ten { t.tenancy x.ten with watermark := u64max }
    else t) { s with shadow := { s.shadow with sealing := [] } }

/-- The seals of an epoch are written: it is the last checkpoint epoch of the tenancies that they list (07 R177). -/
def State.sealCheckpoints (s : State) (e : Nat) : State :=
  s.shadow.ckptSealing.foldl (fun t n => t.setReg (ixPer 0x5818 n) (subPer n) e)
    { s with shadow := { s.shadow with ckptSealing := [] } }

/-- 07 R164: the first arming, once epoch seal 0 is written on every die. -/
def State.firstArmed (s : State) : State :=
  let s := s.setReg 0x5803 3 s.aon.deviceTime
  { s with shadow := { s.shadow with
      arming := false, armed := true, forceThrough := false, counter := some 1, epoch := 1 } }.report
    0 cArmed 0 0 []

/-- Every die has sealed an epoch (07 R164, R177; 03 R79): what follows from it. -/
def State.allSealed (s : State) (sl : Seal) : State :=
  let s : State := { s with shadow := { s.shadow with sealedAll := some sl.epoch } }
  let s := s.sealSweeps.sealCheckpoints sl.epoch
  let s := if s.shadow.arming then s.firstArmed else s
  if s.shadow.boundaryDue then s.boundary else s

/-- EPOCH_SEAL_WRITE: the map, index and root index pages of the closing epoch have passed (07 R165–R167,
08 R192). A write that is cut short leaves its slot invalid, and the die has not sealed (R167, log 131). -/
def State.epochSeal (s : State) (d : Nat) (whole : Bool) : State :=
  let x := s.die d
  match x.closing with
  | none => s
  | some c =>
    let sl := { c with root := x.rootAddr, openBlocks := x.openSince }
    if s.freeze.active || s.dieOut d || decide (x.phase ≠ 4) then s
    else if !whole then s.setDie d (x.writeSeal { sl with whole := false })
    else
      let s := s.setDie d { x.writeSeal sl with closing := none, phase := 0, mapPages := [], openSince := [] }
      if s.sealedBy c.epoch then s.allSealed sl else s

def execEpochSealWrite (die : Nat) (whole : Bool) (s : State) : Host.Outcome State Fault Refusal :=
  act (fun s => s.epochSeal die whole) s

/-- PERSISTENCE_ARM: the ten seconds of R179 have passed. The first arming closes epoch 0 first
(07 R164). -/
def execPersistenceArm (s : State) : Host.Outcome State Fault Refusal :=
  act (fun s =>
    if s.shadow.armed = true ∨ s.shadow.arming = true ∨ s.seq.st ≠ 12 ∨ s.freeze.active = true then s
    else
      match s.shadow.counter with
      | some _ =>
        if s.armable (gib 2) then
          { s with shadow := { s.shadow with armed := true, forceThrough := false } }.report 0 cArmed 0 0 []
        else s
      | none =>
        if s.armable (gib 1) then
          { s with shadow := { s.shadow with arming := true } }.closeEpoch 0
        else s) s

/-- Bytes programmed in the last 24 hours (07 R182). -/
def State.dayBytes (s : State) : Nat := (s.shadow.dayBuckets.take 24).sum

/-- 07 R182: the wear horizon in days. -/
def State.horizon (s : State) : Nat := if s.dayBytes = 0 then u32max else min u32max (s.wearBytes / s.dayBytes)

/-- The wear horizon is shorter than the planned life that is left (07 R182). -/
def State.wearsOut (s : State) : Bool :=
  decide (s.dayBytes ≠ 0) && decide (s.wearBytes * 86400000000 < s.lifeLeft * s.dayBytes)

/-- WEAR_HORIZON_UPDATE: the hourly computation, with a warning once a day when it is short. -/
def execWearHorizonUpdate (s : State) : Host.Outcome State Fault Refusal :=
  act (fun s =>
    let h := s.horizon
    let short := s.wearsOut
    let s := s.setReg 0x5803 6 h
    let s : State := { s with shadow := { s.shadow with dayBuckets := (0 :: s.shadow.dayBuckets).take 24 } }
    let due := match s.shadow.wearWarned with
      | some t => decide (86400000000000 ≤ s.aon.now - t)
      | none => true
    if short = true ∧ due = true then
      { s with shadow := { s.shadow with wearWarned := some s.aon.now } }.report 0 cWearHorizon 1 0 [h]
    else s) s

end Sys2Proof.Machine
end

