-- ==== Sys2Proof/Machine/Flash.lean ====
section
/-! DEFINITION. The glacier's upkeep: erases and their intents, page reads and retry levels, garbage
collection, relocation, verification, and the loss of a LUN (08 R195–R210). -/
namespace Sys2Proof.Machine

/-- Blocks of a LUN that are free (08 F.05). -/
def State.freeBlocks (s : State) (d l : Nat) : Nat :=
  s.goodBlocks d l - ((s.die d).blocks.filter fun e =>
    decide (lunOfBlk e.1 = l) && decide (e.2 ≠ 5)).length

/-- A LUN has fewer free blocks than k times the low watermark (08 R206). -/
def State.lowOn (s : State) (d l k : Nat) : Bool :=
  decide (s.freeBlocks d l * 1000 < k * s.reg (ixGlacier d) 7 * s.goodBlocks d l)

/-- The current pages of a die: those that the flake map or the map index points to (08, Garbage
collection). -/
def State.currentPages (s : State) (d : Nat) : List Nat :=
  let x := s.die d
  (((s.shadow.fmap.filter fun e => decide (s.homeDie e.1 = d)).map (·.2)) ++ x.mapAddr.map (·.2) ++
    x.indexAddr.map (·.2) ++ [x.rootAddr]).filter (· ≠ 0)

/-- The page is current. -/
def State.currentPage (s : State) (d a : Nat) : Bool := (s.currentPages d).elem a

/-- Current pages of a block. -/
def State.currentIn (s : State) (d b : Nat) : List Nat :=
  (s.currentPages d).filter fun a => decide (blkOfPage a = b)

/-- 08 R205: the block may be erased. -/
def State.mayErase (s : State) (d b : Nat) : Bool :=
  let st := look 0 (s.die d).blocks b
  (decide (st = 3) || decide (st = 4)) && (s.currentIn d b).isEmpty &&
    (match s.shadow.sealedAll with
     | some e => decide (look 0 (s.die d).staleEpoch b ≤ e)
     | none => false)

/-- Background work on a die's flash goes on: in service, outside a freeze, its rails kept (08 R201, R206). -/
def State.flashWorks (s : State) (d : Nat) : Bool :=
  (decide (s.seq.st = 12) || decide (s.seq.st = 15)) && !s.freeze.active && s.seq.release.isEmpty && !s.flashHalted d

/-- Erases start on a die: while its flash is in service, and for the map pages that a thaw programs (08 R189,
R201; 09 R231). -/
def State.mayStartErase (s : State) (d : Nat) : Bool :=
  s.flashWorks d || (decide (s.seq.st = 11) && !s.freeze.active && s.seq.release.isEmpty && !s.flashHalted d)

/-- A block is to be erased: one for reuse, or one of the boot region that a transfer needs (08 R205, 18 Table 18.1). -/
def State.eraseDue (s : State) (d b : Nat) : Bool := s.mayErase d b || (decide (d = 0) && s.fw.bootErase.elem b)

/-- A block of the boot region has been erased, or retired. -/
def State.bootErased (s : State) (b : Nat) : State :=
  { s with fw := { s.fw with bootErase := without b s.fw.bootErase } }

/-- ERASE_START: the intent is written first; no erase starts in a freeze, while a program runs on the LUN, or
while a read is queued for it (08 R197, R201, R205). -/
def execEraseStart (die lun blk : Nat) (s : State) : Host.Outcome State Fault Refusal :=
  act (fun s =>
    let k := s.lunOf die lun
    if lunOfBlk blk = lun ∧ (s.allLuns die).elem lun = true ∧ k.erasing = none ∧ s.mayStartErase die = true ∧
        s.readsFor die lun = false ∧ s.programs die lun = false ∧ s.eraseDue die blk = true then
      let s := s.setLun die lun { k with erasing := some blk, suspends := 0, susp := 0 }
      let x := s.die die
      s.setDie die { x with intents := put 0 x.intents lun blk }
    else s) s

/-- A suspension of a LUN's erase has completed: the program that asked for it is issued first; the reads follow,
and one further unit (08 R197). -/
def State.eraseSuspended (s : State) (d l : Nat) : State :=
  let k := s.lunOf d l
  if s.flashHalted d = true ∨ k.erasing = none ∨ (k.susp ≠ 1 ∧ k.susp ≠ 2) then s
  else
    let s := s.setLun d l { k with susp := 3 }
    (if k.susp = 2 then s.issueUnits d (onPlanes (s.readyUnits d l)) else s).settleLun d l

/-- ERASE_SUSPENDED. -/
def execEraseSuspended (die lun : Nat) (s : State) : Host.Outcome State Fault Refusal :=
  act (fun s => s.eraseSuspended die lun) s

/-- Garbage collection of a die stops when every LUN is at twice the low watermark (08 R206). -/
def State.gcSettle (s : State) (d : Nat) : State :=
  if (s.die d).gcOn && (s.allLuns d).all fun l => !s.lowOn d l 2 then
    s.setDie d { s.die d with gcOn := false }
  else s

/-- The pages of a block read no more: it is erased, or half erased and not trusted for data (08 R202). -/
def DieShadow.dropPages (x : DieShadow) (b : Nat) : DieShadow :=
  { x with pages := x.pages.filter fun e => !decide (blkOfPage e.1 = b) }

/-- Forget a block that has been erased. -/
def DieShadow.wipeBlock (x : DieShadow) (b : Nat) : DieShadow :=
  { x.dropPages b with
    blocks := put 0 x.blocks b 0
    staleEpoch := put 0 x.staleEpoch b 0
    openSince := without b x.openSince }

/-- The status of the erase that runs on a LUN (08 R194, R201); a suspended one has none. -/
def State.eraseStatus (s : State) (d l : Nat) (pass : Bool) : State :=
  let k := s.lunOf d l
  match k.erasing with
  | none => s
  | some b =>
    if 3 ≤ k.susp then s
    else
      let s := s.setLun d l { k with erasing := none, suspends := 0, susp := 0 }
      let x := s.die d
      let s := s.setDie d { x with intents := put 0 x.intents l 0 }
      let s := if d = 0 then s.bootErased b else s
      let s := if pass then
          let s := s.setDie d ((s.die d).wipeBlock b)
          if isBootBlk d b then s else (s.inc (ixGlacier d) 0x0C).gcSettle d
        else ((s.setDie d ((s.die d).dropPages b)).inc (ixFlash d (l / 32)) 5).addMoraine d b 3
      (s.startUnits d l).advanceMaps d

def execEraseStatus (die lun : Nat) (pass : Bool) (s : State) : Host.Outcome State Fault Refusal :=
  act (fun s => if s.flashHalted die then s else s.eraseStatus die lun pass) s

/-- The page of a fetch cannot be had (09 R233): the flake is POISONED, listed and recorded. -/
def State.fetchFails (s : State) (d m : Nat) : State :=
  let s := (s.poisonFlake m true).report d cPageUnreadable 2 0 [m]
  let s : State := { s with freeze := { s.freeze with filled := addOnce m s.freeze.filled } }
  let s := if s.thawing then
      { s with freeze := { s.freeze with poisoned := addOnce m s.freeze.poisoned } }.addReg 0x6800 0x0A 1 u64max
    else s
  (s.serveWaiting m).settleMark (s.driftOf m)

/-- Flakes of a die in a firn state whose page lies on a LUN. -/
def State.flakesOnLun (s : State) (d l c : Nat) : List Nat :=
  (s.shadow.fmap.filter fun e =>
    decide (s.homeDie e.1 = d) && decide (lunOfBlk (blkOfPage e.2) = l) && decide (s.firn e.1 = c)).map
      (·.1)

/-- The map page whose writing replaces a current map, index or root index page (08 R192). -/
def DieShadow.mapNumOf (x : DieShadow) (a : Nat) : Option Nat :=
  match x.mapAddr.find? fun e => decide (e.2 = a), x.indexAddr.find? fun e => decide (e.2 = a) with
  | some e, _ => some e.1
  | none, some e => some (2048 * e.1)
  | none, none => if x.rootAddr = a then some 0 else none

/-- A current map, index or root index page is to be written afresh: its map page is marked changed, for an
index page the first one below it, for the root index page map page 0 (08 R204, R207; log 136). -/
def State.markMap (s : State) (d a : Nat) : State :=
  let x := s.die d
  match x.mapNumOf a with
  | some m => s.setDie d { x with mapChanged := addOnce m x.mapChanged }
  | none => s

/-- The page is a current map, index or root index page. -/
def State.isMapPage (s : State) (d a : Nat) : Bool :=
  let x := s.die d
  decide (a ≠ 0) && ((x.mapAddr.any fun e => decide (e.2 = a)) || (x.indexAddr.any fun e => decide (e.2 = a)) ||
    decide (x.rootAddr = a))

/-- 07 Table 07.2: the page of a CLEAN flake cannot be read, or its LUN failed: DIRTY, with a Warning record. -/
def State.redirtyWarn (s : State) (d m a : Nat) : State := (s.redirty m).report d cVerify 1 0 [m, a]

/-- The flake whose data a page holds, while it is CLEAN and its entry points there. -/
def State.cleanAt (s : State) (d a : Nat) : Option Nat :=
  let m := (s.page d a).flake
  match (s.page d a).body with
  | .data _ _ => if s.firn m = fClean ∧ s.fmapOf m = a then some m else none
  | _ => none

/-- A relocation's old page has been read: its data and bitmap go on unchanged, or its CLEAN flake
becomes DIRTY (08 R204, 07 Table 07.2). -/
def State.moveRead (s : State) (d : Nat) (r : PRead) (ok : Bool) : State :=
  match (s.die d).pumps.find? fun p => decide (p.flake = r.flake) && decide (p.moving = some r.page) with
  | none => s
  | some p =>
    match ok, (s.page d r.page).body with
    | true, .data bm ls => s.setPump d { p with ready := true, bitmap := bm, lines := ls }
    | _, _ =>
      let s := s.dropPump d p.num
      if s.cleanAt d r.page = some r.flake then s.redirtyWarn d r.flake r.page else s

/-- What waits for a page gets its answer: a relocation and a migration go on at once, a fetch and a heal with
their own commands. -/
def State.readDone (s : State) (d : Nat) (r : PRead) (ok : Bool) : State :=
  if r.purpose = 2 then s.moveRead d r ok
  else if r.purpose = 3 then s.migratePage r.flake r.page ok
  else
    let x := s.die d
    s.setDie d { x with reads := { r with res := some ok } :: x.reads }

/-- A LUN's queued reads fail with it. -/
def State.failReads (s : State) (d l : Nat) : State :=
  let gone := fun r : PRead => decide (lunOfBlk (blkOfPage r.page) = l) && r.res.isNone
  let x := s.die d
  let s := s.setDie d { x with reads := x.reads.filter fun r => !gone r }
  (x.reads.filter gone).foldl (fun t r => t.readDone d r false) s

/-- 08 R209, R210: a LUN fails. -/
def State.failLun (s : State) (d l : Nat) : State :=
  let k := s.lunOf d l
  if k.failed ∨ (s.allLuns d).elem l = false then s
  else
    let clean := s.flakesOnLun d l fClean
    let gone := s.flakesOnLun d l fUnrestored
    let on := fun a : Nat => decide (lunOfBlk (blkOfPage a) = l)
    let maps := (s.currentPages d).filter fun a => s.isMapPage d a && on a
    let units := (s.die d).units.filter fun u => decide (u.lun = l)
    let s := s.setLun d l { k with
      failed := true, openData := none, openMap := none, erasing := none, susp := 0 }
    let s := (s.blocksOf d l).foldl (fun t b => t.addMoraine d b 5) s
    let s := maps.foldl (fun t a => t.markMap d a) s
    let x := s.die d
    let s := s.setDie d { x with
      units := x.units.filter fun u => !decide (u.lun = l)
      pages := x.pages.filter fun e => !on e.1
      intents := put 0 x.intents l 0 }
    let s := units.foldl (fun t u =>
      if u.running then ((u.pages.zip u.moves).foldl (fun t e => t.failMove d e.1 e.2) t).requeue d u
      else t.dropUnit d u) s
    let s := if (s.activeLuns d (l / 32)).isEmpty then s.setReg (ixFlash d (l / 32)) 1 4 else s
    let s := s.report d cLunFailed 2 0 [d, l]
    let s := clean.foldl (fun t m => t.redirtyWarn d m (t.fmapOf m)) s
    let s := gone.foldl (fun t m => t.fetchFails d m) s
    (s.failReads d l).advanceMaps d

/-- LUN_FAIL: a LUN has failed two resets in succession, or the interface of its channel has stopped responding,
which fails all its LUNs (08 R209). -/
def execLunFail (die : Nat) (unit : FlashUnit) (s : State) : Host.Outcome State Fault Refusal :=
  act (fun s =>
    match unit with
    | .lun l => s.failLun die l
    | .channel f => (s.activeLuns die f).foldl (fun t l => t.failLun die l) s) s

/-- OPERATION_TIMEOUT: the program, on every plane that it runs on, or the erase of a LUN that is not ready within 50 ms
counts as failed;
the LUN is reset, and a fourth such failure within an hour fails it (08 R195, R209). -/
def State.opTimeout (s : State) (d l : Nat) : State :=
  let units := (s.die d).units.filter fun u => decide (u.lun = l) && u.running
  if s.flashHalted d = true ∨ units = [] ∧ ((s.lunOf d l).erasing = none ∨ 3 ≤ (s.lunOf d l).susp) then s
  else
    let s := if units.isEmpty then s.eraseStatus d l false
      else ((units.foldl (fun t u => t.resolveUnit d u false) s).settleLun d l).advanceMaps d
    let k := s.lunOf d l
    let times := s.aon.now :: k.notReady.filter fun t => decide (s.aon.now - t < 3600000000000)
    let s := s.setLun d l { k with notReady := times }
    if 4 ≤ times.length then s.failLun d l else s

def execOperationTimeout (die lun : Nat) (s : State) : Host.Outcome State Fault Refusal :=
  act (fun s => s.opTimeout die lun) s

/-- The codewords of a page decode (08 R190, R200). -/
def decodes (res : List PageDecode) : Bool := res.all fun r => decide (r ≠ .fails)

/-- The LUN serves a read now: no program runs there, and no erase that is not suspended (08 R197). -/
def State.lunReads (s : State) (d l : Nat) : Bool :=
  let k := s.lunOf d l
  !s.programs d l && (k.erasing.isNone || decide (3 ≤ k.susp))

/-- PAGE_READ_RESULT: the oldest read of a page decodes, or is tried at a further of eight levels, or is reported
unreadable; a page that needed a level is relocated if its flake is CLEAN (08 R200). -/
def State.readResult (s : State) (d a : Nat) (res : List PageDecode) : State :=
  let l := lunOfBlk (blkOfPage a)
  if s.flashHalted d || !s.lunReads d l then s
  else
    match takeRead (fun r => decide (r.page = a) && r.res.isNone) (s.die d).reads with
    | none => s
    | some (r, rest) =>
      let ok := decodes res && s.pageReads d a
      let s := if !ok ∧ r.level = 0 then s.inc (ixGlacier d) 0x0A else s
      let x := s.die d
      if !ok ∧ r.level < 8 then s.setDie d { x with reads := { r with level := r.level + 1 } :: rest }
      else
        let s := if ok ∧ 0 < r.level ∧ (s.cleanAt d a).isSome = true then s.wantMove d a else s
        let s := s.setDie d { s.die d with reads := rest }
        (s.readDone d r ok).settleLun d l

def execPageReadResult (die page : Nat) (res : List PageDecode) (s : State) :
    Host.Outcome State Fault Refusal :=
  act (fun s => s.readResult die page res) s

/-- The page is already on its way to a fresh one. -/
def State.moving (s : State) (d a : Nat) : Bool :=
  let x := s.die d
  x.relocate.elem a || (x.pumps.any fun p => decide (p.moving = some a)) ||
    x.units.any fun u => u.moves.any fun v => decide (v.old = some a)

/-- A current page of a block marked for erase that nothing moves any more, a reset having dropped what was wanted. -/
def State.leftBehind (s : State) (d a : Nat) : Bool :=
  let x := s.die d
  !s.moving d a &&
    (match x.mapNumOf a with
     | some n => !(x.mapChanged.elem n || x.mapPages.elem n)
     | none => true)

/-- The closed block of a die with the fewest current pages (08 R206); a block marked for erase counts while a
page of it is still to be moved. -/
def State.gcVictim (s : State) (d : Nat) : Option Nat :=
  let l := ((s.die d).blocks.filter fun e =>
    decide (e.2 = 3) || (decide (e.2 = 4) && (s.currentIn d e.1).any (s.leftBehind d))).map (·.1)
  match l with
  | [] => none
  | b :: bs =>
    some (bs.foldl (fun m c => if (s.currentIn d c).length < (s.currentIn d m).length then c else m) b)

/-- Garbage collection takes a block: its current pages are to be moved, and it is marked for
erase. -/
def State.gcTake (s : State) (d : Nat) : State :=
  match s.gcVictim d with
  | none => s
  | some b =>
    let s := (s.currentIn d b).foldl (fun t a => t.wantMove d a) s
    let x := s.die d
    s.setDie d { x with blocks := put 0 x.blocks b 4 }

/-- GC_TRIGGER: a LUN is below its low watermark, or, while collection runs, below twice it
(08 R206). -/
def execGcTrigger (die lun : Nat) (s : State) : Host.Outcome State Fault Refusal :=
  act (fun s =>
    if s.flashWorks die = true ∧ s.thawing = false ∧ (s.allLuns die).elem lun = true ∧
        (s.lowOn die lun 1 = true ∨ ((s.die die).gcOn = true ∧ s.lowOn die lun 2 = true)) then
      (s.setDie die { s.die die with gcOn := true }).gcTake die
    else s) s

/-- Pumps that relocation may use on a die, and whether at P5 (08 R206). -/
def State.gcPumps (s : State) (d : Nat) : Nat × Nat :=
  if (s.allLuns d).any fun l =>
      decide (4000 * s.freeBlocks d l < s.reg (ixGlacier d) 7 * s.goodBlocks d l)
  then (64, 5) else (32, 9)

/-- RELOCATE_PAGE: a page that is to be moved, or that lies in a retired block (08 R193, R204): a pump takes the
data page of a CLEAN flake, whose lines it reads from DRAM; a map page is marked changed. -/
def State.relocatePage (s : State) (d a : Nat) : State :=
  let x := s.die d
  let bad := decide (look 0 x.blocks (blkOfPage a) = 5)
  if !(x.relocate.elem a || (bad && !s.moving d a)) || !s.flashWorks d then s
  else
    let t := s.setDie d { x with relocate := without a x.relocate }
    if s.isMapPage d a then t.markMap d a
    else
      match s.cleanAt d a, freePump x.pumps with
      | none, _ => t
      | some m, some k =>
        let g := s.gcPumps d
        if (x.pumps.filter fun p => p.moving.isSome).length < g.1 then
          let y := t.die d
          let prio := if bad then 5 else g.2
          (t.setDie d { y with
            pumps := y.pumps ++ [{ num := k, flake := m, ready := false, prio := prio, bitmap := 0, lines := [],
                                   moving := some a, stale := false }] }).queuePump d k m prio
        else s
      | some _, none => s

def execRelocatePage (die page : Nat) (s : State) : Host.Outcome State Fault Refusal :=
  act (fun s => s.relocatePage die page) s

/-- The least of a list from a bound on. -/
def leastFrom (b : Nat) (l : List Nat) : Option Nat :=
  (l.filter fun a => decide (b ≤ a)).foldl (fun m a =>
    match m with
    | some x => some (min x a)
    | none => some a) none

/-- The page that the verification walk reads next, in block order; after the last it waits for the next period
(08 R207). -/
def State.nextVerify (s : State) (d : Nat) : Option Nat :=
  let x := s.die d
  let l := (s.currentPages d).filter fun a => (s.allLuns d).elem (lunOfBlk (blkOfPage a))
  match leastFrom x.verifyAt l with
  | some a => some a
  | none =>
    if x.verifySince + s.reg (ixGlacier d) 8 * 3600000000000 ≤ s.aon.now then leastFrom 0 l else none

/-- A read that is served within its step suspends the erase it meets, which then resumes (08 R197). -/
def State.readThrough (s : State) (d l : Nat) : State :=
  let t := s.suspendErase d l
  if (s.lunOf d l).susp = 0 then t.setLun d l { t.lunOf d l with susp := 0 } else t

/-- A LUN's erase has used the device's suspension limit (08 R198). -/
def State.eraseSpent (s : State) (d l : Nat) : Bool :=
  let k := s.lunOf d l
  k.erasing.isSome && decide (k.susp = 0) &&
    decide (((s.nandOf d (l / 32)).map (·.suspendLimit)).getD 64 ≤ k.suspends)

/-- VERIFY_READ: the walk reads the next current page and acts on a weak or unreadable one, with a Warning
record (08 R207). A read that meets an erase at its limit is counted once, and waits for it (R198). -/
def State.verifyRead (s : State) (d a levels : Nat) (res : List PageDecode) : State :=
  let l := lunOfBlk (blkOfPage a)
  if s.nextVerify d ≠ some a ∨ s.flashWorks d = false ∨ s.programs d l = true then s
  else if s.eraseSpent d l then
    if (s.die d).verifyHeld then s
    else (s.setDie d { s.die d with verifyHeld := true }).inc (ixGlacier d) 0x0B
  else
    let x := { s.die d with verifyHeld := false }
    let s := (s.setDie d { x with
      verifyAt := a + 1, verifySince := if a < x.verifyAt then s.aon.now else x.verifySince }).readThrough d l
    let ok := decodes res && s.pageReads d a
    let s := if levels = 0 ∧ ok = true then s else s.inc (ixGlacier d) 0x0A
    if ok = true ∧ levels = 0 ∧ res.elem .weak = false then s
    else
      match s.cleanAt d a, ok with
      | some _, true => (s.wantMove d a).report d cVerify 1 0 [a]
      | some m, false => s.redirtyWarn d m a
      | none, _ => (s.markMap d a).report d cVerify 1 0 [a]

def execVerifyRead (die page : Nat) (res : PageVerify) (s : State) : Host.Outcome State Fault Refusal :=
  act (fun s => s.verifyRead die page res.levels res.words) s

end Sys2Proof.Machine
end

