-- ==== Sys2Proof/Machine/Battery.lean ====
section
/-! DEFINITION. Battery estimation and the energy account: counted charge and its anchors, the learned
record, the load and decay of the energy-derived limit, and learn cycles (11). -/
namespace Sys2Proof.Machine

/-- Divisor of the accumulator: code x ACLK cycles x 9 over this is a charge in mC, for channel 25 at
gain 8 over the shunt of 0x7000.06 (11 R266, 13 R306, R311). -/
def State.chargeDen (s : State) : Int := 16384 * (s.reg 0x7000 6 : Int)

/-- 11 R267: Q follows the accumulator between anchors, held within 0 to FCC. -/
def State.followCharge (s : State) (k : Int) : State :=
  let r := s.bat.rest + 9 * k
  let w := r.tdiv s.chargeDen
  let q := min (((s.bat.q : Int) + w).toNat) s.bat.fcc
  { s with bat := { s.bat with
      q := q, rest := r - w * s.chargeDen
      anchorReady := s.bat.anchorReady || decide (100 * q ≤ 98 * s.bat.fcc) } }

/-- 13 R311: an entry 0 result reaches the charge accumulator. -/
def State.countCharge (s : State) (k : Int) : State :=
  let s : State := { s with bat := { s.bat with acc := s.bat.acc + k } }
  if s.bat.counting && s.bat.anchored then s.followCharge k else s

/-- 11 Table 11.5: the learned record as it stands now. -/
def State.learnedNow (s : State) : Learned :=
  { fcc := s.bat.fcc, q := s.charge, anchor := if s.bat.anchored then s.bat.anchor else 0,
    lastLearn := s.bat.lastLearn, learns := s.bat.learns, required := s.bat.required,
    present := s.bat.present, restored := s.bat.restored }

/-- 11 R279: write the learned record to the slot whose turn it is. -/
def State.writeLearned (s : State) : State :=
  if s.bat.nextB then { s with bat := { s.bat with recB := some s.learnedNow, nextB := false } }
  else { s with bat := { s.bat with recA := some s.learnedNow, nextB := true } }

/-- The newer valid slot of the learned record (11 R280). -/
def Battery.newest (b : Battery) : Option Learned :=
  if b.nextB then b.recA.or b.recB else b.recB.or b.recA

/-- 11 R282: what follows when a pack returns. -/
def State.packReturns (s : State) : State :=
  let s : State := { s with bat := { s.bat with
    fcc := s.reg 0x7000 1 / 2, q := 0, rest := 0, anchored := false, anchor := 0, anchorReady := true
    required := true, warned := false } }
  s.writeLearned.report 0 cPackChange 0 0 []

/-- 11 R280, R282: in state 10 the account takes up the learned record of the ledger, with the charge
counted since the accumulator started. -/
def State.loadLearned (s : State) : State :=
  match s.bat.newest with
  | some r =>
    let s : State := { s with bat := { s.bat with
      fcc := r.fcc, q := r.q, rest := 0, anchor := r.anchor, anchored := decide (r.anchor ≠ 0)
      lastLearn := r.lastLearn, learns := r.learns, required := r.required, restored := r.restored
      lost := false, counting := true } }
    let s := if s.bat.anchored then s.followCharge s.bat.acc else s
    if r.present = false ∧ s.bat.present = true then s.packReturns
    else if r.present = true ∧ s.bat.present = false then s.writeLearned.report 0 cPackChange 0 0 []
    else s
  | none =>
    { s with bat := { s.bat with
        fcc := s.reg 0x7000 1 / 2, q := 0, rest := 0, anchor := 0, anchored := false
        required := true, restored := false, lost := true, counting := true } }

/-- 11 R278: a learn cycle ends early with an outcome of 0x7001.06. -/
def State.abortLearn (s : State) (outcome : Nat) : State :=
  if s.bat.learn = 0 then s
  else { s with bat := { s.bat with learn := 0 } }.setReg 0x7001 6 outcome

/-- 11 Table 11.3 step 3: the main stretch begins at the anchor. -/
def State.beginMain (s : State) : State :=
  { s with bat := { s.bat with learn := 2, learnBase := s.bat.anchorAcc } }

/-- Charge counted out since the anchor of the cycle, mC. -/
def State.countedOut (s : State) : Nat := (9 * (s.bat.learnBase - s.bat.acc) / s.chargeDen).toNat

/-- 11 R275: B_pred. -/
def State.predicted (s : State) : Nat :=
  s.budgetWith (s.limitOf
    (s.cisternNum ((s.reg 0x7000 4 - s.reg 0x7001 4) * s.bat.fcc) (ktOf s.bat.temp)))

/-- The pack temperature is 10–40 degrees. -/
def State.learnWarm (s : State) : Bool :=
  decide (100 ≤ s.bat.temp) && decide (s.bat.temp ≤ 400) && !s.bat.thermFault

/-- 11 R275: a learn cycle is admitted. -/
def State.mayLearn (s : State) : Bool :=
  s.bat.present && decide (s.reg 0x7000 1 ≠ 0) && s.learnWarm && !s.freeze.active && !s.thawing &&
    decide (s.bat.learn = 0) && s.bat.decayAt.isNone && decide (11 * s.snowline ≤ 10 * s.predicted)

/-- 11 Table 11.3 steps 1 and 2: an admitted cycle charges to full, or goes on at once from an anchor
less than 10 minutes old with CHG_EN high since. -/
def State.beginLearn (s : State) : State :=
  let s : State := { s with bat := { s.bat with learnAt := s.aon.now } }
  if s.bat.anchored ∧ s.bat.chgHeld = true ∧ s.aon.deviceTime - s.bat.anchor < 600000000 then s.beginMain
  else { s with bat := { s.bat with learn := 1 } }

/-- The limits of a learn cycle: 12 h without a full anchor, 24 h in all (11 Table 11.4). -/
def State.learnLate (s : State) : Bool :=
  (decide (s.bat.learn = 1) && decide (43200000000000 ≤ s.aon.now - s.bat.learnAt)) ||
    decide (86400000000000 ≤ s.aon.now - s.bat.learnAt)

/-- A write of 0x7001.01: its status and effect (11 R275, R278). -/
def State.learnCommand (s : State) (v : Nat) : Nat × State :=
  if v = 1 then (if s.mayLearn then (0x0000, s.beginLearn) else (0x0302, s)) else (0x0000, s.abortLearn 9)

/-- A write of 0x7004.01: its status and effect (11 R281). -/
def State.restoreLearned (s : State) (data : Bytes) : Nat × State :=
  if data.length ≠ 16 then (0x0401, s)
  else if !s.bat.lost || s.bat.restored then (0x0302, s)
  else
    let rated := s.reg 0x7000 1
    (0x0000, { s with bat := { s.bat with
      fcc := min rated (max (rated / 2) (leNat (data.take 4)))
      learns := leNat ((data.drop 4).take 4), lastLearn := leNat ((data.drop 8).take 6)
      restored := true } })

/-- The full-charge conditions of 11 R268 hold. -/
def State.fullNow (s : State) : Bool :=
  s.bat.chgEn && s.bat.counting && !s.dieOut 0 && s.bat.anchorReady && decide (s.reg 0x7000 9 ≤ s.bat.volts) &&
    decide (0 < s.bat.amps) && decide (s.bat.amps < (s.reg 0x7000 0x0A : Int))

/-- FULL_ANCHOR: the conditions have held for 60 s. -/
def execFullAnchor (s : State) : Host.Outcome State Fault Refusal :=
  act (fun s =>
    if s.fullNow then
      let s : State := { s with bat := { s.bat with
        q := s.bat.fcc, rest := 0, anchor := s.aon.deviceTime, anchored := true, anchorReady := false, anchorAcc := s.bat.acc
        warned := false, timeLost := false, chgHeld := true } }
      let s := s.writeLearned
      if s.bat.learn = 1 then s.beginMain else s
    else s) s

/-- END_OF_DISCHARGE: Q less the allowance has reached the reserve; one warning per discharge
(11 R269). -/
def execEndOfDischarge (s : State) : Host.Outcome State Fault Refusal :=
  act (fun s =>
    if s.bat.counting = true ∧ s.bat.present = true ∧ s.bat.warned = false ∧
        100 * (s.charge - s.allowance) ≤ s.reg 0x7000 4 * s.bat.fcc then
      { s with bat := { s.bat with warned := true } }.report 0 cEmpty 1 0 []
    else s) s

/-- A load of the energy-derived limit; it ends a decay, which is then recorded (11 R273, R274). -/
def State.loadLimit (s : State) (v : Nat) : State :=
  let note := s.bat.decayNote
  let s : State := { s with bat := { s.bat with
    limit := v, loadAt := some s.aon.now, decayAt := none, atFloor := false, decayNote := false } }
  if note then s.report 0 cDecay 1 0 [] else s

/-- ENERGY_LIMIT_LOAD: die 0's firmware loads the limit. -/
def execEnergyLimitLoad (s : State) : Host.Outcome State Fault Refusal :=
  act (fun s => if s.mgmt.ready = true ∧ s.dieOut 0 = false then s.loadLimit (s.limitOf s.cistern) else s) s

/-- 5 s have passed since the last load of the limit (11 R274). -/
def State.loadLate (s : State) : Bool :=
  match s.bat.loadAt with
  | some t => decide (5000000000 ≤ s.aon.now - t)
  | none => false

/-- LIMIT_DECAY_START: 5 s without a load; any learn cycle is aborted (11 R274). -/
def execLimitDecayStart (s : State) : Host.Outcome State Fault Refusal :=
  act (fun s =>
    if s.loadLate ∧ s.bat.decayAt = none ∧ s.bat.atFloor = false then
      let s : State := { s with bat := { s.bat with decayAt := some s.aon.now, decayNote := true } }
      (s.inc 0x7003 6).abortLearn 10
    else s) s

/-- LIMIT_DECAY_FLOOR: the 30 s of the decay are over. -/
def execLimitDecayFloor (s : State) : Host.Outcome State Fault Refusal :=
  act (fun s =>
    match s.bat.decayAt with
    | some t =>
      if 30000000000 ≤ s.aon.now - t then { s with bat := { s.bat with decayAt := none, atFloor := true } }
      else s
    | none => s) s

/-- LEARN_SCHEDULED_START: device time, while valid, has reached 0x7001.02 (11 R275, 14 R323). -/
def execLearnScheduledStart (s : State) : Host.Outcome State Fault Refusal :=
  act (fun s =>
    let t := s.reg 0x7001 2
    if s.timeValid = true ∧ t ≠ 0 ∧ t ≤ s.aon.deviceTime then
      let s := s.setReg 0x7001 2 0
      if s.mayLearn then s.beginLearn else (s.setReg 0x7001 6 3).report 0 cLearnRefused 1 0 []
    else s) s

/-- LEARN_TAIL: the counted discharge has reached (1 - r) x FCC; the limit is loaded as 0 and
WRITE_THROUGH applies until persistence is armed again (11 Table 11.3 step 4, R277). -/
def execLearnTail (s : State) : Host.Outcome State Fault Refusal :=
  act (fun s =>
    if s.bat.learn = 2 ∧ (100 - s.reg 0x7000 4) * s.bat.fcc ≤ 100 * s.countedOut then
      let s : State := { s with
        bat := { s.bat with learn := 3 }, shadow := { s.shadow with forceThrough := true } }
      s.loadLimit 0
    else s) s

/-- LEARN_TAIL_RESUME: the package snowline is below 1 GiB. -/
def execLearnTailResume (s : State) : Host.Outcome State Fault Refusal :=
  act (fun s =>
    if s.bat.learn = 3 ∧ s.snowline < gib 1 then { s with bat := { s.bat with learn := 4 } } else s) s

/-- 11 Table 11.3 steps 6 and 7: a cutoff before step 4 and a capacity below 60 % of the rated one have a Warning
record each. -/
def State.completeLearn (s : State) : State :=
  let early := decide (s.bat.learn = 2)
  let fcc := s.countedOut
  let weak := decide (100 * fcc < 60 * s.reg 0x7000 1)
  let s : State := { s with bat := { s.bat with
    fcc := fcc, q := 0, rest := 0, learn := 0, anchorReady := true, required := false, restored := false
    learns := min u32max (s.bat.learns + 1), lastLearn := s.aon.deviceTime } }
  let s := (s.setReg 0x7001 6 (if early then 2 else 1)).writeLearned
  let s := if early then s.report 0 cLearnWeak 1 0 [2, fcc] else s
  (if weak then s.report 0 cLearnWeak 1 0 [1, fcc] else s).report 0 cLearnDone 0 0 [fcc]

/-- LEARN_CUTOFF: the pack voltage has stayed below the cutoff for 10 s under the load. -/
def execLearnCutoff (s : State) : Host.Outcome State Fault Refusal :=
  act (fun s =>
    if (s.bat.learn = 2 ∨ s.bat.learn = 4) ∧ s.bat.volts < s.reg 0x7000 0x0B then s.completeLearn
    else s) s

/-- The condition of an event of 11 Table 11.4 holds now, and its outcome. -/
def State.learnEvent (s : State) : LearnEvent → Bool × Nat
  | .temperature => (!s.learnWarm, 6)
  | .snowline => (decide (s.bat.learn = 2) && decide (10 * s.energyLimit < 11 * s.snowline), 7)
  | .timeLimit => (s.learnLate, 8)

/-- LEARN_ABORT_EVENT. -/
def execLearnAbortEvent (ev : LearnEvent) (s : State) : Host.Outcome State Fault Refusal :=
  act (fun s => if (s.learnEvent ev).1 then s.abortLearn (s.learnEvent ev).2 else s) s

/-- LEARNED_RECORD_WRITE: every ten minutes (11 R279). -/
def execLearnedRecordWrite (s : State) : Host.Outcome State Fault Refusal :=
  act (fun s => if s.bat.counting then s.writeLearned else s) s

/-- The ledger's newest record with its pack-present flag cleared. -/
def Battery.recordGone (b : Battery) : Battery :=
  match b.newest with
  | some r =>
    if b.nextB then { b with recB := some { r with present := false }, nextB := false }
    else { b with recA := some { r with present := false }, nextB := true }
  | none => b

/-- PACK_REMOVED: a pack change; the learn cycle is aborted and the ledger written (11 R279, R282). -/
def execPackRemoved (s : State) : Host.Outcome State Fault Refusal :=
  act (fun s =>
    if s.bat.present then
      let s : State := { s with bat := { s.bat with present := false, anchored := false, anchor := 0 } }
      let s := s.abortLearn 5
      (if s.bat.counting then s.writeLearned else { s with bat := s.bat.recordGone }).report 0 cPackChange 0 0 []
    else s) s

/-- PACK_INSERTED: BAT_PRES_N has been low for 100 ms. Before state 10 the pack is only found; what
follows is decided there (11 R282). -/
def execPackInserted (s : State) : Host.Outcome State Fault Refusal :=
  act (fun s =>
    if s.bat.present then s
    else
      let s : State := { s with bat := { s.bat with present := true } }
      if s.bat.counting then s.packReturns else s) s

end Sys2Proof.Machine
end

