-- ==== Sys2Proof/Machine/Ports.lean ====
section
/-! DEFINITION. Host links and die-to-die links: training, resets, IDE failures, Global Persistent
Flush, CXL.io, and the loss of a fabric link (01 R18, R19; 02 R34–R37, R44, R52–R54; 14 R330). -/
namespace Sys2Proof.Machine

/-- A write of any kind. -/
def Req.isWrite (q : Req) : Bool := q.op.writes

/-- Requests of a queue that a reset of their requester leaves: all of them without a response, the
reads dropped where `keepReads` is false (14 R330). -/
def orphan (p : Req → Bool) (keepReads : Bool) (l : List Req) : List Req :=
  (l.filter fun q => !(p q && !q.isWrite && !keepReads)).map fun q => if p q then { q with silent := true } else q

/-- A flit whose requester is gone: a write goes on without a Cmp, and nothing else is left to carry. -/
def orphanFlit (p : Req → Bool) (f : Flit) : Option Flit :=
  match f.body with
  | .request q =>
    if p q then (if q.isWrite then some { f with body := .request { q with silent := true } } else none) else some f
  | .data q _ _ | .cmp q => if p q then none else some f

/-- 14 R330: resolve the requests of reset links: writes past admission are carried without a Cmp,
writes in an admission stage are discarded, reads lose their requester. -/
def State.resolve (s : State) (p : Req → Bool) : State :=
  let ids := (s.shadow.held.filter p).map (·.id)
  { s with
    dram := { s.dram with
      chans := s.dram.chans.filterMap fun (e : Nat × Chan) =>
        let c : Chan := { e.2 with
          reads := orphan p false e.2.reads
          writes := orphan p true e.2.writes
          issued := e.2.issued.map fun (i : Issued) =>
            if p i.req then { i with req := { i.req with silent := true } } else i
          afterSlice := e.2.afterSlice.filter fun k =>
            !(e.2.reads.any fun q => decide (q.id = k) && p q && !q.isWrite) }
        if c = noChan then none else some (e.1, c) }
    shadow := { s.shadow with
      held := s.shadow.held.filter fun q => !p q
      staged := s.shadow.staged.filter fun k => !ids.elem k
      through := orphan p true s.shadow.through }
    freeze := { s.freeze with fetchWait := orphan p false s.freeze.fetchWait }
    sparing := { s.sparing with
      heals := s.sparing.heals.map fun (e : Nat × List Heal) =>
        (e.1, e.2.map fun (h : Heal) => { h with waiting := orphan p false h.waiting }) }
    hosts := { s.hosts with
      routeHolds := s.hosts.routeHolds.map fun (h : RouteHold) => { h with held := orphan p false h.held }
      flits := s.hosts.flits.filterMap (orphanFlit p) } }

/-- The request came over a link. -/
def onLink (g l : Nat) (q : Req) : Bool := decide (q.port = g) && decide (q.link = l)

/-- A host link goes down: nothing of its transaction layer stays, a Global Persistent Flush received on it neither
(02 R34, R44; 14 R330). One that was up or refused leaves a record (02 Table 02.10). -/
def State.dropLink (s : State) (g l st : Nat) : State :=
  let k := s.hlink g l
  let s := s.setLink g l { k with
    st := st, speed := 0, width := 0, latOpt := false, ideUp := false, ideKeyed := false, tokens := 0 }
  let s : State := { s with hosts := { s.hosts with
      gpf := s.hosts.gpf.filter fun f => !(decide (f.port = g) && decide (f.link = l)) } }
  let s := s.resolve (onLink g l)
  if 2 ≤ k.st then s.report (dieOfPort g) cHostLink 2 0 [g, l, st] else s

/-- Every link of a port goes down, its power being gone. -/
def State.dropPort (s : State) (g : Nat) : State :=
  (List.range 4).foldl (fun t l => if (t.hlink g l).st = 0 then t else t.dropLink g l 0) s

/-- Who asked is answered no longer, where the port is that of its mailbox. -/
def Caller.cleared (g : Nat) (c : Caller) : Caller :=
  match c.origin with
  | .mailbox port _ => if port = g then { c with gone := true } else c
  | _ => c

def TenOp.cleared (g : Nat) (o : TenOp) : TenOp := { o with caller := o.caller.cleared g }

/-- A port's mailboxes are cleared: what die 0 has taken from them goes on, and is not answered
(14 Table 14.3; DESIGN CHOICE, log 166). -/
def State.clearMailboxes (s : State) (g : Nat) : State :=
  { s with
    ten := { s.ten with
      filling := s.ten.filling.map (TenOp.cleared g)
      settling := s.ten.settling.map fun x => { x with op := x.op.cleared g }
      retiring := s.ten.retiring.map fun x => { x with caller := x.caller.cleared g }
      waiting := s.ten.waiting.map (TenOp.cleared g)
      refused := s.ten.refused.map fun x => { x with caller := x.caller.cleared g } }
    seq := { s.seq with drains := s.seq.drains.map fun x => { x with caller := x.caller.cleared g } } }

/-- The links of a port as its logic comes out of reset; one whose integrity check failed still owes its new key
exchange (02 R53; log 144). -/
def State.clearPort (s : State) (g : Nat) : State :=
  (List.range 4).foldl (fun t l => t.setLink g l { noLink with rekeyDue := (t.hlink g l).rekeyDue })
    (s.clearMailboxes g)

/-- A port has lost its power: when it returns its logic starts from reset (14 Table 14.3, Domain power-on). -/
def State.unpowerPort (s : State) (g : Nat) : State :=
  ((s.dropPort g).resolve fun q => decide (q.port = g)).clearPort g

/-- 14 Table 14.3, 02 R35: port fundamental reset: links, IDE, HDM decoders, MSI-X, event logs and
mailbox are cleared and the bifurcation is applied. -/
def State.resetPort (s : State) (g : Nat) : State :=
  let s := s.unpowerPort g
  { s with hosts := { s.hosts with bifurcation := put 0 s.hosts.bifurcation g (s.reg (ixPort g) 1) } }

/-- PERST_N_FALL. -/
def execPerstNFall (port : Nat) (s : State) : Host.Outcome State Fault Refusal :=
  act (fun s =>
    if s.perst port ∨ 2 * s.n ≤ port then s
    else
      { s.resetPort port with hosts := { (s.resetPort port).hosts with
          perstLow := setBitOf s.hosts.perstLow port true } }) s

/-- A wake event counts in state 14 while its enable bit is set (12 R302, R303). -/
def State.wakeEvent (s : State) (bit cause : Nat) : State :=
  if s.seq.st = 14 ∧ bitOf (s.reg 0x7101 3) bit = true then
    { s with aon := { s.aon with wakeStored := s.aon.wakeStored ++ [cause] } }
  else s

/-- PERST_N_RISE: the links of the port start training, and the edge is a wake event (02 R35,
12 R302). -/
def execPerstNRise (port : Nat) (s : State) : Host.Outcome State Fault Refusal :=
  act (fun s =>
    if s.perst port then
      ({ s with hosts := { s.hosts with
          perstLow := setBitOf s.hosts.perstLow port false } }.startPort port).wakeEvent 2 4
    else s) s

/-- Speed limit of a port in GT/s (02 Table 02.4). -/
def speedLimit (code : Nat) : Nat := if code = 0 then 32 else if code = 1 then 64 else 128

/-- Highest of 32, 64 and 128 GT/s that a limit and a partner admit; 0 with none (02 R34). -/
def linkSpeed (limit partner : Nat) : Nat :=
  if 128 ≤ min limit partner then 128 else if 64 ≤ min limit partner then 64
  else if 32 ≤ min limit partner then 32 else 0

/-- The link exists, its port has power and no reset, and the port's pads are driven: latched ones have no input
(12 R300). -/
def State.linkUsable (s : State) (g l : Nat) : Bool :=
  decide (g < 2 * s.n) && decide (l < linksOf (s.bifOf g)) && !s.dieOut (dieOfPort g) && s.portPowered g &&
    s.portPads g && !s.portStopped g && !s.perst g && !s.hosts.stopped

/-- 02 R34–R36: a link has trained: up in 256-byte flit mode, or refused, which is recorded as a link that stays down
(R48); without a partner it stays down. The class 0 bucket starts full (log 14). -/
def State.linkTrained (s : State) (g l : Nat) (p : Partner) : State :=
  let v := linkSpeed (speedLimit (s.reg (ixPort g) 2)) p.maxGts
  let k := s.hlink g l
  if v = 0 then s.setLink g l { k with st := 0, speed := 0, width := 0 }
  else if !p.flit256 then
    (s.setLink g l { k with st := 3, speed := v, width := lanesOf (s.bifOf g) }).report (dieOfPort g) cHostLink 2 0
      [g, l, 3]
  else
    let s := s.setLink g l { k with
      st := 2, speed := v, width := lanesOf (s.bifOf g)
      latOpt := p.latOpt && decide (s.reg (ixPort g) 6 = 1), tokens := s.reg 0x5000 1 }
    s.report (dieOfPort g) cHostLink 0 0 [g, l, 2]

/-- LINK_TRAINING_DONE. -/
def execLinkTrainingDone (port link : Nat) (partner : Partner) (s : State) :
    Host.Outcome State Fault Refusal :=
  act (fun s =>
    if s.linkUsable port link = true ∧ (s.hlink port link).st ≤ 1 then s.linkTrained port link partner
    else s) s

/-- HOST_LINK_DOWN: a link that was up, refused or insecure loses its partner or fails. -/
def execHostLinkDown (port link : Nat) (s : State) : Host.Outcome State Fault Refusal :=
  act (fun s =>
    if 2 ≤ (s.hlink port link).st then s.dropLink port link 0 else s) s

/-- LINK_RESET: CXL hot reset or link disable; the link trains anew (14 Table 14.3). -/
def execLinkReset (port link : Nat) (s : State) : Host.Outcome State Fault Refusal :=
  act (fun s => if 2 ≤ (s.hlink port link).st then s.dropLink port link 1 else s) s

/-- IDE_CHECK_FAIL (02 R53): requests accepted before complete as before; the link recovers only after a link
reset and a new key exchange. -/
def execIdeCheckFail (port link : Nat) (s : State) : Host.Outcome State Fault Refusal :=
  act (fun s =>
    let k := s.hlink port link
    if k.st = 2 ∧ k.ideUp = true then
      (s.setLink port link { k with st := 4, ideUp := false, ideKeyed := false, rekeyDue := true }).report (dieOfPort port) cIdeFail 2 0
        [port, link]
    else s) s

/-- GLOBAL_PERSISTENT_FLUSH: the drain starts; it covers the writes accepted before (02 R44). -/
def execGlobalPersistentFlush (port link : Nat) (s : State) : Host.Outcome State Fault Refusal :=
  act (fun s =>
    if (s.hlink port link).st = 2 ∧ s.hosts.stopped = false then
      { s with hosts := { s.hosts with gpf := s.hosts.gpf ++ [{ port := port, link := link, upTo := s.hosts.nextReq }] } }
    else s) s

/-- Writes that a flush covers have yet to reach DRAM: they are on a link or in a write queue. Whether it covers those
that wait for snow admission or for a fetch R44 does not say; here it does not (DESIGN CHOICE, log 162). -/
def State.flushHeld (s : State) (f : Flush) : Bool :=
  (s.writesUnderWay ++ s.dram.chans.flatMap fun e => e.2.writes).any fun q => decide (q.id < f.upTo)

/-- GPF_DRAIN_COMPLETE: the write buffers that a flush covers are in DRAM, where the slots of its drain have carried
them (04 R89), and phase 2 completes on its link (02 R44). -/
def execGpfDrainComplete (s : State) : Host.Outcome State Fault Refusal :=
  act (fun s =>
    let l := s.hosts.gpf.filter fun f => !s.flushHeld f
    let s : State := { s with hosts := { s.hosts with gpf := s.hosts.gpf.filter s.flushHeld } }
    l.foldl (fun t f => t.emit (.gpfDone f.port f.link)) s) s

/-- Device ID by variant (02 Table 02.2). -/
def Variant.deviceId : Variant → Nat
  | .sw7402 => 0x7402
  | .sw7404 => 0x7404
  | .sw7408 => 0x7408

/-- The value a CXL.io read of a target gives (02 Table 02.2, R37, R42, R44). -/
def State.ioValue (s : State) (g l : Nat) : IoTarget → Nat
  | .vendorId => 0x1F3A
  | .deviceId => s.build.variant.deviceId
  | .classCode => 0x050210
  | .serialNumber => s.build.serial
  | .memDevStatus => s.devStatus
  | .gpfPhase2 => 10
  | .hdm dec field => (s.hlink g l).hdmField dec field
  | .msix vec => look 0 (s.hlink g l).msix vec
  | .standard r => Config.standardRegister r
  | .unimplemented _ => 0

/-- A value that an HDM decoder takes (02 Table 02.1): 1, 2, 4, 8 or 16 interleave ways, a granularity of 256 B to
16 KiB in powers of two, any base and size; a value it does not take changes nothing (log 145). -/
def hdmTakes (field v : Nat) : Bool :=
  if field = 2 then [1, 2, 4, 8, 16].elem v
  else if field = 3 then [256, 512, 1024, 2048, 4096, 8192, 16384].elem v
  else true

/-- A CXL.io write stores in an HDM decoder or MSI-X vector; elsewhere it changes nothing that the
spec gives (02 R37). -/
def HLink.ioWrite (k : HLink) (v : Nat) : IoTarget → HLink
  | .hdm dec field =>
    if hdmTakes field v then { k with hdm := put (hdmDefault field) k.hdm (4 * dec + field) v } else k
  | .msix vec => { k with msix := put 0 k.msix vec v }
  | _ => k

/-- A target that the SW74 implements: four HDM decoders of four fields, 16 MSI-X vectors (02 R37). -/
def ioImplemented : IoTarget → Bool
  | .hdm dec field => decide (dec < 4) && decide (field < 4)
  | .msix vec => decide (vec < 16)
  | .unimplemented _ => false
  | _ => true

/-- CXL_IO_REQUEST (02 R54): served on a link that is up (an insecure one discards every flit, R53), or Unsupported Request, which AER logs. -/
def execCxlIoRequest (port link : Nat) (tgt : IoTarget) (wr : Option Nat) (s : State) :
    Host.Outcome State Fault Refusal :=
  act (fun s =>
    let k := s.hlink port link
    if k.st ≠ 2 ∨ s.hosts.stopped = true then s
    else if !ioImplemented tgt then
      (s.setLink port link { k with aer := k.aer + 1 }).emit (.ioUnsupported port link)
    else
      match wr with
      | some v => (s.setLink port link (k.ioWrite v tgt)).emit (.ioData port link 0)
      | none => s.emit (.ioData port link (s.ioValue port link tgt))) s

/-- FLIT_CRC_FAILURE: a flit is replayed. Replays count in windows of 1 ms, each beginning with the first
replay after the last one has passed; R18 does not say which millisecond it counts (DESIGN CHOICE,
log 122). -/
def execFlitCrcFailure (die lk : Nat) (s : State) : Host.Outcome State Fault Refusal :=
  act (fun s =>
    let x := s.dieLink die lk
    if s.bonded die lk = false ∨ x.st ≠ 1 then s
    else if s.aon.now - x.since < 1000000 ∧ 0 < x.replays then
      s.setDieLink die lk { x with replays := x.replays + 1 }
    else s.setDieLink die lk { x with replays := 1, since := s.aon.now }) s

/-- LINK_RETRAIN: more than 16 flits replayed in 1 ms; counted on both dies, once for all its attempts
(01 Table 01.4; DESIGN CHOICE, log 123). -/
def execLinkRetrain (die lk : Nat) (s : State) : Host.Outcome State Fault Refusal :=
  act (fun s =>
    let x := s.dieLink die lk
    if s.bonded die lk = true ∧ x.st = 1 ∧ 16 < x.replays then
      ((s.setDieLink die lk { x with st := 2, replays := 0, fails := 0 }).inc (0x1010 + die) 4).inc
        (0x1010 + across die lk) 4
    else s) s

/-- Requests held until the old route drains, for each pair of dies whose route has changed and still
exists (01 R18). -/
def State.holdChanged (s old : State) : State :=
  let pairs := s.dieList.flatMap fun a => s.dieList.map fun b => (a, b)
  let moved := pairs.filter fun (p : Nat × Nat) =>
    decide (p.1 ≠ p.2) && (old.route p.1 p.2).isSome && (s.route p.1 p.2).isSome &&
      decide (old.route p.1 p.2 ≠ s.route p.1 p.2) &&
      !(s.hosts.routeHolds.any fun h => decide (h.ingress = p.1) && decide (h.owner = p.2))
  { s with hosts := { s.hosts with
      routeHolds := s.hosts.routeHolds ++
        moved.map fun (p : Nat × Nat) => { ingress := p.1, owner := p.2, held := [] } } }

/-- Host requests that satisfy a test and have had no answer: those on their way, and the writes whose Cmp
write-through withholds, whose queued copies stand for them no longer (07 R180). -/
def State.unanswered (s : State) (p : Req → Bool) : List Req :=
  let l := s.shadow.through.filter p
  (s.outstanding p).filter (fun q => !l.any fun e => decide (e.id = q.id)) ++ l

/-- Take requests out of wherever they wait. -/
def State.withdraw (s : State) (p : Req → Bool) : State :=
  let ids := (s.outstanding p).map (·.id)
  let keep := fun l : List Req => l.filter fun q => !p q
  { s with
    dram := { s.dram with
      chans := s.dram.chans.filterMap fun (e : Nat × Chan) =>
        let c : Chan := { e.2 with
          reads := keep e.2.reads
          writes := keep e.2.writes
          issued := e.2.issued.filter fun i => !p i.req
          afterSlice := e.2.afterSlice.filter fun k => !ids.elem k }
        if c = noChan then none else some (e.1, c) }
    shadow := { s.shadow with
      held := keep s.shadow.held
      staged := s.shadow.staged.filter fun k => !ids.elem k
      through := keep s.shadow.through
      notices := s.shadow.notices.filter fun n => !ids.elem n.req }
    freeze := { s.freeze with fetchWait := keep s.freeze.fetchWait }
    sparing := { s.sparing with
      heals := s.sparing.heals.map fun (e : Nat × List Heal) =>
        (e.1, e.2.map fun (h : Heal) => { h with waiting := keep h.waiting }) }
    hosts := { s.hosts with
      routeHolds := s.hosts.routeHolds.map fun (h : RouteHold) => { h with held := keep h.held }
      flits := s.hosts.flits.filter fun f => f.body.isCmp || !p f.body.req } }

/-- Requests are failed back with the unreachable-line response (01 R18); a withheld write that has landed already stays
where it is. -/
def State.failBack (s : State) (p : Req → Bool) : State :=
  (s.unanswered p).foldl (fun (t : State) (q : Req) => t.unreachable q) (s.withdraw p)

/-- Withheld writes are answered with the unreachable-line response; what they wrote stays where it is. -/
def State.failThrough (s : State) (p : Req → Bool) : State :=
  (s.shadow.through.filter p).foldl (fun t q => t.unreachable q)
    { s with shadow := { s.shadow with through := s.shadow.through.filter fun q => !p q } }

/-- A flit is failed back: a request or its data with the unreachable-line response, a Cmp as such, its
write having been done (01 R18). -/
def State.failFlit (s : State) (f : Flit) : State :=
  match f.body with
  | .request q => s.unreachable q
  | .data q _ _ => (s.noteUnreachable q).sendData q 0 true
  | .cmp q => s.sendCmp q

/-- What waits at a link that goes down is failed back. -/
def State.failFlits (s : State) (key : Nat) : State :=
  (sendOrder key s.hosts.flits).foldl (fun t f => t.failFlit f)
    { s with hosts := { s.hosts with flits := s.hosts.flits.filter fun f => !decide (f.key = key) } }

/-- 01 R18, R19: a die-to-die link is down: routes change, the flits that wait at it and the requests named
as in flight on it are failed back, CDAT changes, and a record names the link. `cut`: it went with its
rail, and returns with it. -/
def State.fabricDown (s : State) (d lk : Nat) (inFlight : List Nat) (cut : Bool) : State :=
  let t := s.setDieLink d lk { downDieLink with cut := cut }
  let t := t.failFlits (dieLinkKey d lk)
  let t := (t.failBack fun q => inFlight.elem q.id && !q.answered).holdChanged s
  (t.report (min d (across d lk)) cLinkDown 2 0 [d, lk]).cdatChanged

/-- A die-to-die link returns: routes change back, CDAT changes, and a record names the link (02 R51,
Table 02.10). -/
def State.fabricUp (s : State) (d lk : Nat) : State :=
  let t := (s.setDieLink d lk upDieLink).holdChanged s
  (t.report (min d (across d lk)) cLinkUp 0 0 [d, lk]).cdatChanged

/-- LINK_RETRAIN_END: the link comes up and sends what waits at it, or after three failures in succession
it is down until the next package reset. -/
def execLinkRetrainEnd (die lk : Nat) (ok : Bool) (inFlight : List Nat) (s : State) :
    Host.Outcome State Fault Refusal :=
  act (fun s =>
    let x := s.dieLink die lk
    if s.bonded die lk = false ∨ x.st ≠ 2 then s
    else if ok then
      (s.setDieLink die lk { x with st := 1, replays := 0, fails := 0 }).sendFlits (dieLinkKey die lk)
    else if x.fails + 1 < 3 then s.setDieLink die lk { x with fails := x.fails + 1 }
    else s.fabricDown die lk inFlight false) s

/-- ROUTE_HOLD_END: the ingress die sends what it held. -/
def execRouteHoldEnd (ingress owner : Nat) (s : State) : Host.Outcome State Fault Refusal :=
  act (fun s =>
    let here := fun h : RouteHold => decide (h.ingress = ingress) && decide (h.owner = owner)
    let l := (s.hosts.routeHolds.filter here).flatMap (·.held)
    let s : State := { s with hosts := { s.hosts with
      routeHolds := s.hosts.routeHolds.filter fun h => !here h } }
    l.foldl (fun (t : State) (q : Req) => t.forward q) s) s

end Sys2Proof.Machine
end

