-- ==== Sys2Proof/Machine/Rails.lean ====
section
/-! DEFINITION. The supervisors' rails: enabling, failing, retrying and releasing them, what a failed
rail loses, domains switched on request, pad release, state limits and wake events (12). -/
namespace Sys2Proof.Machine

/-- A rail of a quadrant that is hibernated: it stays off until the quadrant returns (10 R257). -/
def State.railAsleep (s : State) (d i : Nat) : Bool :=
  (List.range 4).any fun q =>
    decide ((s.quad d q).st = 3) && !(s.quad d q).returning && s.feeds d i (13 + q)

/-- 12 R291: the lowest rail of a die that may be enabled now. -/
def State.nextRail (s : State) (d : Nat) : Option Nat :=
  railList.find? fun i =>
    s.railUsed d i && decide (s.railCfg d i 1 ≤ s.seq.st) && decide (s.railSt d i = 1) &&
      s.parentsGood d i && !s.railAsleep d i

/-- The sequencer state lets a supervisor start rails (12 R287, R291). -/
def State.railsRun (s : State) (d : Nat) : Bool :=
  decide (2 ≤ s.seq.st) && decide (s.seq.st ≤ 12) && decide (d < s.n) && !s.dieOut d &&
    !s.seq.release.elem d

/-- Rails with capture configured are captured where their state is one after the start of the converter (13 R308). -/
def State.captured (s : State) (d i : Nat) : Bool :=
  s.adcRuns d && decide (4 ≤ s.railCfg d i 1) && decide (s.railCfg d i 6 ≠ 0) && decide (s.railCfg d i 7 ≠ 0xFF)

/-- Add a mid-window time to the supervisor's list, which is in due order (13 R309). -/
def addDue (e : Nat × Nat) : List (Nat × Nat) → List (Nat × Nat)
  | [] => [e]
  | x :: l => if e.2 < x.2 then e :: x :: l else x :: addDue e l

/-- 13 R308: the mid-window time of a rail with capture configured enters the supervisor's list when the rail is
enabled; the list has up to 24 entries. The enable starts the timers that name the rail. -/
def State.noteCapture (s : State) (d i : Nat) : State :=
  let a := s.adcOf d
  let named := (List.range 3).filter fun t =>
    s.adcRuns d && decide (s.reg (ixAdc d + 1 + t) 2 = 1) && decide (s.reg (ixAdc d + 1 + t) 3 = i)
  s.setAdc d { a with
    started := named.foldl (fun l t => addOnce t l) a.started
    rails := if s.captured d i = true ∧ a.rails.length < 24 then
        addDue (i, s.aon.now + 500000 * s.railCfg d i 3) a.rails
      else a.rails }

/-- RAIL_ENABLE. -/
def State.railEnable (s : State) (d : Nat) : State :=
  match s.nextRail d with
  | some i => if s.railsRun d then (s.setRail d i 2 0 1).noteCapture d i else s
  | none => s

def execRailEnable (die : Nat) (s : State) : Host.Outcome State Fault Refusal :=
  act (fun s => s.railEnable die) s

/-- A failed rail has used its last attempt (12 R294). -/
def State.lastAttempt (s : State) (d i : Nat) : Bool :=
  decide (s.railCfg d i 4 < s.reg (ixRail d i) 0x0B)

/-- 12 R291: every rail of a die for a state is good or failed. -/
def State.railsSettled (s : State) (d st : Nat) : Bool :=
  railList.all fun i =>
    !s.railUsed d i || decide (s.railCfg d i 1 ≠ st) || decide (s.railSt d i = 3) ||
      decide (s.railSt d i = 5) || (decide (s.railSt d i = 4) && s.lastAttempt d i)

/-- The state that switches a domain on as its rails are configured: that of Table 12.1, or of its last rail. -/
def State.switchState (s : State) (d k : Nat) : Nat :=
  ((railList.filter fun i => s.feeds d i k).map fun i => s.railCfg d i 1).foldl max (domainState k)

/-- 12 R301: in states 4 to 8 the boot ROM releases the pad groups of the domains the state switches
on. -/
def State.bootRelease (s : State) (d st : Nat) : State :=
  s.setPads d ((List.range 30).foldl
    (fun v k => if s.switchState d (k + 1) = st ∧ s.domainOn d (k + 1) = true then setBitOf v k false else v)
    (s.padsOf d))

/-- A die's work of states 2 to 8 may be done: it then releases SEQSYNC (12 R284, R291). -/
def State.finishState (s : State) (d : Nat) : State :=
  let st := s.seq.st
  if 2 ≤ st ∧ st ≤ 8 ∧ s.seq.holds.elem d = true ∧ s.railsSettled d st = true ∧
      (st ≠ 3 ∨ s.seq.locked.elem d = true) then
    let s := if 4 ≤ st then s.bootRelease d st else s
    (if st = 8 then s.startLinks else s).releaseDie d
  else s

/-- CORE_PLL_LOCK: the core PLL of a die has locked (13 R308; 12 Table 12.1, state 3). -/
def execCorePllLock (die : Nat) (s : State) : Host.Outcome State Fault Refusal :=
  act (fun s =>
    if die < s.n ∧ 3 ≤ s.seq.st ∧ s.seq.st ≤ 12 then
      let s : State := { s with seq := { s.seq with locked := addOnce die s.seq.locked } }
      let s := s.setAdc die { s.adcOf die with running := true }
      s.finishState die
    else s) s

/-- Rails not started for a failed parent whose parents have not failed any longer (12 R294). -/
def State.revive (s : State) (d : Nat) : Nat → State
  | 0 => s
  | k + 1 =>
    match railList.find? fun i =>
        decide (s.railSt d i = 5) &&
          railList.all fun j => !bitOf (s.railCfg d i 2) j || decide (s.railSt d j ≤ 3) with
    | some i => State.revive (s.setRail d i 1 0 (s.reg (ixRail d i) 0x0B)) d k
    | none => s

/-- Quadrants that went with their rails train again once their domain has power, its pads are released and its PLL has
not failed (05 R130, 12 R300, 14 R326; log 130). -/
def State.returnQuads (s : State) (d : Nat) : State :=
  (List.range 4).foldl (fun t q =>
    let x := t.quad d q
    if x.st = 4 ∧ x.trained = true ∧ t.domainOn d (13 + q) = true ∧ bitOf (t.padsOf d) (12 + q) = false ∧
        t.pllOut d (6 + q) = false then
      t.setQuad d q { x with returning := true }
    else t) s

/-- 10 Table 10.6 step 2, 12 R301: the pads of a quadrant that returns from hibernation are released once its domain
is on; those of one that went with its rails wait for firmware. -/
def State.returnPads (s : State) (d : Nat) : State :=
  (List.range 4).foldl (fun t q =>
    if (t.quad d q).returning && decide ((t.quad d q).st = 3) && t.domainOn d (13 + q) then
      t.setPads d (setBitOf (t.padsOf d) (12 + q) false)
    else t) s

/-- State 15: the supervisors release SEQSYNC and start nothing more (12 R287). -/
def State.enterFault (s : State) (cause : Nat) : State :=
  if 1 ≤ s.seq.st ∧ s.seq.st ≤ 12 then
    { s with seq := { s.seq with st := 15, holds := [], reached := s.seq.st } }.setReg 0x7100 2 cause
  else s

/-- Take down one die-to-die link of a die where it is not down already: with its rail, or for good. What
waits at it is in flight on it (log 124). -/
def State.cutLink (s : State) (d lk : Nat) (cut : Bool) : State :=
  if s.bonded d lk = true ∧ (s.dieLink d lk).st ≠ 3 then s.fabricDown d lk [] cut else s

/-- Links of a die that went with a rail return once both their ends have power and their pads again (02 R51,
12 R300). -/
def State.returnLinks (s : State) (d : Nat) : State :=
  let fit := fun (t : State) (e lk : Nat) => t.domainOn e (27 + lk) && !bitOf (t.padsOf e) (26 + lk) && !t.dieOut e
  (List.range 3).foldl (fun t lk =>
    let x := t.dieLink d lk
    if t.bonded d lk && decide (x.st = 3) && x.cut && fit t d lk && fit t (across d lk) lk then
      t.fabricUp d lk
    else t) s

/-- RAIL_POWER_GOOD: the rail is good, and dependants that waited for a retry may start. -/
def State.railGood (s : State) (d i : Nat) : State :=
  if s.railSt d i = 2 ∧ d < s.n then
    let s := s.setRail d i 3 0 (s.reg (ixRail d i) 0x0B)
    let s := (((s.revive d 24).returnQuads d).returnPads d).returnLinks d
    (if 8 ≤ s.seq.st then s.startLinks else s).finishState d
  else s

def execRailPowerGood (die rail : Nat) (s : State) : Host.Outcome State Fault Refusal :=
  act (fun s => if rail < 24 then s.railGood die rail else s) s

/-- An epoch that a die which has stopped was closing is sealed once the other dies have sealed it (log 135). -/
def State.sealedWithout (s : State) (closing : Option Seal) : State :=
  match closing with
  | some c => if s.sealedBy c.epoch then s.allSealed c else s
  | none => s

/-- What a die that has stopped takes with it: its links, its ports, and the requests for its lines and the withheld
writes of its home flakes (01 R27). -/
def State.diePartsLost (s : State) (d : Nat) : State :=
  let s := (List.range 3).foldl (fun t lk => t.cutLink d lk false) s
  let s := (s.dropPort (2 * d)).dropPort (2 * d + 1)
  let s := s.failBack fun q => decide ((s.place q.dpa).die = d)
  s.failThrough fun q => decide (s.homeDie (flakeOf q.dpa) = d)

/-- 01 R27, 10 R263: a peer die stops working: its lines, ports and flash become unavailable until the
next package reset, and die 0 records the loss. -/
def State.dieStops (s : State) (d : Nat) : State :=
  if d = 0 ∨ s.dieOut d = true then s
  else
    let closing := (s.die d).closing
    let s := s.setReg 0x7100 3 (setBitOf (s.reg 0x7100 3) d true)
    let s : State := { s with seq := { s.seq with
      holds := without d s.seq.holds, lostDies := addOnce d s.seq.lostDies } }
    ((s.diePartsLost d).report 0 cDieOut 2 0 [d]).sealedWithout closing

/-- 01 R27, 12 R294: the lead die stops working: the package goes to state 15, and sequencing, power-fail detection,
battery supervision and management end with it. -/
def State.leadStops (s : State) : State :=
  if s.dieOut 0 = true ∨ s.seq.st = 0 ∨ s.seq.st = 13 ∨ s.seq.st = 14 then s
  else
    let s := s.enterFault 2
    ({ s with
      seq := { s.seq with leadDead := true }
      mgmt := { s.mgmt with ready := false, restarting := none, watchdogArmed := false } } : State).diePartsLost 0

/-- A die's core logic is lost (12 R294, 14 R326). -/
def State.coreLost (s : State) (d : Nat) : State := if d = 0 then s.leadStops else s.dieStops d

/-- Domains whose loss stops a die: processor logic fed by its core and PLL rails (12 R294). -/
def coreDomain (k : Nat) : Bool :=
  decide (k = 3) || decide (k = 5) || decide (k = 6) || decide (k = 8) ||
    (decide (21 ≤ k) && decide (k ≤ 26))

/-- What a subchannel without power leaves behind: host requests that wait or are under way there join the queues
where their lines are now, and wait there for a rebuild; pumps' reads join other queues, but for lines that are lost or
come from a rebuild, which pumps take as poison or not at all; engines read again (02 R57, 10 R249, R250). -/
def State.emptyChan (s : State) (sc : Nat) : State :=
  let c := s.chan sc
  let host := fun q : Req => decide (q.src = .host)
  let issued := (c.issued.map (·.req)).filter fun q => host q && decide (q.op = .read)
  let s := s.setChan sc { noChan with lastSlice := c.lastSlice }
  let s := s.setScrub (sc / 2) { s.scrubOf (sc / 2) with inFlight := false }
  let s := (issued ++ c.reads.filter host ++ c.writes).foldl (fun t q =>
    let q := { q with locked := false }
    if t.isLost (t.place q.dpa).rank then t.enterLost q
    else (t.joinQueue (t.subOfReq q) q).moveNotices q.id (t.subOfReq q)) s
  (c.reads.filter fun q => q.src.isPump).foldl (fun t q =>
    if t.isLost (t.place q.dpa).rank || t.yetToRebuild q.dpa then t else t.joinQueue (t.subOfReq q) q) s

/-- A quadrant in service loses its rails: its ranks are unreadable, the spares among them first (10 R261). They show
reason 6, for the list of reasons names none for rails (05 R131; DESIGN CHOICE, log 128). -/
def State.quadLost (s : State) (d q : Nat) : State :=
  let x := s.quad d q
  if x.st = 4 then s
  else if x.trained = false then
    if s.seq.st = 9 ∧ s.seq.holds.elem d = true then (s.quadUnfed d q).finishTraining d else s
  else
    let s := s.setQuad d q { x with st := 4, hibEntry := false, returning := false }
    let l := (ranksOf d q).filter fun r => decide (s.capOf r ≠ 0) && decide ((s.rank r).train ≠ 0)
    let s := (s.sparesFirst l).foldl (fun t r => t.failRank r 6 6) s
    (subsOf d q).foldl (fun t sc => t.emptyChan sc) s

/-- The channels of a flash group in service lose their rails: their LUNs fail (12 R294, 08 R209). -/
def State.flashLost (s : State) (d g : Nat) : State :=
  if s.seq.st < 9 then s
  else
    ((List.range 4).flatMap fun i => s.activeLuns d (4 * g + i)).foldl (fun t l => t.failLun d l) s

/-- 12 R294: what is lost with the domains that a set of rails feeds. -/
def State.railLoss (s : State) (d : Nat) (l : List Nat) : State :=
  let fed := fun k : Nat => l.any fun i => s.feeds d i k
  let s := (List.range 4).foldl (fun t q => if fed (13 + q) then t.quadLost d q else t) s
  let s := (List.range 4).foldl (fun t g => if fed (17 + g) then t.flashLost d g else t) s
  let s := (List.range 2).foldl (fun t p =>
    if (portDomains p).any fed then t.unpowerPort (2 * d + p) else t) s
  let s := (List.range 3).foldl (fun t lk => if fed (27 + lk) then t.cutLink d lk true else t) s
  if (List.range 30).any fun k => coreDomain (k + 1) && fed (k + 1) then
    s.coreLost d
  else s

/-- 12 R293: a rail is failed and the rails that depend on it are removed with it. Once its attempts are used up, those
in their cool-down are never started again (R291). -/
def State.failRail (s : State) (d i reason : Nat) : State :=
  let service := decide (s.railSt d i = 3)
  let deps := (s.dependents d 24 [i]).filter fun j => decide (j ≠ i) && decide (s.railSt d j ≤ 3)
  let cooling := (s.dependents d 24 [i]).filter fun j => decide (j ≠ i) && decide (s.railSt d j = 4)
  let s := s.withPads d fun t =>
    let t := deps.foldl (fun t j => t.setRail d j 5 5 (t.reg (ixRail d j) 0x0B)) t
    t.setRail d i 4 reason (if service then 1 else t.reg (ixRail d i) 0x0B)
  let s := if s.lastAttempt d i then cooling.foldl (fun t j => t.setRail d j 5 5 (t.reg (ixRail d j) 0x0B)) s else s
  let s := s.report d cRailFailed 2 0 [d, i, reason]
  let s := if service || s.lastAttempt d i then s.railLoss d (i :: deps) else s
  s.finishState d

/-- A failure of this reason can meet the rail as it stands (12 R292). -/
def State.mayFail (s : State) (d i reason : Nat) : Bool :=
  (decide (s.railSt d i = 2) &&
    (decide (reason = 1) || (decide (reason = 2) && decide (s.railCfg d i 8 ≠ 0xFF)) ||
      (decide (reason = 3) &&
        s.captured d i && !((s.adcOf d).rails.any fun e => decide (e.1 = i)) &&
        decide (2 * s.reg (ixRail d i) 0x0C < s.railCfg d i 6)))) ||
    (decide (s.railSt d i = 3) &&
      (decide (reason = 4) || (decide (reason = 2) && decide (s.railCfg d i 8 ≠ 0xFF))))

/-- RAIL_FAIL. -/
def execRailFail (die rail reason : Nat) (s : State) : Host.Outcome State Fault Refusal :=
  act (fun s =>
    if die < s.n ∧ rail < 24 ∧ s.mayFail die rail reason = true then s.failRail die rail reason else s) s

/-- RAIL_RETRY: the cool-down is over and the rail has attempts left. -/
def execRailRetry (die rail : Nat) (s : State) : Host.Outcome State Fault Refusal :=
  act (fun s =>
    if s.railsRun die = true ∧ rail < 24 ∧ s.railSt die rail = 4 ∧ s.lastAttempt die rail = false ∧
        s.parentsGood die rail = true then
      (s.setRail die rail 2 0 (s.reg (ixRail die rail) 0x0B + 1)).noteCapture die rail
    else s) s

/-- The rail of a set that comes next in reverse order of enabling, its dependants off (12 R295). -/
def State.nextOff (s : State) (d : Nat) (among : List Nat) : Option Nat :=
  let l := among.filter fun i =>
    s.railOn d i && railList.all fun j => !(s.dependsOn d j i && s.railOn d j)
  match l with
  | [] => none
  | i :: is =>
    some (is.foldl (fun m j =>
      if s.railCfg d m 1 * 32 + m < s.railCfg d j 1 * 32 + j then j else m) i)

/-- The rail of a die that comes next when all of them are released. -/
def State.nextRelease (s : State) (d : Nat) : Option Nat := s.nextOff d railList

/-- Rails of a set are released in that order, those with a dependant outside it left on (12 R295). The attempts of
their last start stand. -/
def State.releaseRails (s : State) (d : Nat) (among : List Nat) : Nat → State
  | 0 => s
  | k + 1 =>
    match s.nextOff d among with
    | some i => State.releaseRails (s.setRail d i 1 0 (s.reg (ixRail d i) 0x0B)) d among k
    | none => s

/-- A die's rails are released: its ports' links and its links to other dies are down (02 R56). -/
def State.linksOff (s : State) (d : Nat) : State :=
  (List.range 3).foldl (fun t lk =>
    if t.bonded d lk then t.setDieLink d lk { t.dieLink d lk with st := 3 } else t)
    ((s.dropPort (2 * d)).dropPort (2 * d + 1))

/-- The rails of a die are all released; a die that only releases rails then releases SEQSYNC
(12 R289, R295). -/
def State.releaseDone (s : State) (d : Nat) : State :=
  match s.nextRelease d with
  | some _ => s
  | none =>
    let s : State := { s.linksOff d with seq := { (s.linksOff d).seq with release := without d s.seq.release } }
    if s.freeze.active then s else s.releaseDie d

/-- RAIL_RELEASE. -/
def execRailRelease (die : Nat) (s : State) : Host.Outcome State Fault Refusal :=
  act (fun s =>
    if s.seq.release.elem die then
      match s.nextRelease die with
      | some i => (s.withPads die fun t => t.setReg (ixRail die i) 9 1).releaseDone die
      | none => s.releaseDone die
    else s) s

/-- STATE_TIME_LIMIT: peers that still hold the net go out of service; a limit that die 0 itself holds
up puts the package in state 15 (12 R286). -/
def execStateTimeLimit (s : State) : Host.Outcome State Fault Refusal :=
  act (fun s =>
    if 1 ≤ s.seq.st ∧ s.seq.st ≤ 11 ∧ s.seq.holds ≠ [] then
      if s.seq.holds.elem 0 then s.enterFault 1
      else s.seq.holds.foldl (fun t d => t.dieStops d) s
    else s) s

/-- Domains that a write of 0x7110+d.02 may switch (12 R297). -/
def State.switchable (s : State) (d k : Nat) : Bool :=
  (decide (9 ≤ k) && decide (k ≤ 12)) || decide (k = 30) ||
    (decide (17 ≤ k) && decide (k ≤ 20) &&
      (List.range 4).all fun i => (s.activeLuns d (4 * (k - 17) + i)).isEmpty)

/-- Transfers of a port are in flight (12 R298). -/
def State.portBusy (s : State) (g : Nat) : Bool :=
  let here := fun q : Req => decide (q.port = g) && !q.silent
  !(s.outstanding here).isEmpty || s.hosts.flits.any fun f => here f.body.req

/-- Port of a port domain on a die. -/
def portOfDomain (d k : Nat) : Nat := 2 * d + (k - 9) / 2

/-- Set or clear the request bit of a domain; a port without power loses its links, one with power
starts them. -/
def State.switchDomain (s : State) (d k : Nat) (off : Bool) : State :=
  let s := s.withPads d fun t => t.setReg (0x7110 + d) 2 (setBitOf (t.reg (0x7110 + d) 2) (k - 1) off)
  if 9 ≤ k ∧ k ≤ 12 then
    if off then s.unpowerPort (portOfDomain d k) else s.startLinks
  else s

/-- The write came by a port that a domain belongs to: the domain stays on until its response has left (12 R298). -/
def Caller.arrivedBy (c : Caller) (g : Nat) : Bool :=
  match c.origin with
  | .mailbox port _ => decide (port = g)
  | _ => false

/-- A write of 0x7110+d.02: domains without transfers switch at once, the others drain first, and those of the port
that the write came by follow its response (12 R297, R298). -/
def State.switchDomains (s : State) (c : Caller) (d v : Nat) : Ans × State :=
  let old := s.reg (0x7110 + d) 2
  let l := ((List.range 30).map (· + 1)).filter fun k =>
    s.switchable d k && decide (bitOf v (k - 1) ≠ bitOf old (k - 1))
  let cut := fun k : Nat => bitOf v (k - 1) && decide (9 ≤ k) && decide (k ≤ 12)
  let busy := l.filter fun k => cut k && s.portBusy (portOfDomain d k)
  let held := if busy.isEmpty then []
    else l.filter fun k => cut k && !busy.elem k && c.arrivedBy (portOfDomain d k)
  let s := (l.filter fun k => !busy.elem k && !held.elem k).foldl
    (fun t k => t.switchDomain d k (bitOf v (k - 1))) s
  if busy.isEmpty then (.now stOk 4 4 [], s)
  else
    (.later, { s with seq := { s.seq with
      drains := s.seq.drains ++ (busy ++ held).map fun k =>
        { die := d, dom := k, caller := c, held := held.elem k } } })

/-- A drain of the same write. -/
def Drain.sameWrite (x y : Drain) : Bool := decide (y.caller = x.caller) && decide (y.die = x.die)

/-- A domain has drained: it switches off, or waits for the response to the write where it came by this port; the last
one of a write has the response sent, and then those that waited for it switch off (12 R298). -/
def State.drained (s : State) (x : Drain) : State :=
  let rest := s.seq.drains.filter fun y => decide (y ≠ x)
  let waits := rest.any fun y => x.sameWrite y && !y.held
  if !waits then
    let s : State := { s with seq := { s.seq with drains := rest.filter fun y => !x.sameWrite y } }
    let s := s.answerWrite x.caller false stOk 4 4
    ((rest.filter x.sameWrite).map (·.dom)).foldl (fun t k => t.switchDomain x.die k true)
      (s.switchDomain x.die x.dom true)
  else if x.caller.arrivedBy (portOfDomain x.die x.dom) then
    { s with seq := { s.seq with drains := s.seq.drains.map fun y => if y = x then { y with held := true } else y } }
  else { s with seq := { s.seq with drains := rest } }.switchDomain x.die x.dom true

/-- DOMAIN_DRAIN_END: the transfers of a domain have drained, for every write that asked for it. -/
def execDomainDrainEnd (die dom : Nat) (s : State) : Host.Outcome State Fault Refusal :=
  act (fun s =>
    if s.portBusy (portOfDomain die dom) then s
    else
      (s.seq.drains.filter fun x => decide (x.die = die) && decide (x.dom = dom) && !x.held).foldl
        (fun t x => t.drained x) s) s

/-- DOMAIN_DRAIN_TIMEOUT: the write that has waited longest for a domain returns BUSY and its domains resume
(12 R298). -/
def execDomainDrainTimeout (die dom : Nat) (s : State) : Host.Outcome State Fault Refusal :=
  act (fun s =>
    match s.seq.drains.find? fun x => decide (x.die = die) && decide (x.dom = dom) && !x.held with
    | none => s
    | some x =>
      let s : State := { s with seq := { s.seq with
        drains := s.seq.drains.filter fun y => !x.sameWrite y } }
      (s.inc (0x7110 + die) 6).answerWrite x.caller false stBusy 0 0) s

/-- A write of 0x7110+d.04: groups of domains that are on are released (12 R300); links and quadrants behind them may
train. -/
def State.releasePads (s : State) (d v : Nat) : State :=
  let s := s.setPads d (s.padsOf d - (s.padsOf d &&& v &&& s.domainMask d))
  ((s.startLinks.returnQuads d).returnLinks d)

/-- WAKE_ALARM: the alarm has reached device time; it does not fire while that is invalid (12 R302,
R303, 14 R323). -/
def execWakeAlarm (s : State) : Host.Outcome State Fault Refusal :=
  act (fun s =>
    let t := s.reg 0x7101 1
    if t ≠ 0 ∧ t ≤ s.aon.deviceTime ∧ s.timeValid = true then (s.setReg 0x7101 1 0).wakeEvent 0 2 else s) s

/-- WAKE: an ODP wake frame for this node or for all (12 R302, 15 R361). -/
def execWake (dst : Nat) (s : State) : Host.Outcome State Fault Refusal :=
  act (fun s => if dst = s.build.node ∨ dst = 0 then s.wakeEvent 1 3 else s) s

end Sys2Proof.Machine
end

