-- ==== Sys2Proof/Machine/Freeze.lean ====
section
/-! DEFINITION. The freeze: detection of a power fail, the freeze point, the draining of snow, freeze
seals, the final record, and freeze-hold (09 R213–R228). -/
namespace Sys2Proof.Machine

/-- An entry that waits for earlier requests goes back to what it was: it is written to the ledger only just before OK
(03 R66, 09 Table 09.4). -/
def State.undoSettling (s : State) : State :=
  match s.ten.settling with
  | some x =>
    let t := s.setTen x.ten { x.was with watermark := (s.tenancy x.ten).watermark }
    { t with ten := { t.ten with settling := none } }
  | none => s

/-- A RETIRE that has not passed its step 3 is without effect after the thaw (09 Table 09.4). -/
def State.undoRetires (s : State) : State :=
  let s := s.ten.retiring.foldl (fun (t : State) e => t.setTenState e.ten e.was) s
  { s with ten := { s.ten with retiring := [] } }

/-- Commands that have not been answered are without effect; no caller is answered any more
(09 Table 09.4). -/
def State.dropOps (s : State) : State :=
  let s := s.undoSettling.undoRetires
  { s with
    ten := { s.ten with filling := none, waiting := [], refused := [] }
    seq := { s.seq with drains := [] } }

/-- 09 R219, Table 09.1 step 3: what runs in the background on a die stops; programs that have been
transferred go on, and step 8 saves the map pages of an epoch close in progress. -/
def DieShadow.stopWork (x : DieShadow) : DieShadow :=
  { x with
    pumps := x.pumps.filter fun p => p.moving.isNone
    reads := [], gcOn := false, closing := none, phase := 0, jobs := []
    mapChanged := x.mapPages.foldl (fun l p => addOnce p l) x.mapChanged, mapPages := [] }

/-- Writes on links reach their queues, and every link is empty (09 R216, R218). -/
def State.drainLinks (s : State) : State :=
  let s := s.landWrites
  { s with hosts := { s.hosts with flits := [], routeHolds := [] } }

/-- The read belongs to a pump that goes on in a freeze. -/
def State.pumpAtWork (s : State) (q : Req) : Bool :=
  match q.src with
  | .pump d k _ => (s.die d).pumps.any fun p => decide (p.num = k)
  | _ => false

/-- What a freeze leaves of the channel queues: the reads of its pumps, and a slice that runs (05 R128). -/
def State.frozenChans (s : State) : Sparse Chan :=
  s.dram.chans.filterMap fun e =>
    let c : Chan := { noChan with
      reads := e.2.reads.filter s.pumpAtWork, lastSlice := e.2.lastSlice, slice := e.2.slice }
    if c = noChan then none else some (e.1, c)

/-- 09 R216–R218: the freeze point. Ports accept nothing more, links and write queues drain to DRAM, and
everything that waits is dropped. -/
def State.freezePoint (s : State) : State :=
  let s : State := { s with hosts := { s.hosts with stopped := true } }
  let s := s.drainLinks.drainWrites.dropOps.abandonRecals
  let s := s.shadow.held.foldl (fun t q => t.noteWait q) s
  let s := s.dieList.foldl (fun (t : State) d => t.setDie d (t.die d).stopWork) s
  let s : State := { s with
    hosts := { s.hosts with gpf := [] }
    dram := { s.dram with chans := s.frozenChans }
    shadow := { s.shadow with
      held := [], staged := [], through := [], boundaryDue := false, arming := false, sealing := [] }
    freeze := { s.freeze with fetchWait := [] }
    sparing := { s.sparing with heals := [] }
    mgmt := { s.mgmt with ready := false, restarting := none, watchdogArmed := false }
    aon := { s.aon with savedTime := s.aon.deviceTime } }
  s.abortLearn 4

/-- A freeze seals: the recovery seal of this start stands, and persistence has been armed once (09 Table 09.5,
07 R164). -/
def State.freezeSeals (s : State) : Bool := decide (3 ≤ s.freeze.thaw) && s.shadow.counter.isSome

/-- 09 Table 09.5, 07 R164: the freeze only releases the rails. In state 15 the dies freeze as from state 12; those
that have no map to save cannot seal (log 56). -/
def State.freezesPlainly (s : State) : Bool := decide (s.seq.st ≠ 15) && !s.freezeSeals

/-- The power fail is acted on: not in state 0, nor a second time in states 13 and 14, nor once the lead die has
stopped (09 Table 09.5, 01 R27). -/
def State.mayFreeze (s : State) : Bool :=
  decide (1 ≤ s.seq.st) && decide (s.seq.st ≠ 13) && decide (s.seq.st ≠ 14) && !s.freeze.active &&
    s.seq.release.isEmpty && !s.dieOut 0

/-- Dies whose freeze engine has power (09 R219, Table 09.5 state 15). -/
def State.freezeDies (s : State) : List Nat := s.workingDies.filter fun d => s.domainOn d 3

/-- Quadrants of a die that hold a line of a set of physical ranks. -/
def quadsOfRanks (l : List Nat) : List Nat := (List.range 4).filter fun q => l.any fun r => decide (quadOfRank r = q)

/-- 09 R222: the quadrants of a die that a freeze needs. -/
def State.neededQuads (s : State) (d : Nat) : List Nat :=
  let here := fun r : Nat => decide (dieOfRank r = d)
  quadsOfRanks (((s.sumpRanks d).flatMap s.carriers ++ s.snowFlakes.flatMap s.flakeRanks).filter here)

/-- 09 R222: quadrants without snow and sump lines are released and a hibernated one stays off; an Idle-Deep one that is
needed is woken by IDLE_DEEP_EXIT, with its readouts and probes (05 R129). -/
def State.releaseQuads (s : State) (d : Nat) : State :=
  let need := s.neededQuads d
  (List.range 4).foldl (fun t q =>
    let x := t.quad d q
    if 3 ≤ x.st then t
    else if need.elem q then t
    else t.setQuad d q { x with st := 5 }) s

/-- Latch the pads of every die whose domains a change switches off. -/
def State.allPads (s : State) (f : State → State) : State :=
  let before := s.dieList.map s.domainMask
  (s.dieList.zip before).foldl (fun t e => t.latchPads e.1 e.2) (f s)

/-- A freeze that releases the rails alone (12 R289, 09 Table 09.5). -/
def State.startPlain (s : State) : State :=
  let s := s.freezePoint
  { s with seq := { s.seq with
      st := 13, reached := s.seq.st, holds := s.workingDies, release := s.workingDies } }

/-- A full freeze reaches step 5 (09 Table 09.1). -/
def State.startFull (s : State) (source : Nat) : State :=
  let s := s.freezePoint
  let s : State := { s with
    seq := { s.seq with
      st := if s.seq.st = 15 then 15 else 13
      reached := if s.seq.st = 15 then s.seq.reached else s.seq.st
      holds := if s.seq.st = 15 then [] else s.freezeDies }
    freeze := { s.freeze with
      active := true, source := source, detect := s.aon.deviceTime, drained := [], sealedBy := []
      fails := [], saved := [], lost := [] } }
  let s := s.dieList.foldl (fun (t : State) d =>
    { t with freeze := { t.freeze with
        snowAtStart := put 0 t.freeze.snowAtStart d (t.dieSnow d * flakeBytes) } }) s
  (s.freezeDies.foldl (fun t d => t.releaseQuads d) s).restDrained

/-- 09 R213, R228: a detected power fail. -/
def State.startFreeze (s : State) (source : Nat) : State :=
  if !s.mayFreeze then s
  else s.allPads fun t => if t.freezesPlainly then t.startPlain else t.startFull source

/-- PWRFAIL_DETECT. -/
def execPwrfailDetect (s : State) : Host.Outcome State Fault Refusal :=
  act (fun s =>
    let s : State := { s with aon := { s.aon with pwrfailLow := true, holdRunning := false } }
    s.startFreeze 1) s

/-- SENSE_VIN_LOW. -/
def execSenseVinLow (s : State) : Host.Outcome State Fault Refusal :=
  act (fun s =>
    let s : State := { s with aon := { s.aon with senseLow := true, holdRunning := false } }
    s.startFreeze 2) s

/-- SLED_FREEZE_SIGNAL: only in state 12 (12 R288). -/
def execSledFreezeSignal (s : State) : Host.Outcome State Fault Refusal :=
  act (fun s => if s.seq.st = 12 then s.startFreeze 3 else s) s

/-- Step 8 of a freeze begins on a die: the map pages changed since the last epoch seal, and those with changed
heat counters, are programmed, then the index pages and the root index page (09 Table 09.1, 08 R192). -/
def State.saveMap (s : State) (d : Nat) : State :=
  let x := s.die d
  (s.setDie d { x with mapChanged := [], heatChanged := [] }).startMaps d
    (x.heatChanged.foldl (fun l p => addOnce p l) x.mapChanged)

/-- FREEZE_SNOW_DRAINED: no pump of the die has work left and its last program is resolved; the firn
cache is written back, and step 8 begins (09 Table 09.1 steps 6 to 8). -/
def execFreezeSnowDrained (die : Nat) (s : State) : Host.Outcome State Fault Refusal :=
  act (fun s =>
    let x := s.die die
    if s.freeze.active = true ∧ s.freezeDies.elem die = true ∧ s.freeze.drained.elem die = false ∧
        (s.pickFreeze die).isNone = true ∧ x.pumps = [] ∧ x.units = [] then
      ({ s with
        shadow := { s.shadow with cache := put [] s.shadow.cache die [] }
        freeze := { s.freeze with drained := addOnce die s.freeze.drained } } : State).saveMap die
    else s) s

/-- 09 Table 09.3: the freeze seal of a die, after its map pages. -/
def State.freezeSealOf (s : State) (d : Nat) : Seal :=
  { epoch := s.shadow.epoch, root := (s.die d).rootAddr, openBlocks := (s.die d).openSince, whole := true
    snowline := look 0 s.freeze.snowAtStart d, budget := s.budget, sweeps := s.sweepList
    checkpoints := s.shadow.ckptSealing.foldl (fun l n => addOnce n l) s.shadow.ckptDone
    swept := s.sweptHome d, saved := look 0 s.freeze.saved d, lost := look 0 s.freeze.lost d
    source := s.freeze.source, time := s.freeze.detect, duration := s.aon.deviceTime - s.freeze.detect
    thawRunning := decide (s.freeze.thaw = 4), progSeq := (s.die d).progSeq }

/-- A die's pages of step 8 have passed, and its seal is not written yet. -/
def State.maySealFreeze (s : State) (d : Nat) : Bool :=
  s.freeze.active && s.freezeSeals && s.freeze.drained.elem d && !s.freeze.sealedBy.elem d &&
    decide ((s.die d).phase = 4)

/-- FREEZE_SEAL: the map, index and root index pages of step 8 have passed; the seal is written, and the die
releases SEQSYNC (09 Table 09.1 step 9). A write that is cut short leaves the slot invalid (R225, log 131). -/
def State.freezeSeal (s : State) (d : Nat) (whole : Bool) : State :=
  if !whole then s.setDie d { s.die d with freezeSeal := some { s.freezeSealOf d with whole := false } }
  else
  let s := s.setDie d { s.die d with freezeSeal := some (s.freezeSealOf d), phase := 0, mapPages := [] }
  { s with freeze := { s.freeze with sealedBy := addOnce d s.freeze.sealedBy } }.releaseDie d

def execFreezeSeal (die : Nat) (whole : Bool) (s : State) : Host.Outcome State Fault Refusal :=
  act (fun s => if s.maySealFreeze die then s.freezeSeal die whole else s) s

/-- Package snowline at step 5 and flakes lost, over the dies. -/
def State.snowAtStep5 (s : State) : Nat := (s.freeze.snowAtStart.map (·.2)).sum
def State.flakesLost (s : State) : Nat := (s.freeze.lost.map (·.2)).sum

/-- 19 Table 19.4: the final freeze record. -/
def State.finalRecord (s : State) : Staged :=
  { typ := 0x6801, cause := none, args := [], sev := 2, vis := 0
    payload := leBytes 1 s.freeze.source ++ leBytes 3 0 ++
      leBytes 4 (min u32max (s.aon.deviceTime - s.freeze.detect)) ++ leBytes 8 s.snowAtStep5 ++
      leBytes 8 s.flakesLost ++ leBytes 8 s.shadow.epoch
    time := s.aon.deviceTime, tv := s.timeValid, count := 1, single := true }

/-- The quadrants that are left are released at step 10 (09 R222). -/
def State.releaseRest (s : State) (d : Nat) : State :=
  (List.range 4).foldl (fun t q =>
    let x := t.quad d q
    if 3 ≤ x.st then t else t.setQuad d q { x with st := 5 }) s

/-- 09 Table 09.1 step 10: the final record goes ahead of every queued entry, the queues are written
out, the battery account and device time are kept, and quadrants, flash groups, links and rails are
released. -/
def State.endFreeze (s : State) : State :=
  let s := if s.freezeDies.elem 0 then s.writeRecord 0 s.finalRecord else s
  let s := s.freezeDies.foldl (fun t d => t.drainQueue d 128) s
  let s := (s.setReg 0x6800 0x11 s.freeze.source).inc 0x6800 0x12
  let s := if s.bat.counting then s.writeLearned else s
  s.allPads fun (t : State) => t.workingDies.foldl (fun u d => u.releaseRest d) { t with
    aon := { t.aon with savedTime := t.aon.deviceTime }
    seq := { t.seq with release := t.workingDies }
    freeze := { t.freeze with active := false }
    bus := { t.bus with st := 0 } }

/-- FREEZE_ALL_SEALED: every die that can seal has. -/
def execFreezeAllSealed (s : State) : Host.Outcome State Fault Refusal :=
  act (fun s =>
    if s.freeze.active = true ∧ s.freezeDies.all (fun d => s.freeze.sealedBy.elem d || !s.freezeSeals) = true then
      s.endFreeze
    else s) s

/-- INPUT_POWER_RETURN: input power is back, and in state 14 the hold time starts (09 R227). -/
def execInputPowerReturn (s : State) : Host.Outcome State Fault Refusal :=
  act (fun s =>
    { s with aon := { s.aon with
        pwrfailLow := false, senseLow := false, holdRunning := decide (s.seq.st = 14) } }) s

/-- FREEZE_HOLD_EXIT: input power has held for the hold time; a Dormant package also needs a wake
event since state 14 (09 R227, 12 R303). -/
def execFreezeHoldExit (s : State) : Host.Outcome State Fault Refusal :=
  act (fun s =>
    if s.seq.st = 14 ∧ s.aon.pwrfailLow = false ∧ s.aon.senseLow = false ∧ s.aon.holdRunning = true ∧
        s.seq.release = [] ∧ (s.reg 0x7101 2 = 1 → s.aon.wakeStored ≠ []) then
      { s with seq := { s.seq with holds := [] }, aon := { s.aon with holdRunning := false } }
    else s) s

end Sys2Proof.Machine
end

