-- ==== Sys2Proof/Machine/Thaw.lean ====
section
/-! DEFINITION. The thaw: the choice of the recovery, the resolution of every flake, the recovery seal,
fetches and fills, and the end of the thaw (09 R229–R240). -/
namespace Sys2Proof.Machine

/-- What state 10 chooses: 0 first start, 1 freeze seals, 2 epoch seal; the epoch; the seal used by each
die that has one (09 R229). -/
structure Choice where
  kind : Nat
  epoch : Nat
  seals : List (Nat × Seal)
  deriving DecidableEq, Repr

/-- Valid epoch seals that a die's ledger offers, and its valid freeze seal; none of a die that stopped since
the last thaw or is out of service (07 R167, 09 R225, 10 R263; log 61). -/
def State.sealsOf (s : State) (d : Nat) : List Seal :=
  if s.seq.lostDies.elem d || s.dieOut d then [] else ((s.die d).sealA.toList ++ (s.die d).sealB.toList).filter (·.whole)

def State.freezeSealsOf (s : State) (d : Nat) : Option Seal :=
  if s.seq.lostDies.elem d || s.dieOut d then none else (s.die d).freezeSeal.filter (·.whole)

/-- The seal of an epoch on a die. -/
def State.sealFor (s : State) (d e : Nat) : Option Seal := (s.sealsOf d).find? fun x => decide (x.epoch = e)

/-- The largest epoch of a list of seals that satisfies a test. -/
def bestEpoch (p : Nat → Bool) (l : List Seal) : Option Nat :=
  ((l.map (·.epoch)).filter p).foldl (fun m e =>
    match m with
    | some x => some (max x e)
    | none => some e) none

/-- The cases of R229 without freeze seals. -/
def State.chooseEpoch (s : State) (ds : List Nat) : Choice :=
  if s.shadow.counter.isNone then { kind := 0, epoch := 0, seals := [] }
  else
    let holders := ds.filter fun d => !(s.sealsOf d).isEmpty
    match holders with
    | [] => { kind := 2, epoch := 0, seals := [] }
    | h :: _ =>
      let common := fun e : Nat => holders.all fun d => (s.sealFor d e).isSome
      let e := match bestEpoch common (s.sealsOf h) with
        | some e => e
        | none => (bestEpoch (fun _ => true) (s.sealsOf h)).getD 0
      { kind := 2, epoch := e, seals := ds.filterMap fun d => (s.sealFor d e).map fun x => (d, x) }

/-- 09 R229: the choice of the recovery, over every die present. -/
def State.chooseRecovery (s : State) : Choice :=
  let ds := s.dieList
  let fz := ds.filterMap fun d => (s.freezeSealsOf d).map fun x => (d, x)
  match fz with
  | (_, x) :: l =>
    if fz.length = ds.length ∧ (l.all fun y => decide (y.2.epoch = x.epoch)) = true then
      { kind := 1, epoch := x.epoch, seals := fz }
    else s.chooseEpoch ds
  | [] => s.chooseEpoch ds

/-- The largest epoch in any seal of a die, or in die 0's ledger (09 R231). -/
def State.largestEpoch (s : State) : Nat :=
  ((s.workingDies.flatMap fun d => (s.sealsOf d ++ (s.freezeSealsOf d).toList).map (·.epoch)).foldl max
    (s.shadow.counter.getD 0))

/-- 03 R78, R79: where the sweeps go on. On the epoch-seal path a sweep, complete or not, resumes at the
watermark that the recovered seal lists, or at its base. -/
def State.resumeSweeps (s : State) (c : Choice) : State :=
  if c.kind = 1 then s
  else
    let listed := fun n : Nat =>
      ((c.seals.flatMap fun e => e.2.sweeps).find? fun w => decide (w.1 = n)).map (·.2)
    (s.ten.keys.filter fun e => decide (1024 ≤ e.1) && (decide (e.2.st = 4) || decide (e.2.st = 5))).foldl
      (fun (t : State) e =>
        let n := e.2.ten
        let x := t.tenancy n
        (t.setKey e.1 { e.2 with st := 4 }).setTen n
          { x with watermark := (listed n).getD (x.base * driftBytes) }) s

/-- 07 R177, R178: a used seal that lists a tenancy gives its last checkpoint epoch. -/
def State.takeCheckpoints (s : State) (c : Choice) : State :=
  c.seals.foldl (fun (t : State) e => e.2.checkpoints.foldl (fun (u : State) n =>
    u.setReg (ixPer 0x5818 n) (subPer n) (max (u.reg (ixPer 0x5818 n) (subPer n)) e.2.epoch)) t) s

/-- 03 R77: the flakes of CHECKPOINT tenancies that only a rekey sweep has marked, as the used seals list them (log 40). -/
def State.takeSwept (s : State) (c : Choice) : State :=
  { s with shadow := { s.shadow with swept := (c.seals.flatMap fun e => e.2.swept).foldl (fun l m => addOnce m l) [] } }

/-- The newest valid seal of a die (08 R203). -/
def DieShadow.newestAny (x : DieShadow) : Option Seal :=
  match x.freezeSeal.filter (·.whole) with
  | some a => some a
  | none => x.newest

/-- 08 R203: the open blocks of a die, and those that its newest valid seal lists as open, are closed. -/
def DieShadow.closeBlocks (x : DieShadow) : DieShadow :=
  let blocks := x.blocks.map fun (e : Nat × Nat) => (e.1, if e.2 = 1 ∨ e.2 = 2 then 3 else e.2)
  { x with
    blocks := ((x.newestAny.map (·.openBlocks)).getD []).foldl
      (fun t b => if look 0 t b = 0 then put 0 t b 3 else t) blocks
    luns := (x.luns.map fun (e : Nat × Lun) =>
      (e.1, { e.2 with openData := none, openMap := none, erasing := none, susp := 0, suspends := 0 })).filter
        fun e => !decide (e.2 = noLun) }

/-- 09 R234: a recovery from an epoch seal counts once. -/
def State.countDirty (s : State) (c : Choice) : State :=
  if c.kind = 2 ∧ s.freeze.counted = false then
    { s with
      hosts := { s.hosts with dirtyShutdowns := min u32max (s.hosts.dirtyShutdowns + 1) }
      freeze := { s.freeze with counted := true } }.report 0 cDirtyShutdown 1 0 []
  else s

/-- Seal used at the last thaw and flakes lost by the last freeze on a die (09 0x6810+d.01, .03). -/
def State.noteSeal (s : State) (c : Choice) (d : Nat) : State :=
  let used := c.seals.find? fun e => decide (e.1 = d)
  let s := s.setReg (0x6810 + d) 1 (if used.isNone then 0 else if c.kind = 1 then 2 else 1)
  let s := match s.freezeSealsOf d with
    | some x => s.setReg (0x6810 + d) 3 x.lost
    | none => s
  if used.isNone ∧ c.kind ≠ 0 then s.report d cDieNoSeal 2 0 [d, c.epoch] else s

/-- A die has erase intents that stand, on LUNs that take commands (08 R202, R209). -/
def State.hasIntents (s : State) (d : Nat) : Bool := (s.die d).intents.any fun e => (s.allLuns d).elem e.1

/-- 03 R60: a die interleave needs equal dies; with unequal ones it is not in force, and a Warning
record says so. -/
def State.settleInterleave (s : State) : State :=
  let u := s.usable 0
  if s.dram.interleave ≠ 0 ∧ (s.dieList.any fun d => decide (s.usable d ≠ u)) = true then
    { s with dram := { s.dram with interleave := 0 } }.report 0 cInterleave 1 0 []
  else s

/-- State 10: the ranks that failed their training are retired, ledgers are read, the recovery is chosen, open blocks are
closed, and the battery account is taken up; dies with standing intents work on (09 Table 09.7 steps 2 and 3). The thaw
takes the mode that 0x6800.01 holds as it starts; a later write is for the next one (R235). -/
def State.enter10 (s : State) : State :=
  let s := s.settleInterleave
  let s : State := { s with freeze := { s.freeze with thaw := 1, mode := s.reg 0x6800 1 } }
  let s := s.dieList.foldl (fun t d => t.retireFailed d) s
  let s := s.setReg 0x6900 7 s.degradedBytes
  let c := s.chooseRecovery
  let s : State := { s with
    freeze := { s.freeze with
      recovery := c.kind, epoch := c.epoch, started := s.aon.now, restored := [], poisoned := []
      filled := [], topEpoch := s.largestEpoch, restoreTotal := 0, tenths := 0 }
    shadow := { s.shadow with sealedAll := if c.kind = 2 then some c.epoch else none } }
  let s := ((s.setReg 0x6800 8 c.kind).setReg 0x6800 9 c.epoch).setReg 0x6800 0x0A 0
  let s := s.dieList.foldl (fun t d => t.noteSeal c d) s
  let s := (((s.countDirty c).resumeSweeps c).takeCheckpoints c).takeSwept c
  let s := s.dieList.foldl (fun (t : State) d => t.setDie d (t.die d).closeBlocks) s
  let s := s.loadLearned
  { s with seq := { s.seq with holds := s.workingDies.filter s.hasIntents } }

/-- INTENT_REERASE: a block with a standing intent is erased again and blank-checked: it passes where no codeword
shows more than 8 programmed bits, and is never read for data where it fails (08 R202). -/
def State.reerase (s : State) (d l : Nat) (erased : Bool) (bits : Nat) : State :=
  let b := look 0 (s.die d).intents l
  if b = 0 ∨ s.seq.st ≠ 10 ∨ (s.allLuns d).elem l = false then s
  else
    let x := s.die d
    let s := s.setDie d { x with intents := put 0 x.intents l 0 }
    let s := if d = 0 then s.bootErased b else s
    let s :=
      if erased then
        let s := s.inc (ixFlash d (l / 32)) 6
        if bits ≤ 8 then (s.setDie d ((s.die d).wipeBlock b)).inc (ixGlacier d) 0x0C
        else (s.setDie d ((s.die d).dropPages b)).addMoraine d b 4
      else ((s.setDie d ((s.die d).dropPages b)).inc (ixFlash d (l / 32)) 5).addMoraine d b 3
    if s.hasIntents d then s else s.releaseDie d

def execIntentReerase (die lun : Nat) (erased : Bool) (bits : Nat) (s : State) :
    Host.Outcome State Fault Refusal :=
  act (fun s => s.reerase die lun erased bits) s

/-- The seal that a die's restore uses. -/
def State.usedSeal (s : State) (d : Nat) : Option Seal :=
  let k := s.reg (0x6810 + d) 1
  if k = 2 then s.freezeSealsOf d else if k = 1 then s.sealFor d s.freeze.epoch else none

/-- A die's map as a root index page leads to it: firn states, flake map and heat counters, the map pages that
cannot be read, and the addresses of its pages. -/
structure MapImage where
  firn : Sparse Nat
  fmap : Sparse Nat
  heat : Sparse Nat
  lost : List Nat
  mapAddr : Sparse Nat
  indexAddr : Sparse Nat
  rootAddr : Nat
  deriving DecidableEq, Repr

/-- A page of a type and map page number that reads; `bad` names addresses that cannot be read. -/
def State.mapBody (s : State) (d a typ num : Nat) (bad : List Nat) : Option PageBody :=
  let p := s.page d a
  if s.pageReads d a && !bad.elem a && decide (p.typ = typ) && decide (p.mapNum = num) then some p.body else none

/-- Addresses in an index page of a die, where it was encrypted as such (08 R191, R192). -/
def State.indexAt (s : State) (d a typ num : Nat) (bad : List Nat) : Option (Sparse Nat) :=
  match s.mapBody d a typ num bad with
  | some (.index e k l) => if e = d ∧ k = num then some l else none
  | _ => none

/-- Flake map, firn states and heat counters of a map page of a die, where it was encrypted as such (08 R191). -/
def State.mapAt (s : State) (d a num : Nat) (bad : List Nat) : Option (Sparse Nat × Sparse Nat × Sparse Nat) :=
  match s.mapBody d a 2 num bad with
  | some (.map e k f c h) => if e = d ∧ k = num then some (f, c, h) else none
  | _ => none

/-- The map that a seal's root leads to; none when the root index page cannot be read. -/
def State.imageOf (s : State) (d : Nat) (sl : Seal) (bad : List Nat) : Option MapImage :=
  (s.indexAt d sl.root 4 0 bad).map fun roots =>
    let idx := roots.map fun e => (e.1, s.indexAt d e.2 3 e.1 bad)
    let addrs := idx.flatMap fun e => (e.2.getD []).map fun p => (2048 * e.1 + p.1, p.2)
    let maps := addrs.map fun e => (e.1, s.mapAt d e.2 e.1 bad)
    let noIdx := (idx.filter fun e => e.2.isNone).flatMap fun e => (List.range 2048).map (2048 * e.1 + ·)
    let some_ := maps.filterMap fun e => e.2.map fun v => (e.1, v)
    let flake := fun (m i : Nat) => s.flakeAt d (2048 * m + i)
    { firn := some_.flatMap fun e => e.2.2.1.map fun p => (flake e.1 p.1, p.2)
      fmap := some_.flatMap fun e => e.2.1.map fun p => (flake e.1 p.1, p.2)
      heat := some_.flatMap fun e => e.2.2.2.map fun p => (8 * (16 * e.1 + p.1) + d, p.2)
      lost := (noIdx.filter fun m => decide (m < s.mapTotal d)) ++
        (maps.filter fun e => e.2.isNone).map (·.1)
      mapAddr := addrs, indexAddr := roots, rootAddr := sl.root }

/-- 09 R230: pages of the blocks that the recovered seal lists as open, on the epoch-seal path. -/
def State.scanned (s : State) (d : Nat) (sl : Seal) (bad : List Nat) : List (Nat × Page) :=
  if s.freeze.recovery = 2 then
    (s.die d).pages.filter fun e => sl.openBlocks.elem (blkOfPage e.1) && e.2.good e.1 && !bad.elem e.1
  else []

/-- 03 R78: a page written after the recovered seal for a flake at or above the seal's watermark. -/
def State.sweptLater (s : State) (n m : Nat) (p : Page) : Bool :=
  (s.transitOf n).isSome && decide (s.freeze.epoch < p.epoch) &&
    decide ((s.tenancy n).watermark < (m + 1) * flakeBytes)

/-- 09 R230: the header of a page that reads names the flake and the tenancy that now covers it, and is newer
than the tenancy's last CREATE or RESIZE. -/
def State.pageFits (s : State) (d n m : Nat) (p : Page) : Bool :=
  decide (p.typ = 1) && decide (p.ten = n) && decide (p.flake = m) &&
    decide (look 0 (s.tenancy n).created d < p.progSeq) &&
    (match p.body with | .data _ _ => true | _ => false)

/-- The page of highest program sequence. -/
def highest (l : List (Nat × Page)) : Option (Nat × Page) :=
  l.foldl (fun m e =>
    match m with
    | some x => if x.2.progSeq < e.2.progSeq then some e else some x
    | none => some e) none

/-- 07 R178: what a checkpoint tenancy keeps of a resolved flake. -/
def State.afterCheckpoint (s : State) (d n code : Nat) (r : Nat × Nat) : Nat × Nat :=
  if (s.tenancy n).mode ≠ 1 then r
  else if isSnow code then (fPoisoned, 0)
  else if r.1 = fUnrestored ∧ s.reg (ixPer 0x5818 n) (subPer n) < (s.page d r.2).epoch then (fPoisoned, 0)
  else r

/-- 09 Table 09.6 on the epoch-seal path: firn state and entry of a covered flake. -/
def State.resolveEpoch (s : State) (d n m code entry : Nat) (scan : List (Nat × Page)) (bad : List Nat) :
    Nat × Nat :=
  let mine := scan.filter fun e => s.pageFits d n m e.2
  let good := mine.filter fun e => !s.sweptLater n m e.2
  let snow := isSnow code || decide (mine.length ≠ good.length)
  let mapped := s.page d entry
  let cands := if code = fClean ∧ snow = false ∧ entry ≠ 0 ∧ mapped.good entry = true ∧ bad.elem entry = false ∧
      s.pageFits d n m mapped = true ∧ s.sweptLater n m mapped = false then (entry, mapped) :: good else good
  match highest cands with
  | some e => (fUnrestored, e.1)
  | none => if snow then (fPoisoned, 0) else (fTrimmed, 0)

/-- 09 Table 09.6: firn state and entry of a flake after the sump restore. -/
def State.resolveFlake (s : State) (d m code entry : Nat) (scan : List (Nat × Page)) (bad : List Nat) :
    Nat × Nat :=
  match s.flakeTen m with
  | none => (fTrimmed, 0)
  | some n =>
    let code := if (s.tenancy n).mode = 1 ∧ isSnow code = true ∧ s.shadow.swept.elem m = true then fClean else code
    if (s.tenancy n).mode = 2 then (fTrimmed, 0)
    else if code = fPoisoned ∨ 9 ≤ code then (fPoisoned, 0)
    else if s.freeze.recovery = 1 then
      s.afterCheckpoint d n code
        (if code = fClean then (if entry = 0 then (fTrimmed, 0) else (fUnrestored, entry))
         else if isSnow code then (fPoisoned, 0) else (fTrimmed, 0))
    else s.afterCheckpoint d n code (s.resolveEpoch d n m code entry scan bad)

/-- A die's flakes, summary and heat are forgotten before the map is read. -/
def State.forgetMap (s : State) (d : Nat) : State :=
  { s with shadow := { s.shadow with
      firn := s.shadow.firn.filter fun e => !decide (s.homeDie e.1 = d)
      fmap := s.shadow.fmap.filter fun e => !decide (s.homeDie e.1 = d)
      summary := s.shadow.summary.filter fun e => !decide (dieOfDrift e.1 = d)
      heat := s.shadow.heat.filter fun e => !decide (dieOfDrift e.1 = d)
      heatSub := s.shadow.heatSub.filter fun e => !decide (dieOfDrift e.1 = d) } }

/-- A flake that the recovery finds lost: it is listed, and counts for the health (09 R233, R240). -/
def State.thawPoison (s : State) (m : Nat) : State :=
  let s := (s.setFirn m fPoisoned).listPoison (s.homeDie m) (m * flakeBytes) 256 false
  { s with
    shadow := { s.shadow with fmap := put 0 s.shadow.fmap m 0 }
    freeze := { s.freeze with poisoned := addOnce m s.freeze.poisoned } }.addReg 0x6800 0x0A 1 u64max

/-- Set one flake of a die as it was resolved; its map page has changed when its record differs, and a page that it
pointed to goes stale in the open epoch (08 R205). A reserved code is reported (07 R152). -/
def State.setResolved (s : State) (m code entry : Nat) (r : Nat × Nat) : State :=
  let s := if r.2 = entry then s else s.stalePage (s.homeDie m) entry
  let s := if 9 ≤ code then s.report (s.homeDie m) cReservedFirn 1 0 [m] else s
  let s := if r.1 = fPoisoned then s.thawPoison m
    else
      let s := s.setFirn m r.1
      { s with shadow := { s.shadow with fmap := put 0 s.shadow.fmap m r.2 } }
  if mapCode r.1 = code ∧ r.2 = entry then s else s.touchMap m

/-- Flakes of the PERSISTENT and CHECKPOINT tenancies LIVE or FENCED whose home is a die. -/
def State.coveredHome (s : State) (d : Nat) : List Nat :=
  (s.ten.table.filter fun e => e.2.open_ && decide (e.2.mode ≤ 1)).flatMap fun e =>
    ((List.range (128 * (e.2.limit - e.2.base))).map (128 * e.2.base + ·)).filter fun m =>
      decide (s.homeDie m = d)

/-- Logical ranks that are lost (10 R250). -/
def State.lostRanks (s : State) : List Nat := s.populated.filter s.isLost

/-- Flakes of a die with a line on a lost rank are POISONED (10 R250). -/
def State.poisonLost (s : State) (d : Nat) : State :=
  (s.lostRanks.flatMap s.flakesOn).foldl (fun t m =>
    if t.homeDie m = d ∧ t.firn m ≠ fPoisoned then (t.thawPoison m).touchMap m else t) s

/-- 09 R231: blocks without a page now current hold stale pages; none is assumed erased. -/
def State.distrustBlocks (s : State) (d : Nat) : State :=
  if s.freeze.recovery ≠ 2 then s
  else
    ((s.allLuns d).flatMap (s.blocksOf d)).foldl (fun (t : State) b =>
      let x := t.die d
      if look 0 x.blocks b ≠ 5 ∧ (t.currentIn d b).isEmpty = true ∧ isBootBlk d b = false then
        t.setDie d { x with blocks := put 0 x.blocks b 4 }
      else t) s

/-- Home flakes of a die that its map or the scanned pages name. -/
def State.namedFlakes (s : State) (d : Nat) (i : MapImage) (scan : List (Nat × Page)) : List Nat :=
  (((i.firn.map (·.1)) ++ (i.fmap.map (·.1)) ++ (scan.map fun e => e.2.flake)).foldl
    (fun l m => addOnce m l) []).filter fun m => decide (s.homeDie m = d)

/-- The covered home flakes of map pages that cannot be read are lost, whatever else names them (log 137). -/
def State.loseMaps (s : State) (d : Nat) (lost : List Nat) : State :=
  if lost.isEmpty then s
  else
    ((s.coveredHome d).filter fun m => lost.elem (s.homeIdx m / 2048)).foldl
      (fun t m => (t.thawPoison m).touchMap m) s

/-- A die's map is taken from an image and the scanned pages (09 Table 09.6, R236). -/
def State.mapFrom (s : State) (d : Nat) (i : MapImage) (scan : List (Nat × Page)) (bad : List Nat) : State :=
  let s : State := { s with
    shadow := { s.shadow with heat := i.heat.foldl (fun t e => put 0 t e.1 e.2) s.shadow.heat }
    freeze := { s.freeze with topEpoch := (scan.map fun e => e.2.epoch).foldl max s.freeze.topEpoch } }
  let s := s.setDie d { s.die d with mapAddr := i.mapAddr, indexAddr := i.indexAddr, rootAddr := i.rootAddr }
  let s := ((s.namedFlakes d i scan).filter fun m => !i.lost.elem (s.homeIdx m / 2048)).foldl (fun t m =>
    let code := look fTrimmed i.firn m
    let entry := look 0 i.fmap m
    t.setResolved m code entry (t.resolveFlake d m code entry scan bad)) s
  s.loseMaps d i.lost

/-- Home flakes of a die in the assignable region. -/
def State.homeFlakes (s : State) (d : Nat) : List Nat :=
  (List.range (s.assign d / flakeBytes)).map (s.flakeAt d)

/-- Some die offers a valid seal. -/
def State.anySeal (s : State) : Bool := s.dieList.any fun d => !(s.sealsOf d).isEmpty || (s.freezeSealsOf d).isSome

/-- A die's map is lost: a set of its home flakes is POISONED, every other one TRIMMED, and its whole map has changed.
Without a seal for E it is every home flake; with a counter and no seal anywhere, and where the root index page cannot be
read, the covered ones of PERSISTENT and CHECKPOINT tenancies (09 R229, 10 R263; log 44). -/
def State.mapLost (s : State) (d : Nat) (all : Bool) : State :=
  if s.freeze.recovery = 0 then s
  else
    let s := (if all then s.homeFlakes d else s.coveredHome d).foldl (fun t m => t.thawPoison m) s
    s.setDie d { s.die d with mapChanged := List.range (s.mapTotal d) }

/-- Step 5 of the thaw, after a recovery from an epoch seal: the map pages that the resolution changed are
programmed (09 Table 09.7). -/
def State.saveResolved (s : State) (d : Nat) : State :=
  if s.freeze.recovery = 2 ∧ s.dieOut d = false then
    let x := s.die d
    (s.setDie d { x with mapChanged := [] }).startMaps d x.mapChanged
  else s

/-- Pages of a die's map that needed a retry level, or failed at every one, are counted; a current one that decoded so is
written afresh (08 R200, R204). -/
def State.mapRetried (s : State) (d : Nat) (bad retried : List Nat) : State :=
  retried.foldl (fun t a => if t.isMapPage d a then t.markMap d a else t)
    (s.addReg (ixGlacier d) 0x0A (bad ++ retried).length u32max)

/-- The map of a die is read and every home flake set per Table 09.6; `bad` names pages that cannot be read, `retried`
those that decoded at a retry level (09 Table 09.7 steps 4 and 5). -/
def State.mapRestore (s : State) (d : Nat) (bad retried : List Nat) : State :=
  let s := s.forgetMap d
  let s := match s.usedSeal d with
    | none => s.mapLost d s.anySeal
    | some sl =>
      match s.imageOf d sl bad with
      | some i => s.mapFrom d i (s.scanned d sl bad) bad
      | none => (s.report d cDieNoSeal 2 0 [d, s.freeze.epoch]).mapLost d false
  let s := s.mapRetried d bad retried
  let s := ((s.poisonLost d).distrustBlocks d).saveResolved d
  { s with freeze := { s.freeze with restored := addOnce d s.freeze.restored } }

/-- MAP_RESTORE_DONE. -/
def execMapRestoreDone (read : MapRead) (s : State) : Host.Outcome State Fault Refusal :=
  act (fun s =>
    let die := read.die
    if s.seq.st = 11 ∧ s.freeze.thaw = 2 ∧ s.workingDies.elem die = true ∧
        s.freeze.restored.elem die = false then s.mapRestore die read.bad read.retried
    else s) s

/-- State 11 begins: every thaw mark is cleared; a die out of service has no map (09 Table 09.7). -/
def State.enter11 (s : State) : State :=
  let s : State := { s with
    freeze := { s.freeze with thaw := 2, markDflt := false, markFlip := [] }
    seq := { s.seq with holds := s.workingDies } }
  (s.dieList.filter s.dieOut).foldl (fun t d => t.mapRestore d [] []) s

/-- Bytes still to restore (09 0x6800.0C). -/
def State.restoreLeft (s : State) : Nat :=
  (s.shadow.firn.filter fun e => decide (e.2 = fUnrestored) || decide (e.2 = fRestoring)).length * flakeBytes

/-- 09 R240: the report of the recovery with the flakes that it has made POISONED, and one of each range that still is. -/
def State.reportThaw (s : State) : State :=
  let l := s.freeze.poisoned
  let kind := s.freeze.recovery
  let s := s.report 0 (if kind = 2 then cThawEpoch else cThawFreeze) (if kind = 2 then 1 else 0) 0
    [kind, s.freeze.epoch, s.reg 0x6800 0x0A]
  let sorted := (l.foldl (fun t m => insertK t m ()) ([] : Sparse Unit)).map (·.1)
  (runsOf sorted).foldl (fun t e => t.report (t.homeDie e.1) cPoisonRange 2 0 [e.1, e.2]) s

/-- The recovery seal of one die (09 Table 09.7 step 6): the recovered epoch with the freeze seal's root,
or the new epoch with the root that step 5 wrote. -/
def State.sealRecovery (s : State) (d e : Nat) : State :=
  let x := s.die d
  if s.freeze.recovery = 0 then
    s.setDie d { x with sealA := none, sealB := none, freezeSeal := none, openSince := [] }
  else
    let root := if s.freeze.recovery = 2 then x.rootAddr else (x.freezeSeal.map (·.root)).getD 0
    let y := x.writeSeal { s.draftSeal d e with root := root, openBlocks := x.openSince }
    s.setDie d { y with freezeSeal := none, openSince := [], phase := 0, mapPages := [] }

/-- A RETIRE past its step 3 is completed by the thaw (03 R72). -/
def State.endRetires (s : State) : State :=
  ((s.ten.table.filter fun e => decide (e.2.st = 3)).map (·.1)).foldl (fun (t : State) n =>
    ((t.setTen n noTen).setReg (ixPer 0x5818 n) (subPer n) 0).setReg (ixPer 0x5820 n) (subPer n) 0) s

/-- Epoch of the recovery seals (09 R231, R232). -/
def State.recoveryEpoch (s : State) : Nat :=
  if s.freeze.recovery = 2 then s.freeze.topEpoch + 1 else s.freeze.epoch

/-- RECOVERY_SEAL: the recovery seal on every die, freeze seals cleared, and the restore in the mode that this thaw
took (09 R232, R235). -/
def State.recoverySeal (s : State) : State :=
  let kind := s.freeze.recovery
  let e := s.recoveryEpoch
  let s := s.workingDies.foldl (fun t d => t.sealRecovery d e) s
  let s : State := if kind = 0 then s else
    { s with shadow := { s.shadow with counter := some (e + 1), epoch := e + 1, sealedAll := some e } }
  let s := (if kind = 0 then s else s.rekeySeal).endRetires
  let s : State := { s with
    seq := { s.seq with lostDies := s.seq.lostDies.filter s.dieOut }
    freeze := { s.freeze with counted := false, restoreTotal := s.restoreLeft, tenths := 0 } }
  if s.freeze.mode = 0 then { s with freeze := { s.freeze with thaw := 3 } }
  else
    { s with freeze := { s.freeze with thaw := 4 }, seq := { s.seq with holds := [] } }.cdatChanged

/-- Every die that works has its map, and the map pages of step 5 have passed (09 Table 09.7). -/
def State.mayRecover (s : State) : Bool :=
  decide (s.seq.st = 11) && decide (s.freeze.thaw = 2) &&
    s.workingDies.all fun d =>
      s.freeze.restored.elem d && (decide (s.freeze.recovery ≠ 2) || decide ((s.die d).phase = 4))

/-- The recovery seal that a die was writing stays half written, and the other slot stands (07 R167, log 131). -/
def State.tearRecovery (s : State) (d : Nat) : State :=
  if s.workingDies.elem d then
    s.setDie d ((s.die d).writeSeal { s.draftSeal d s.recoveryEpoch with whole := false })
  else s

def execRecoverySeal (torn : List Nat) (s : State) : Host.Outcome State Fault Refusal :=
  act (fun s =>
    if !s.mayRecover then s
    else if torn.isEmpty || decide (s.freeze.recovery = 0) then s.recoverySeal
    else torn.foldl (fun t d => t.tearRecovery d) s) s

/-- Home drifts of a die (01 R29). -/
def State.driftCount (s : State) (d : Nat) : Nat := (s.assign d + driftBytes - 1) / driftBytes

/-- The restore engine has something to start in a drift: an UNRESTORED flake, or one to fill. -/
def State.driftTodo (s : State) (j : Nat) : Bool :=
  !s.mark j && (s.driftFlakes j).any fun m => !s.hasData m && decide (s.firn m ≠ fRestoring) && s.flakeAwake m

/-- 09 R235: a drift's heat bucket. -/
def bucketOf (h : Nat) : Nat := if h = 0 then 0 else Nat.log2 h + 1

/-- 09 R235: the drift of a die that the restore engine takes next: ascending in an eager thaw, hottest
first otherwise. -/
def State.nextDrift (s : State) (d : Nat) : Option Nat :=
  let l := (List.range (s.driftCount d)).map fun i => 8 * i + d
  if s.freeze.thaw = 3 then l.find? s.driftTodo
  else
    (List.range 33).reverse.findSome? fun b =>
      l.find? fun j => decide (bucketOf (look 0 s.shadow.heat j) = b) && s.driftTodo j

/-- The restore engine of a die works: from the recovery seal on, outside a freeze. -/
def State.restores (s : State) (d : Nat) : Bool :=
  decide (3 ≤ s.freeze.thaw) && (decide (s.seq.st = 11) || decide (s.seq.st = 12) || decide (s.seq.st = 15)) &&
    !s.freeze.active && s.workingDies.elem d

/-- The restore engine reads a home flake's state: a reserved code is settled (07 R152). -/
def State.restoreLook (s : State) (d m : Nat) : State :=
  if s.restores d && decide (s.homeDie m = d) then s.settleFirn m else s

/-- RESTORE_FETCH. -/
def execRestoreFetch (die flake : Nat) (s : State) : Host.Outcome State Fault Refusal :=
  act (fun s =>
    let s := s.restoreLook die flake
    if s.restores die = true ∧ s.homeDie flake = die ∧ s.firn flake = fUnrestored ∧
        s.flakeAwake flake = true ∧ s.nextDrift die = some (s.driftOf flake) then s.beginFetch flake false
    else s) s

/-- 09 R240: a record at every tenth of the bytes to restore. -/
def State.noteProgress (s : State) : State :=
  if s.freeze.restoreTotal = 0 ∨ s.freeze.thaw = 5 then s
  else
    let k := min 10 (10 * (s.freeze.restoreTotal - s.restoreLeft) / s.freeze.restoreTotal)
    let s' := (List.range (k - s.freeze.tenths)).foldl
      (fun t i => t.report 0 cThawProgress 0 0 [s.freeze.tenths + i + 1]) s
    { s' with freeze := { s'.freeze with tenths := max k s.freeze.tenths } }

/-- A request waits for the fetch or the fill of a flake. -/
def State.hostWaits (s : State) (m : Nat) : Bool := s.freeze.fetchWait.any fun q => decide (flakeOf q.dpa = m)

/-- The lines of a flake may be written now by its fetch or fill: at P5 where a host request waits for it, else at P8
(09 R233, R237; 06 Table 06.2). -/
def State.restoreTurn (s : State) (m : Nat) : Bool := s.flakeTurn m (if s.hostWaits m then 5 else 8)

/-- A restored flake is CLEAN; one that only a rekey sweep has marked is DIRTY again, for its page is under the old key
(03 R77, log 40). -/
def State.restoredAs (s : State) (m : Nat) : State :=
  let t := s.setFirn m fClean
  if t.shadow.swept.elem m then t.firnWrite m else t

/-- FETCH_COMPLETE: a fetch of a flake ends (09 R233), once its lines can be written; a page that needed a retry level is
relocated (08 R200). -/
def State.fetchDone (s : State) (d m : Nat) : State :=
  match takeRead (fun r => decide (r.flake = m) && decide (r.purpose = 0) && r.res.isSome) (s.die d).reads with
  | none => s
  | some (r, l) =>
    if !s.restoreTurn m then s
    else
    let s := s.setDie d { s.die d with reads := l }
    if s.firn m ≠ fRestoring then s
    else
      let p := s.page d r.page
      let s := match r.res, p.body with
        | some true, .data _ _ =>
          let s := (s.restoreFlake m p).restoredAs m
          if 0 < r.level then s.wantMove d r.page else s
        | _, _ => s.fetchFails d m
      ((s.serveWaiting m).settleMark (s.driftOf m)).noteProgress

def execFetchComplete (die flake : Nat) (s : State) : Host.Outcome State Fault Refusal :=
  act (fun s => s.fetchDone die flake) s

/-- A flake is filled: zeros under the key of its tenancy, or unkeyed, or the poison encoding
(09 R233). -/
def State.fillOne (s : State) (m : Nat) : State :=
  let s := if s.firn m = fPoisoned then s.fillFlake m .poison else s.zeroFlake m
  let s : State := { s with freeze := { s.freeze with filled := addOnce m s.freeze.filled } }
  (s.serveWaiting m).settleMark (s.driftOf m)

/-- RESTORE_FILL: the engine's next drift, or a flake that a request waits for. -/
def execRestoreFill (die flake : Nat) (s : State) : Host.Outcome State Fault Refusal :=
  act (fun s =>
    let s := s.restoreLook die flake
    if s.restores die = true ∧ s.homeDie flake = die ∧ s.mark (s.driftOf flake) = false ∧
        (s.firn flake = fTrimmed ∨ s.firn flake = fPoisoned) ∧ s.freeze.filled.elem flake = false ∧
        s.flakeAwake flake = true ∧ s.restoreTurn flake = true ∧
        (s.hostWaits flake = true ∨ s.nextDrift die = some (s.driftOf flake)) then s.fillOne flake
    else s) s

/-- Every thaw mark of the dies in service is set. -/
def State.allMarked (s : State) : Bool :=
  s.workingDies.all fun d => (List.range (s.driftCount d)).all fun i => s.mark (8 * i + d)

/-- THAW_COMPLETE: CDAT and class bounds are restored, patrol scrub begins and the thaw is reported (09 Table 09.7
step 8, R240). -/
def State.endThaw (s : State) : State :=
  let onDemand := decide (s.freeze.thaw = 4)
  let s : State := { s with
    freeze := { s.freeze with thaw := 5, markDflt := true, markFlip := [], filled := [] }
    seq := { s.seq with holds := if onDemand then s.seq.holds else [] } }
  let s := s.setReg 0x6800 0x0F (time48 ((s.aon.now - s.freeze.started) / 1000))
  let s := (List.range (8 * s.n)).foldl (fun t g => t.setScrub g { noScrub with start := t.aon.now }) s
  let s := (s.report 0 cThawDone 0 0 []).reportThaw
  if onDemand then s.cdatChanged else s

def execThawComplete (s : State) : Host.Outcome State Fault Refusal :=
  act (fun s =>
    if (s.freeze.thaw = 3 ∨ s.freeze.thaw = 4) ∧ s.freeze.active = false ∧ s.seq.st ≠ 13 ∧ s.seq.st ≠ 14 ∧
        s.allMarked = true then s.endThaw
    else s) s

/-- HEAT_HALVING: every drift heat counter is halved (09 R236). -/
def execHeatHalving (s : State) : Host.Outcome State Fault Refusal :=
  act (fun s =>
    if s.seq.st ≠ 12 ∨ s.freeze.active = true then s
    else
      let s := s.shadow.heat.foldl (fun (t : State) e =>
        let x := t.die (dieOfDrift e.1)
        t.setDie (dieOfDrift e.1) { x with heatChanged := addOnce (e.1 / 128) x.heatChanged }) s
      { s with shadow := { s.shadow with
          heat := (s.shadow.heat.map fun (e : Nat × Nat) => (e.1, e.2 / 2)).filter fun e => !decide (e.2 = 0) } }) s

end Sys2Proof.Machine
end

