-- ==== Sys2Proof/Machine/Hibernate.lean ====
section
/-! DEFINITION. Hibernate-Quadrant: entry, rails off, and return (10 R256–R260). -/
namespace Sys2Proof.Machine

/-- A flake has a line in a quadrant. -/
def State.flakeInQuad (s : State) (d q m : Nat) : Bool :=
  (s.flakeRanks m).any fun r => decide (dieOfRank r = d) && decide (quadOfRank r = q)

/-- Flakes listed by the firn map, of any home die, with a line in a quadrant. -/
def State.quadFlakes (s : State) (d q : Nat) : List Nat :=
  (s.shadow.firn.map (·.1)).filter (s.flakeInQuad d q)

/-- Home drifts with a line in a quadrant. -/
def State.quadDrifts (s : State) (d q : Nat) : List Nat :=
  (List.range (s.driftCount d)).filterMap fun i =>
    let j := 8 * i + d
    if (s.driftFlakes j).any (s.flakeInQuad d q) then some j else none

/-- 10 R256: the hibernation count of a quadrant: flakes with a line there that are not CLEAN, TRIMMED
or POISONED. -/
def State.hibCount (s : State) (d q : Nat) : Nat :=
  ((s.quadFlakes d q).filter fun m =>
    let c := s.firn m
    !(decide (c = fClean) || decide (c = fTrimmed) || decide (c = fPoisoned))).length

/-- A sump line lies in a quadrant. -/
def State.holdsSump (s : State) (d q : Nat) : Bool :=
  ((s.sumpRanks d).flatMap s.carriers).any fun r => decide (dieOfRank r = d) && decide (quadOfRank r = q)

/-- A migration or rebuild runs on a die. -/
def State.copyRuns (s : State) (d : Nat) : Bool :=
  s.sparing.redirect.any fun e =>
    !e.2.complete && (decide (dieOfRank e.1 = d) || decide (dieOfRank e.2.carrier = d))

/-- 10 R256: every condition of an entry, the hibernate delay being over. -/
def State.mayHibernate (s : State) (d q : Nat) : Bool :=
  decide (s.seq.st = 12) && decide (d < s.n) && decide (q < 4) && bitOf (s.reg (0x6910 + d) 6) q &&
    decide ((s.quad d q).st = 2) && decide (s.reg 0x6900 6 * 1000000000 ≤ s.aon.now - (s.quad d q).deepAt) &&
    !(s.quad d q).hibEntry && !s.thawing && !s.freeze.active &&
    !s.copyRuns d && !s.holdsSump d q && decide (s.hibCount d q = 0)

/-- A drift's thaw mark is cleared and its fills forgotten (10 Table 10.5 step 2). -/
def State.unmark (s : State) (j : Nat) : State :=
  let l := s.driftFlakes j
  let s := s.setMark j false
  { s with freeze := { s.freeze with filled := s.freeze.filled.filter fun m => !l.elem m } }

/-- HIBERNATE_ENTRY. -/
def execHibernateEntry (die q : Nat) (s : State) : Host.Outcome State Fault Refusal :=
  act (fun s =>
    if s.mayHibernate die q then
      let ms := (s.quadFlakes die q).filter fun m => decide (s.firn m = fClean)
      let js := s.quadDrifts die q
      let s := s.setQuad die q { s.quad die q with hibEntry := true, unmarked := js }
      let s := ms.foldl (fun (t : State) m => t.setFirn m fUnrestored) s
      js.foldl (fun (t : State) j => t.unmark j) s
    else s) s

/-- Rails of a die that feed the domain of one quadrant alone. -/
def State.quadRails (s : State) (d q : Nat) : List Nat :=
  railList.filter fun i =>
    s.feeds d i (13 + q) &&
      !((List.range 30).any fun k => decide (k + 1 ≠ 13 + q) && s.feeds d i (k + 1))

/-- HIBERNATE_RAILS_OFF: the quadrant's rails are released in reverse order of enabling, and its clocks and domain
switched off (10 Table 10.5 step 3, 12 R295). -/
def execHibernateRailsOff (die q : Nat) (s : State) : Host.Outcome State Fault Refusal :=
  act (fun s =>
    let x := s.quad die q
    if x.st = 2 ∧ x.hibEntry = true ∧ s.seq.st = 12 then
      s.withPads die fun t =>
        let l := t.quadRails die q
        let t := t.setQuad die q { x with st := 3, hibEntry := false }
        t.releaseRails die l 24
    else s) s

/-- HIBERNATE_RETURN: the quadrant is needed; its rails are enabled in order and its ranks train again
(10 R259, Table 10.6). -/
def execHibernateReturn (die q : Nat) (s : State) : Host.Outcome State Fault Refusal :=
  act (fun s =>
    s.wakeQuad die q) s

end Sys2Proof.Machine
end

