-- ==== Sys2Proof/Machine/Monitor.lean ====
section
/-! DEFINITION. The analogue monitor: timers, pending entries, conversions and their destinations, the
data register, the capture buffer, slices, and the thermal monitor (13; 11 R266, R271; 20 R422–R425). -/
namespace Sys2Proof.Machine

/-- An entry's configuration A+5+e (13 Table 13.8). -/
def State.entryReg (s : State) (d e sub : Nat) : Nat := s.reg (ixAdc d + 5 + e) sub

/-- Only entry 0 of die 0 runs: from the freeze point on (13 Table 13.7, 09 R219). -/
def State.adcFrozen (s : State) : Bool := decide (s.seq.st = 13) || s.hosts.stopped

/-- An entry may start now. -/
def State.entryRuns (s : State) (d e : Nat) : Bool :=
  s.adcRuns d && (!s.adcFrozen || (decide (d = 0) && decide (e = 0)))

/-- The lowest of a list. -/
def lowest : List Nat → Option Nat
  | [] => none
  | x :: l => some (l.foldl min x)

/-- An idle converter starts the pending entry with the lowest number (13 R310). -/
def State.startNext (s : State) (d : Nat) : State :=
  let a := s.adcOf d
  match a.current, lowest (a.pending.filter (s.entryRuns d)) with
  | none, some e => s.setAdc d { a with current := some e, pending := a.pending.erase e }
  | _, _ => s

/-- An entry becomes pending (13 R309). -/
def State.makePending (s : State) (d e : Nat) : State :=
  (s.setAdc d { s.adcOf d with pending := (s.adcOf d).pending ++ [e] }).startNext d

/-- A trigger reaches an entry: with a delay it waits; while the entry still waits, is pending or runs
it is counted as missed (13 R309). -/
def State.trigger (s : State) (d e : Nat) : State :=
  let a := s.adcOf d
  if !s.entryRuns d e then s
  else if a.pending.elem e || a.delayed.elem e || decide (a.current = some e) then s.inc (ixAdc d + 5 + e) 0x0B
  else if 0 < s.entryReg d e 7 then s.setAdc d { a with delayed := a.delayed ++ [e] }
  else s.makePending d e

/-- The supervisor's next mid-window time: a pending capture of its own (13 R308, R309). -/
def State.dueCapture (s : State) (d : Nat) : State :=
  let a := s.adcOf d
  let waiting := a.pending.count 3 + (if a.current = some 3 then 1 else 0)
  if s.entryRuns d 3 = true ∧ waiting < a.rails.length then s.makePending d 3 else s

/-- Entries of a die that a trigger code reaches, entry 3 left to the supervisor's list. -/
def State.fire (s : State) (d code : Nat) : State :=
  let s := if code = 3 then s.dueCapture d else s
  (((List.range 16).filter fun e =>
      decide (e ≠ 3) && decide (s.entryReg d e 1 = 1) && decide (s.entryReg d e 6 = code))).foldl
    (fun (t : State) e => t.trigger d e) s

/-- The start event of a timer has come: the lock of the core PLL for those of Table 13.3, the supervisor's list for
timer 3, and an arming write or the enable of a rail for the others (13 R308). -/
def State.timerRuns (s : State) (d t : Nat) : Bool :=
  decide (t = 1) || decide (t = 3) || (decide (t = 0) && decide (d = 0)) || (s.adcOf d).started.elem t

/-- A write of a timer's period or start event: with start event 0 it is the arming write, which starts the timer
(13 R308, Table 13.8; which write arms is a DESIGN CHOICE, log 167); with start event 1 the timer waits for its rail. -/
def State.armTimer (s : State) (d t : Nat) : State :=
  let a := s.adcOf d
  s.setAdc d { a with
    started := if s.reg (ixAdc d + 1 + t) 2 = 0 then (if s.adcRuns d then addOnce t a.started else a.started)
      else without t a.started }

/-- ADC_TIMER_FIRE. -/
def execAdcTimerFire (die timer : Nat) (s : State) : Host.Outcome State Fault Refusal :=
  act (fun s =>
    if timer < 4 ∧ s.adcRuns die = true ∧ s.timerRuns die timer = true then s.fire die timer else s) s

/-- LEARN_PWM_EDGE: the pin is die 0's (13 R309). -/
def execLearnPwmEdge (rising : Bool) (s : State) : Host.Outcome State Fault Refusal :=
  act (fun s => if s.adcRuns 0 then s.fire 0 (if rising then 4 else 5) else s) s

/-- ENTRY_PENDING: the entry's delay has ended. -/
def execEntryPending (die entry : Nat) (s : State) : Host.Outcome State Fault Refusal :=
  act (fun s =>
    let a := s.adcOf die
    if a.delayed.elem entry ∧ s.entryRuns die entry = true then
      (s.setAdc die { a with delayed := without entry a.delayed }).makePending die entry
    else s) s

/-- Result code of an input in microvolts at a gain, rounded half up (13 R306; log 149). -/
def codeOf (ch g : Nat) (uv : Int) : Int :=
  (2 * uv * g * (if ch = 25 then 2048 else 4096) + 1800000) / 3600000

/-- Saturation of a result code (13 R306). -/
def saturate (ch : Nat) (v : Int) : Int :=
  if ch = 25 then max (-2048) (min 2047 v) else max 0 (min 4095 v)

/-- The mean of a burst, rounded half up (13 R305). -/
def meanOf (l : List Int) : Int := (2 * l.sum + l.length) / (2 * max 1 l.length)

/-- Data register word (13 Table 13.4). -/
def dataWord (ovr sat : Bool) (src ch : Nat) (code : Int) : Nat :=
  2 ^ 31 + ovr.toNat * 2 ^ 30 + sat.toNat * 2 ^ 29 + src % 32 * 2 ^ 24 + ch % 32 * 2 ^ 19 +
    (code % 65536).toNat

/-- A result reaches the data register (13 R313). -/
def State.toData (s : State) (d src ch : Nat) (sat : Bool) (code : Int) : State :=
  let full := bitOf (s.reg (ixAdc d) 6) 31
  let s := if full then s.inc (ixAdc d) 7 else s
  s.setReg (ixAdc d) 6 (dataWord full sat src ch code)

/-- Pack current in mA of a code of channel 25 at gain 8 (11 R266, 13 R318). -/
def State.packAmps (s : State) (code : Int) : Int := code * 1800000000 / (16384 * (s.reg 0x7000 6 : Int))

/-- 11 R271: the charge window with its hysteresis of 2 degrees. -/
def State.chargeWindow (s : State) (t : Int) : State :=
  let lo := 10 * signed32 (s.reg 0x7000 0x0C)
  let hi := 10 * signed32 (s.reg 0x7000 0x0D)
  let inhibit :=
    if t < lo ∨ hi < t then true
    else if lo + 20 ≤ t ∧ t ≤ hi - 20 then false else s.bat.tempInhibit
  { s with bat := { s.bat with tempInhibit := inhibit } }

/-- 2^120, the scale of `expFix`. -/
def fixOne : Nat := 2 ^ 120

/-- e to the p / q in units of 2^-120, by terms of its series (11 R266; log 7). -/
def expFix (p q : Nat) : Nat → Nat → Nat → Nat
  | 0, _, _ => 0
  | n + 1, k, term => term + expFix p q n (k + 1) (term * p / (q * (k + 1)))

/-- The pack is at x tenths of a degree or warmer, by 11 R266: ln(vt) is at most b (1 / T - 1 / 298.15), with T the
absolute temperature of x. The thermistor ratio vt follows from the divider, which stands on the converter's internal
reference of 1,200 mV (11 Table 11.1, 13 Table 13.2; DEDUCED, log 168). -/
def packWarmer (code b : Nat) (x : Int) : Bool :=
  let t := (10 * x + 27315).toNat
  if 8192 ≤ 3 * code then false
  else if t ≤ 29815 then
    decide (3 * code * fixOne ≤ (8192 - 3 * code) * expFix (100 * b * (29815 - t)) (t * 29815) 100 0 fixOne)
  else
    decide (3 * code * expFix (100 * b * (t - 29815)) (t * 29815) 100 0 fixOne ≤ (8192 - 3 * code) * fixOne)

/-- The highest of x + step, x + step / 2, … tenths of a degree, at most 1001, that the pack has reached. -/
def packSearch (code b : Nat) : Nat → Int → Int
  | 0, x => x
  | n + 1, x =>
    let y := x + 2 ^ n
    packSearch code b n (if y ≤ 1001 ∧ packWarmer code b y = true then y else x)

/-- The pack temperature in tenths of a degree (11 R266); none outside -40 to +100 degrees. -/
def packTenths (code b : Nat) : Option Int :=
  if !packWarmer code b (-400) || packWarmer code b 1001 then none
  else
    let x := packSearch code b 11 (-400)
    let exact := decide (2 * (3 * code) = 8192) && decide (x = 250)
    if x = 1000 then none
    else some (if Config.thermUp code b && !exact then x + 1 else x)

/-- A thermistor reading (11 R266): out of range it is a fault, taken as −40 degrees; readings of the
last minute are kept for the cistern (R272). -/
def State.packTemp (s : State) (code : Int) : State :=
  let v := packTenths code.toNat (s.reg 0x7000 7)
  let bad := v.isNone
  let t : Int := v.getD (-400)
  let s := if bad && !s.bat.thermFault then s.report 0 cThermistor 1 0 [] else s
  let keep := s.bat.temps.filter fun e => decide (s.aon.now - e.1 ≤ 60000000000) && decide (e.2 < t)
  let s : State := { s with bat := { s.bat with
    temp := t, thermFault := bad, temps := (s.aon.now, t) :: keep } }
  let s := s.chargeWindow t
  if bad then { s with bat := { s.bat with tempInhibit := true } } else s

/-- Battery values that the fixed entries 0, 1, 2 of die 0 measure (11 R266). -/
def State.toBattery (s : State) (e : Nat) (code : Int) (cycles : Nat) : State :=
  match e with
  | 0 => { s with bat := { s.bat with amps := s.packAmps code } }.countCharge (code * cycles)
  | 1 => { s with bat := { s.bat with volts := code.toNat * 1800 * s.reg 0x7000 5 / 4096000 } }
  | 2 => s.packTemp code
  | _ => s

/-- The reading judged, in twentieths of a degree: code / 4 − 273.15 (13 Table 13.2). -/
def dieTemp20 (code : Int) : Int := 5 * code - 5463

/-- A rank of a die is in the over-temperature refresh state (04 R97). -/
def State.dramHot (s : State) (d : Nat) : Bool :=
  s.dram.ranks.any fun e => decide (dieOfRank e.1 = d) && decide (e.2.refresh = 2)

/-- The throttle has kept its state for 100 ms (20 R423). -/
def State.throttleDwelt (s : State) (d : Nat) : Bool :=
  match (s.adcOf d).throttleAt with
  | some t => decide (100000000 ≤ s.aon.now - t)
  | none => true

/-- 20 R423: what a valid reading does to the throttle. -/
def State.judgeThrottle (s : State) (d : Nat) (t20 : Int) : State :=
  if !s.throttled d then
    if 2000 ≤ t20 ∧ s.throttleDwelt d = true then s.setThrottle d 1 else s
  else if s.dramHot d then (if s.reg (0x1010 + d) 6 = 3 then s.setThrottle d 2 else s)
  else if t20 ≤ 1940 ∧ s.throttleDwelt d = true then s.setThrottle d 0
  else s

/-- A die temperature reading is stored: the last and the highest (20 R426). -/
def State.noteTemp (s : State) (d : Nat) (t : Int) : State :=
  let first := !(s.adcOf d).judged
  let s := s.setReg (0x1010 + d) 5 (raw32 t)
  let s := s.setAdc d { s.adcOf d with judged := true }
  if first || decide (signed32 (s.reg (0x1010 + d) 8) < t) then s.setReg (0x1010 + d) 8 (raw32 t) else s

/-- 20 R423, R425: the thermal monitor judges a reading of entry 5; a sensor fault is treated as 105
degrees and engages the throttle. -/
def State.toThermal (s : State) (d : Nat) (code : Int) : State :=
  let t20 := dieTemp20 code
  if t20 < -800 ∨ 3000 < t20 then
    let s := s.noteTemp d Config.fatalTemp
    let s := if (s.adcOf d).sensorBad then s else s.report d cSensorFault 2 0 [d]
    (s.setAdc d { s.adcOf d with sensorBad := true }).setThrottle d 3
  else
    let s := s.noteTemp d (t20 / 2)
    let hot := decide (2100 < t20)
    let s := if hot && !(s.adcOf d).hot then s.report d cFatalTemp 3 0 [d] else s
    (s.setAdc d { s.adcOf d with sensorBad := false, hot := hot }).judgeThrottle d t20

/-- The capture of the rail whose mid-window time came first: its mean in mV (13 R311). -/
def State.toSupervisor (s : State) (d : Nat) (code : Int) : State :=
  let a := s.adcOf d
  match a.rails with
  | [] => s
  | (i, _) :: l => (s.setAdc d { a with rails := l }).setReg (ixRail d i) 0x0C ((code * 1800 + 2048) / 4096).toNat

/-- Samples as the capture buffer holds them, 16 bits (13 R312). -/
def captureSamples (ch g : Nat) (l : List Int) : List Nat :=
  l.map fun v => ((saturate ch (codeOf ch g v)) % 65536).toNat

/-- Gain of an entry; that of the die temperature is 1 (13 Table 13.2). -/
def State.entryGain (s : State) (d e ch : Nat) : Nat := if ch = 29 then 1 else s.entryReg d e 3

/-- Samples that an entry takes: one conversion, or the N x k of a burst (13 R305). -/
def State.burstLength (s : State) (d e : Nat) : Nat :=
  if s.entryReg d e 5 = 1 then s.entryReg d e 8 * s.entryReg d e 9 else 1

/-- Samples that an entry keeps of those it took: all of a conversion, every k-th of a burst (13 R305). -/
def State.keptSamples (s : State) (d e : Nat) (l : List Int) : List Int :=
  if s.entryReg d e 5 = 1 then
    let k := s.entryReg d e 9
    (List.range (s.entryReg d e 8)).map fun i => l.getD (i * k + (k - 1)) 0
  else l.take 1

/-- Channel that an entry converts; entry 3 takes its rail's R.07. -/
def State.entryChannel (s : State) (d e : Nat) : Nat :=
  if e = 3 then
    match (s.adcOf d).rails with
    | (i, _) :: _ => s.railCfg d i 7
    | [] => 0xFF
  else
    let c := s.entryReg d e 2
    if d ≠ 0 ∧ 24 ≤ c ∧ c ≤ 26 then 27 else c

/-- Result of the kept samples, inputs in microvolts: the mean of their codes, and whether one saturated
(13 R305, R306). -/
def resultOf (ch g : Nat) (l : List Int) : Int × Bool :=
  let c := l.map (codeOf ch g)
  (meanOf (c.map (saturate ch)), c.any fun v => decide (saturate ch v ≠ v))

/-- The learn regulator takes the mean of entry 4: the measured current, and the duty cycle of LEARN_PWM that holds it at
the learn current while the load is on (11 R276, 13 R311). -/
def State.toLearn (s : State) (code : Int) : State :=
  let i := s.packAmps code
  { s with bat := { s.bat with
      learnAmps := i
      learnDuty := if s.bat.learnPwm then Config.learnDuty i (s.reg 0x7001 3) s.bat.learnDuty else s.bat.learnDuty } }

/-- A finished entry delivers to its destinations (13 R311, R312). -/
def State.deliverEntry (s : State) (d e : Nat) (l : List Int) (cycles : Nat) : State :=
  let ch := s.entryChannel d e
  let g := s.entryGain d e ch
  let l := s.keptSamples d e l
  let r := resultOf ch g l
  let dst := s.entryReg d e 0x0A
  let s := if bitOf dst 0 then s.toData d e ch r.2 r.1 else s
  let s := if d = 0 ∧ e ≤ 2 then s.toBattery e r.1 cycles else s
  let s := if bitOf dst 2 then s.toSupervisor d r.1 else s
  let s := if bitOf dst 3 ∧ s.entryReg d e 5 = 1 ∧ (s.adcOf d).capture = 1 then
      s.setAdc d { s.adcOf d with
        capture := 2, samples := captureSamples ch g l ++ (s.adcOf d).samples.drop l.length } else s
  let s := if bitOf dst 4 then s.toLearn r.1 else s
  if bitOf dst 5 then s.toThermal d r.1 else s

/-- A calibrated spare takes the place of the slice longest in the path (13 R315). -/
def Adc.rotate (a : Adc) : Adc :=
  match a.path with
  | x :: l => { a with path := l ++ [a.spare], spare := x, calibrated := false, deferred := false, swapDue := false }
  | [] => a

/-- A conversion has ended: an interval's deferred swap is made before the next entry starts. -/
def State.endConversion (s : State) (d : Nat) : State :=
  let a := s.adcOf d
  let a : Adc := { a with current := none }
  (s.setAdc d (if a.swapDue then a.rotate else a)).startNext d

/-- CONVERSION_COMPLETE: the inputs that were converted, kept or not, in microvolts as the converter saw them, with its
error (13 R306, log 149), and the ACLK cycles since the last result of the entry. A burst ends with its last sample. -/
def execConversionComplete (die : Nat) (samples : List Int) (cycles : Nat) (s : State) :
    Host.Outcome State Fault Refusal :=
  act (fun s =>
    let a := s.adcOf die
    match a.current with
    | none => s
    | some e =>
      if !s.adcRuns die || decide (samples.length < if e = 31 then 1 else s.burstLength die e) then s
      else if e = 31 then
        let r := resultOf a.injCh a.injGain (samples.take 1)
        (s.toData die 31 a.injCh r.2 r.1).endConversion die
      else (s.deliverEntry die e samples cycles).endConversion die) s

/-- Channel of an injected request: clamp 0–29, channels 24–26 of a peer to 27 (13 R307). -/
def injChannel (d w : Nat) : Nat :=
  let c := min 29 (w / 2 ^ 16 % 32)
  if d ≠ 0 ∧ 24 ≤ c ∧ c ≤ 26 then 27 else c

/-- A write of A.08 (13 R314): an idle converter starts at once, a busy one drops it. -/
def State.inject (s : State) (d w : Nat) : State :=
  let a := s.adcOf d
  if s.adcRuns d = true ∧ s.adcFrozen = false ∧ a.current = none then
    s.setAdc d { a with
      current := some 31, injCh := injChannel d w
      injGain := if injChannel d w = 29 then 1 else 2 ^ (w / 2 ^ 8 % 4) }
  else s.inc (ixAdc d) 9

/-- A write of A.0C arms the capture buffer (13 R312). -/
def State.armCapture (s : State) (d : Nat) : State :=
  s.setAdc d { s.adcOf d with capture := 1 }

/-- A read of A.06: the word, and the register with VALID and OVR cleared (13 R313). -/
def State.readData (s : State) (d : Nat) : Nat × State :=
  let w := s.reg (ixAdc d) 6
  (w, s.setReg (ixAdc d) 6 (w % 2 ^ 30))

/-- SLICE_CALIBRATION: the interval's calibration of the spare has ended (13 R315, R316). -/
def execSliceCalibration (die : Nat) (ok : Bool) (s : State) : Host.Outcome State Fault Refusal :=
  act (fun s =>
    let a := s.adcOf die
    if s.entryRuns die 1 = false ∨ a.stopped = true then s
    else if ok then s.setAdc die { a with calibrated := true }
    else
      let i := ixAdc die
      ((s.setAdc die { a with stopped := true, calibrated := false, deferred := false, swapDue := false }).setReg i 2
        (setBitOf (s.reg i 2) a.spare true)).report die cSlice 1 0 [die, a.spare]) s

/-- SLICE_SWAP: made in a gap between conversions; without one within 1 ms it is deferred once, and then
made between conversions whatever is pending (13 R315). -/
def execSliceSwap (die : Nat) (s : State) : Host.Outcome State Fault Refusal :=
  act (fun s =>
    let a := s.adcOf die
    if s.entryRuns die 1 = false ∨ a.stopped = true ∨ a.calibrated = false then s
    else if a.current.isSome = true ∧ a.deferred = false then
      (s.setAdc die { a with deferred := true }).inc (ixAdc die) 5
    else if a.current.isSome then s.setAdc die { a with swapDue := true }
    else s.setAdc die a.rotate) s

end Sys2Proof.Machine
end

