-- ==== Sys2Proof/Machine/Firmware.lean ====
section
/-! DEFINITION. Firmware: image slots, containers, the boot check and the choice of a slot to boot,
measurements, and the page buffers of a transfer (18). -/
namespace Sys2Proof.Machine

/-- Stored state, bytes and length of an image slot. -/
def State.slotSt (s : State) (k : Nat) : Nat := if k = 0 then s.fw.slot0 else s.fw.slot1
def State.slotMem (s : State) (k : Nat) : Memory := if k = 0 then s.fw.image0 else s.fw.image1
def State.slotLen (s : State) (k : Nat) : Nat := if k = 0 then s.fw.len0 else s.fw.len1

def State.setSlotSt (s : State) (k v : Nat) : State :=
  if k = 0 then { s with fw := { s.fw with slot0 := v } } else { s with fw := { s.fw with slot1 := v } }

def State.setSlotImage (s : State) (k : Nat) (m : Memory) (len : Nat) : State :=
  if k = 0 then { s with fw := { s.fw with image0 := m, len0 := len } }
  else { s with fw := { s.fw with image1 := m, len1 := len } }

def State.imageBytes (s : State) (k : Nat) : Bytes := (s.slotMem k).bytes 0 (s.slotLen k)

/-- A slot in a state; 3 is boot pending, 4 ACTIVE (18 0x1300.02). -/
def State.slotIn (s : State) (v : Nat) : Option Nat :=
  if s.fw.slot0 = v then some 0 else if s.fw.slot1 = v then some 1 else none

/-- Pages of 16 KiB that a block of the boot region holds in pseudo-SLC mode: one page of each
wordline of the TLC or QLC device (08 R211). -/
def State.bootPages (s : State) : Nat :=
  match s.nandOf 0 0 with
  | some nd => nd.pagesPerBlock / (max 1 nd.bits)
  | none => 0

/-- Block b of the boot region on flash channel 0 or 8, as a block number (08 R211). -/
def bootBlk (ch b : Nat) : Nat := 2 ^ 27 + ch * 2 ^ 23 + b

/-- Blocks of a slot that its copy on flash channel 0 or 8 does not skip, in order: they hold the image's
pages (18 R381, 08 R211; log 16). -/
def State.slotBlocks (s : State) (ch k : Nat) : List Nat :=
  ((List.range 32).map (32 * k + ·)).filter fun b => !((s.die 0).moraine.any fun m => decide (m.blk = bootBlk ch b))

/-- The slot's good blocks give at least 17 MiB in each copy (18 R381). -/
def State.slotFits (s : State) (k : Nat) : Bool :=
  [0, 8].all fun ch => decide (mib 17 ≤ (s.slotBlocks ch k).length * s.bootPages * flakeBytes)

/-- The copy on flash channel 0 or 8 of die 0 reads: the channel is populated and the LUN has not failed. The
two copies are identical (08 R211). -/
def State.copyReads (s : State) (ch : Nat) : Bool := (s.nandOf 0 ch).isSome && !(s.lunOf 0 (32 * ch)).failed

/-- Address of page p of a slot's copy on flash channel 0 or 8; none past its good blocks (08 R211, Table 08.2). -/
def State.bootAddr (s : State) (ch k p : Nat) : Option Nat :=
  let per := max 1 s.bootPages
  ((s.slotBlocks ch k)[p / per]?).map fun b => pageAddr (bootBlk ch b) (p % per)

/-- Page p of a slot's copy reads: it has been programmed, and it decodes, which no command brings: that is a free value
(08 R190, R200; log 179). -/
def State.bootPageReads (s : State) (ch k p : Nat) : Bool :=
  s.copyReads ch &&
    (match s.bootAddr ch k p with
     | some a => s.pageReads 0 a
     | none => false) && !Config.bootPageBad s.freeCount ch k p

/-- Every page of a slot's image reads from channel 0, or from channel 8 where that one fails (08 R211). -/
def State.imageReads (s : State) (k : Nat) : Bool :=
  (List.range ((s.slotLen k + 16383) / 16384)).all fun p => s.bootPageReads 0 k p || s.bootPageReads 8 k p

/-- The blocks of a slot have been erased, but for those of a LUN that has failed (18 Table 18.1). -/
def State.slotErased (s : State) : Bool := s.fw.bootErase.all fun b => (s.lunOf 0 (lunOfBlk b)).failed

/-- A slot's state as it reads: a slot that cannot hold an image reads FAILED (18 R381). -/
def State.slotView (s : State) (k : Nat) : Nat :=
  if s.slotSt k ≠ 4 ∧ s.shadow.glacier.isSome = true ∧ s.slotFits k = false then 5 else s.slotSt k

/-- Bytes a to a + n − 1 of a byte string. -/
def sliceOf (b : Bytes) (a n : Nat) : Bytes := (b.drop a).take n
def leAt (b : Bytes) (a n : Nat) : Nat := leNat (sliceOf b a n)

/-- ASCII "SWF2" and "SWF1" (18 R382, R383). -/
def swf2Magic : Bytes := [0x53, 0x57, 0x46, 0x32]
def swf1Magic : Bytes := [0x53, 0x57, 0x46, 0x31]

/-- What the boot ROM takes from a container's header (18 Tables 18.2, 18.3). -/
structure Header where
  swf2 : Bool
  len : Nat
  payload : Nat
  /-- SWF2: security epoch; 0 for SWF1. -/
  epoch : Nat
  imageKey : Nat
  version : Nat
  variants : Nat
  layout : Nat
  signer : Nat
  revoke : Nat
  digest : Bytes
  signed : Bytes
  sig : Bytes
  deriving DecidableEq, Repr

/-- The header of a container whose magic is known; none otherwise. -/
def parseHeader (b : Bytes) : Option Header :=
  if b.take 4 = swf2Magic then
    some { swf2 := true, len := leAt b 6 2, payload := leAt b 8 4, epoch := leAt b 12 2
           imageKey := leAt b 14 2, version := leAt b 16 4, variants := leAt b 20 2, layout := leAt b 22 2
           signer := leAt b 24 1, revoke := leAt b 25 1 % 16, digest := sliceOf b 56 48, signed := b.take 160
           sig := sliceOf b 160 96 }
  else if b.take 4 = swf1Magic then
    some { swf2 := false, len := leAt b 6 2, payload := leAt b 8 4, epoch := 0, imageKey := 0
           version := leAt b 12 4, variants := leAt b 16 2, layout := 0, signer := leAt b 18 1, revoke := 0
           digest := sliceOf b 32 48, signed := b.take 96, sig := sliceOf b 96 96 }
  else none

/-- Header length by format. -/
def Header.size (h : Header) : Nat := if h.swf2 then 256 else 192

/-- Check 1 of Table 18.4: format and lengths. -/
def Header.sound (h : Header) (b : Bytes) : Bool :=
  decide (leAt b 4 2 = 1) && decide (h.len = h.size) && decide (h.size ≤ b.length) &&
    decide (h.size + h.payload = b.length) && decide (b.length ≤ mib 16)

/-- Components of a payload: type and bytes, to the end of the payload; none where a descriptor does
not fit (18 R382). -/
def componentsOf : Nat → Bytes → Option (List (Nat × Bytes))
  | 0, b => if b.isEmpty then some [] else none
  | k + 1, b =>
    if b.isEmpty then some []
    else
      let n := leAt b 4 4
      if b.length < 8 + n then none
      else (componentsOf k (b.drop (8 + n))).map ((leAt b 0 4, sliceOf b 8 n) :: ·)

/-- A big-endian digest as bytes; the digest of bytes as bytes. -/
def digestBytes (d : BitVec 384) : Bytes := (leBytes 48 d.toNat).reverse
def shaBytes (b : Bytes) : Bytes := digestBytes (Config.sha384 b)

/-- The plain payload: decrypted for SWF2, as it is for SWF1; none when the tag fails. -/
def plainPayload (h : Header) (b : Bytes) : Option Bytes :=
  let c := b.drop h.size
  if !h.swf2 then some c
  else if 4 ≤ h.imageKey then none
  else Config.gcmOpen h.imageKey (sliceOf b 28 12) (b.take 28) (sliceOf b 40 16) c

/-- Types 1 to 3 occur exactly once (18 R382). -/
def componentsGood (l : List (Nat × Bytes)) : Bool :=
  [1, 2, 3].all fun t => decide ((l.filter fun e => decide (e.1 = t)).length = 1)

/-- Bit of the variant mask. -/
def Variant.bit : Variant → Nat
  | .sw7402 => 0
  | .sw7404 => 1
  | .sw7408 => 2

/-- The first test of a list that fails, by its reason; 0 when all pass. -/
def firstFailing : List (Bool × Nat) → Nat
  | [] => 0
  | (ok, r) :: l => if ok then firstFailing l else r

/-- 18 Table 18.4, checks 1 to 9, on a container. -/
def State.checkContainer (s : State) (b : Bytes) : Nat :=
  match parseHeader b with
  | none => 1
  | some h =>
    let plain := plainPayload h b
    firstFailing
      [ (h.sound b, 1),
        (bitOf h.variants s.build.variant.bit, 2),
        (!bitOf (s.reg 0x1300 0x0C) h.signer, 3),
        (decide (h.signer ≤ 3) && Config.ecdsaVerify h.signer (Config.sha384 h.signed) h.sig, 4),
        (h.swf2 || (decide (s.reg 0x1300 8 = 1) && decide (s.reg 0x1300 3 = 0)), 5),
        (if h.swf2 then decide (s.reg 0x1300 3 ≤ h.epoch) else decide (s.reg 0x1300 4 ≤ h.version), 6),
        (decide (shaBytes (b.drop h.size) = h.digest), 7),
        (plain.isSome, 8),
        (match plain.bind fun p => componentsOf (p.length + 1) p with
         | some l => componentsGood l
         | none => false, 9) ]

/-- 18 R394: the check of a slot, each page read from the copy on channel 0, or from the one on channel 8 where that one
fails; the image of manufacture, of which the model stores no bytes, passes (log 15). -/
def State.bootCheck (s : State) (k : Nat) : Nat :=
  if !s.copyReads 0 && !s.copyReads 8 then 1
  else if s.slotLen k = 0 then 0
  else if !s.imageReads k then 1
  else s.checkContainer (s.imageBytes k)

/-- The header of the image in a slot, where its bytes are stored. -/
def State.headerOf (s : State) (k : Nat) : Option Header := parseHeader (s.imageBytes k)

/-- Objects of the ledgers that measurement slots 7 and 8 cover (18 Table 18.6). -/
def State.ledgerRegs (s : State) (rails : Bool) : Sparse Nat :=
  s.regs.filter fun e =>
    let idx := e.1 / 256
    let rail := decide (0x7140 ≤ idx) && decide (idx < 0x7200)
    decide (objKeep s.n e.1 = .ledger) && (decide (rail = rails))

/-- Digest of a component type of a slot's image; of no bytes where the image has none. -/
def State.componentDigest (s : State) (k t : Nat) : BitVec 384 :=
  let b := s.imageBytes k
  let l := ((s.headerOf k).bind fun h => (plainPayload h b).bind fun p => componentsOf (p.length + 1) p).getD []
  Config.sha384 (((l.find? fun e => decide (e.1 = t)).map (·.2)).getD [])

/-- Measurement slot m of a boot from slot k (18 Table 18.6). -/
def State.measureOf (s : State) (k m : Nat) : BitVec 384 :=
  if m = 0 then Config.romDigest
  else if m ≤ 5 then
    if s.slotLen k = 0 then Config.factoryDigest m
    else if m = 1 then Config.sha384 ((s.imageBytes k).take (((s.headerOf k).map (·.size)).getD 0))
    else s.componentDigest k (m - 1)
  else if m = 6 then
    Config.sha384 (Config.ledgerBytes 6 [s.build.variant.bit, s.build.serial, s.reg 0x1300 0x0C] [] [])
  else if m = 7 then Config.sha384 (Config.ledgerBytes 7 [] (s.ledgerRegs true) [])
  else if m = 8 then Config.sha384 (Config.ledgerBytes 8 [] (s.ledgerRegs false) s.doms)
  else if m = 9 then
    Config.sha384 (Config.ledgerBytes 9 [s.reg 0x1300 3, s.reg 0x1300 4, s.reg 0x1300 8] [] [])
  else 0

/-- 18 R398: the boot ROM measures into slots 0 to 9 before it releases the management processor. -/
def State.measureBoot (s : State) (k : Nat) : State :=
  { s with fw := { s.fw with
      digests := (List.range 10).foldl (fun t m => put 0 t m (s.measureOf k m)) s.fw.digests } }

/-- An activation's outcome, reported with its group (18 R391, R396). -/
def State.activationEnds (s : State) (outcome sev : Nat) : State :=
  (s.setReg 0x1302 3 outcome).report 0 cActivation sev 0 [s.reg 0x1302 2, outcome]

/-- A slot fails its boot check (18 R396): reason kept, record written, FAILED. -/
def State.bootFails (s : State) (k reason : Nat) : State :=
  let pend := decide (s.slotSt k = 3)
  let s := ((s.setReg 0x1300 9 reason).setSlotSt k 5).report 0 cBootFail 2 0 [k, reason]
  if pend then s.activationEnds 2 2 else s

/-- The management processors are held in reset until the next package reset (14 R335, 18 R397). -/
def State.holdManagement (s : State) : State :=
  { s with
    mgmt := { s.mgmt with ready := false, restarting := none, heldInReset := true }
    fw := { s.fw with booted := none, trying := none } }.setReg 0x7300 7 1 |>.report 0 cHeldInReset 2 0 []

/-- The image of a slot is measured and loaded. -/
def State.loadSlot (s : State) (k : Nat) : State :=
  let s := s.measureBoot k
  { s with fw := { s.fw with booted := none, trying := some k } }

/-- The slot tried after a first choice that failed: the ACTIVE one, or a STAGED one that passes
(18 R396, R397). -/
def State.secondChoice (s : State) (k : Nat) : State :=
  let o := 1 - k
  if s.slotSt o = 4 ∨ s.slotSt o = 2 then
    if s.bootCheck o = 0 then s.loadSlot o
    else (if s.slotSt o = 4 then s.bootFails o (s.bootCheck o) else s).holdManagement
  else s.holdManagement

/-- The boot ROM chooses and checks the slot to boot: the boot-pending one, else the ACTIVE one
(18 R394–R397). -/
def State.bootRom (s : State) : State :=
  let t := match (s.slotIn 3).or (s.slotIn 4) with
    | none => s.holdManagement
    | some k =>
      let r := s.bootCheck k
      if r = 0 then (s.setReg 0x1300 9 0).loadSlot k else (s.bootFails k r).secondChoice k
  { t with freeCount := t.freeCount + 1 }

/-- The slot that runs becomes ACTIVE; the former ACTIVE one becomes STAGED (18 Table 18.1). -/
def State.promoteSlot (s : State) (k : Nat) : State :=
  if s.slotSt k = 4 then s
  else
    let pend := decide (s.slotSt k = 3)
    let s := if s.slotSt (1 - k) = 4 then s.setSlotSt (1 - k) 2 else s
    let s := s.setSlotSt k 4
    if pend then s.activationEnds 1 0 else s

/-- 18 R395: floors and revoked keys rise when an image reaches step 6. -/
def State.raiseFloors (s : State) (k : Nat) : State :=
  match s.headerOf k with
  | none => (s.setReg 0x1300 0x0A 0).setReg 0x1300 0x0B 0
  | some h =>
    let s := (s.setReg 0x1300 0x0A h.version).setReg 0x1300 0x0B h.epoch
    if h.swf2 then
      (s.setReg 0x1300 3 (max (s.reg 0x1300 3) h.epoch)).setReg 0x1300 0x0C (s.reg 0x1300 0x0C ||| h.revoke)
    else s.setReg 0x1300 4 (max (s.reg 0x1300 4) h.version)

/-- The booted image reaches step 6 of 14 Table 14.4. -/
def State.imageReady (s : State) : State :=
  match s.fw.trying with
  | none => s
  | some k =>
    let s := (s.promoteSlot k).raiseFloors k
    { s with fw := { s.fw with booted := some k, trying := none } }

/-- A restart that does not reach step 6 fails a boot-pending image at reason 10 (18 R396). -/
def State.imageTimesOut (s : State) : State :=
  match s.fw.trying with
  | some k => if s.slotSt k = 3 then s.bootFails k 10 else s
  | none => s

/-- The transfer that is RECEIVING. -/
def State.receiving (s : State) : Option Transfer :=
  match s.fw.transfer with
  | some t => if s.slotSt t.slot = 1 then some t else none
  | none => none

/-- The slot a transfer fills: the one that is not ACTIVE (18 R384). -/
def State.targetSlot (s : State) : Nat := if s.fw.slot0 = 4 then 1 else 0

/-- Opening a transfer is not allowed now (18 R384). -/
def State.openBarred (s : State) (len : Nat) : Bool :=
  s.receiving.isSome || decide (s.reg 0x1302 1 ≠ 0) || decide (s.slotSt s.targetSlot = 3) ||
    decide (len = 0) || decide (mib 16 < len) || !s.slotFits s.targetSlot

/-- A transfer is opened: the blocks of both copies of the slot are to be erased, each under its erase intent by
ERASE_START and ERASE_STATUS, and the bitmap is cleared (18 Table 18.1, 08 R201). -/
def State.openTransfer (s : State) (byDesc onBus : Bool) (len id : Nat) (hash : Bytes) : State :=
  let k := s.targetSlot
  let s := (s.setSlotImage k [] len).setSlotSt k 1
  let t : Transfer :=
    { byDesc := byDesc, onBus := onBus, slot := k, len := len, id := id, hash := hash, chunks := []
      bufs := [], nextPage := 0, programming := false, ended := byDesc }
  let blks := [0, 8].flatMap fun ch => (s.slotBlocks ch k).map (bootBlk ch)
  { s with fw := { s.fw with transfer := some t, bootErase := blks } }

/-- Bytes of a chunk, of a page. -/
def chunkBytes : Nat := 48
def pageBytes : Nat := 16384

/-- A byte of the image has arrived: it lies in a programmed page or in its page's buffer. -/
def Transfer.has (t : Transfer) (a : Nat) : Bool :=
  decide (a / pageBytes < t.nextPage) ||
    t.bufs.any fun b => decide (b.page = a / pageBytes) && (look? b.arrived (a % pageBytes)).isSome

/-- A page may hold a buffer: it has one, or it is the lowest page not programmed or the page after
it, or fewer than two higher pages hold one (18 R385). -/
def Transfer.mayBuffer (t : Transfer) (p : Nat) : Bool :=
  decide (p < t.nextPage) || (t.bufs.any fun b => decide (b.page = p)) || decide (p ≤ t.nextPage + 1) ||
    decide ((t.bufs.filter fun b => decide (t.nextPage + 1 < b.page)).length < 2)

/-- Pages that a piece of n bytes at an offset touches. -/
def pagesOf (off n : Nat) : List Nat :=
  if n = 0 then [] else (List.range ((off + n - 1) / pageBytes + 1 - off / pageBytes)).map (off / pageBytes + ·)

/-- Every page of a piece can have its buffer. -/
def Transfer.fits (t : Transfer) (off n : Nat) : Bool :=
  let l := (pagesOf off n).filter fun p => !(t.bufs.any fun b => decide (b.page = p)) && decide (t.nextPage ≤ p)
  let high := (l.filter fun p => decide (t.nextPage + 1 < p)).length
  decide (high = 0) ||
    decide ((t.bufs.filter fun b => decide (t.nextPage + 1 < b.page)).length + high ≤ 2)

/-- Put one byte in the buffer of its page; a byte of a programmed page has arrived already. -/
def Transfer.putByte (t : Transfer) (a : Nat) (v : Byte) : Transfer :=
  let p := a / pageBytes
  if p < t.nextPage then t
  else if t.bufs.any fun b => decide (b.page = p) then
    { t with bufs := t.bufs.map fun (b : PageBuf) =>
        if b.page = p then { b with arrived := insertK b.arrived (a % pageBytes) v } else b }
  else { t with bufs := t.bufs ++ [{ page := p, arrived := [(a % pageBytes, v)] }] }

def Transfer.putBytes (t : Transfer) (a : Nat) : Bytes → Transfer
  | [] => t
  | v :: l => Transfer.putBytes (t.putByte a v) (a + 1) l

/-- A list of numbers with one more, rising. -/
def insertNat (x : Nat) : List Nat → List Nat
  | [] => [x]
  | y :: l => if x < y then x :: y :: l else if x = y then y :: l else y :: insertNat x l

/-- Every byte of a chunk has arrived. -/
def Transfer.chunkIn (t : Transfer) (k : Nat) : Bool :=
  decide (chunkBytes * k < t.len) &&
    (List.range (min chunkBytes (t.len - chunkBytes * k))).all fun i => t.has (chunkBytes * k + i)

/-- Set the bits of the chunks that a piece has completed. -/
def Transfer.markChunks (t : Transfer) (off n : Nat) : Transfer :=
  if n = 0 then t
  else
    let ks := (List.range ((off + n - 1) / chunkBytes + 1 - off / chunkBytes)).map (off / chunkBytes + ·)
    { t with chunks := (ks.filter t.chunkIn).foldl (fun l k => insertNat k l) t.chunks }

/-- Chunks of the image. -/
def Transfer.count (t : Transfer) : Nat := (t.len + chunkBytes - 1) / chunkBytes

/-- Length of a page of the image. -/
def Transfer.pageLen (t : Transfer) (p : Nat) : Nat := min pageBytes (t.len - pageBytes * p)

/-- The lowest page not programmed is full (18 R385). -/
def Transfer.pageFull (t : Transfer) : Bool :=
  decide (0 < t.pageLen t.nextPage) && (t.ended || decide (t.pageLen t.nextPage = pageBytes)) &&
    t.bufs.any fun b => decide (b.page = t.nextPage) && decide (b.arrived.length = t.pageLen t.nextPage)

/-- A full lowest page is programmed to both copies of the slot. -/
def Transfer.startProgram (t : Transfer) : Transfer := { t with programming := t.programming || t.pageFull }

/-- Every page of the image is programmed. -/
def Transfer.complete (t : Transfer) : Bool := t.ended && decide (t.len ≤ pageBytes * t.nextPage)

/-- 18 R388: the completion check of a stored container. -/
def State.containerWhole (s : State) (t : Transfer) : Bool :=
  let b := s.imageBytes t.slot
  match parseHeader b with
  | none => false
  | some h =>
    decide (h.len = h.size) && decide (h.size + h.payload = b.length) &&
      (!t.byDesc || decide (shaBytes b = t.hash))

/-- A transfer that fails makes its slot FAILED, with a Failure record (18 Table 18.1). -/
def State.failTransfer (s : State) (t : Transfer) : State :=
  (s.setSlotSt t.slot 5).report 0 cTransferFail 2 0 [t.slot, t.id]

/-- Store a transfer's progress and, once every page is programmed, check the container. -/
def State.keepTransfer (s : State) (t : Transfer) : State :=
  let t := t.startProgram
  let s : State := { s with fw := { s.fw with transfer := some t } }
  if t.complete then
    let s := s.setSlotImage t.slot (s.slotMem t.slot) t.len
    if s.containerWhole t then s.setSlotSt t.slot 2 else s.failTransfer t
  else s

/-- Place a piece whose buffers can be given. -/
def State.placePiece (s : State) (t : Transfer) (off : Nat) (data : Bytes) : State :=
  s.keepTransfer ((t.putBytes off data).markChunks off data.length)

/-- One chunk arrives: dropped and counted when a buffer cannot be given (18 R385). -/
def State.placeChunk (s : State) (k : Nat) (data : Bytes) : State :=
  match s.receiving with
  | none => s
  | some t =>
    let d := data.take (min chunkBytes (t.len - chunkBytes * k))
    if t.fits (chunkBytes * k) d.length then s.placePiece t (chunkBytes * k) d else s.inc 0x1301 6

/-- The chunks of a piece, one after the other (18 R390). -/
def State.placeChunks (s : State) (k : Nat) : Nat → Bytes → State
  | 0, _ => s
  | n + 1, b =>
    if b.isEmpty then s else (s.placeChunk k (b.take chunkBytes)).placeChunks (k + 1) n (b.drop chunkBytes)

/-- A page of an image is programmed to the copy on one channel, with its header (08 R190, R211). -/
def State.programBoot (s : State) (ch k p : Nat) : State :=
  match s.bootAddr ch k p with
  | none => s
  | some a =>
    let x := s.die 0
    let g : Page := { typ := 6, format := 1, ten := 0xFFFF, mapNum := u32max, flake := u64max, epoch := s.shadow.epoch
                      progSeq := x.progSeq, body := .boot k p, tweak := a, unreadable := false }
    s.setDie 0 { x with pages := insertK x.pages a g, progSeq := x.progSeq + 1 }

/-- A programmed page reads back right in both copies: its bytes stand in the slot (18 R385). -/
def State.pageGood (s : State) (t : Transfer) : State :=
  let s := (s.programBoot 0 t.slot t.nextPage).programBoot 8 t.slot t.nextPage
  let b := (t.bufs.find? fun b => decide (b.page = t.nextPage)).map (·.arrived)
  let m := (b.getD []).foldl (fun (m : Memory) e => m.setByte (pageBytes * t.nextPage + e.1) e.2)
    (s.slotMem t.slot)
  let s := s.setSlotImage t.slot m (s.slotLen t.slot)
  s.keepTransfer { t with
    bufs := t.bufs.filter fun b => !decide (b.page = t.nextPage), nextPage := t.nextPage + 1, programming := false }

/-- A page fails its read-back in a copy: its block there is retired, and every chunk from the block's
first page on must come again; the block that holds those pages in the other copy is erased for them (18 R385, 08 R211;
log 16). -/
def State.pageBad (s : State) (t : Transfer) (chs : List Nat) : State :=
  let per := max 1 s.bootPages
  let i := t.nextPage / per
  let p0 := i * per
  let s := [0, 8].foldl (fun (u : State) ch =>
    match (u.slotBlocks ch t.slot)[i]? with
    | some b =>
      if chs.elem ch then (u.setDie 0 ((u.die 0).dropPages (bootBlk ch b))).addMoraine 0 (bootBlk ch b) 2
      else { u with fw := { u.fw with bootErase := u.fw.bootErase ++ [bootBlk ch b] } }
    | none => u) s
  let m := (s.slotMem t.slot).filter fun e => decide (e.1 < pageBytes * p0)
  let s := s.setSlotImage t.slot m (s.slotLen t.slot)
  let t : Transfer := { t with
    bufs := [], nextPage := p0, programming := false
    chunks := t.chunks.filter fun k => decide (chunkBytes * (k + 1) ≤ pageBytes * p0) }
  if s.slotFits t.slot then s.keepTransfer t
  else { s with fw := { s.fw with transfer := some t } }.failTransfer t

/-- PAGE_READ_BACK: the page that was programmed to both copies is read back on channel 0 and on channel 8. Nothing is
programmed before the blocks have been erased, and a slot that erases have left too small has FAILED (18 R381). -/
def execPageReadBack (failed : List Nat) (s : State) : Host.Outcome State Fault Refusal :=
  act (fun s =>
    match s.receiving with
    | some t =>
      if !t.programming || !s.slotErased then s
      else if !s.slotFits t.slot then s.failTransfer t
      else if failed.isEmpty then s.pageGood t
      else s.pageBad t failed
    | none => s) s

/-- A write of 0x1301.01 (18 R384): the status and effect. -/
def State.writeDescriptor (s : State) (onBus : Bool) (data : Bytes) : Nat × State :=
  if data.length ≠ 64 then (0x0401, s)
  else if s.openBarred (leAt data 0 4) then (0x0302, s)
  else (0x0000, s.openTransfer true onBus (leAt data 0 4) (leAt data 4 4) (sliceOf data 8 48))

/-- A write of 0x1301.07 (18 R384): an abort makes the slot FAILED. -/
def State.abortTransfer (s : State) : State :=
  match s.receiving with
  | some t => s.failTransfer t
  | none => s

/-- A piece written to 0x1301.08 (18 R390): the status and effect. -/
def State.writeImage (s : State) (off : Nat) (data : Bytes) : Nat × State :=
  match s.receiving with
  | none => (0x0302, s)
  | some t =>
    if !t.byDesc then (0x0302, s)
    else if off % chunkBytes ≠ 0 ∨ t.len < off + data.length ∨
        (data.length % chunkBytes ≠ 0 ∧ off + data.length ≠ t.len) then (0x0401, s)
    else (0x0000, s.placeChunks (off / chunkBytes) (data.length / chunkBytes + 1) data)

/-- A write of 0x1302.01 (18 R391): the status and effect. -/
def State.armActivation (s : State) (t : Nat) : Nat × State :=
  if t = 0 then (0x0000, s.setReg 0x1302 1 0)
  else if s.slotIn 2 = none ∨ s.timeValid = false ∨ t < s.aon.deviceTime + 1000000 then (0x0302, s)
  else (0x0000, s.setReg 0x1302 1 t)

/-- The STAGED slot is marked to boot next (18 Table 18.1). -/
def State.firePending (s : State) : State :=
  match s.slotIn 2 with
  | some k => (s.setSlotSt k 3).setReg 0x1302 5 s.aon.deviceTime
  | none => s

/-- 18 R400, Table 18.8: the signed report as it is built now. -/
def State.buildReport (s : State) : Bytes :=
  let b : Bytes := [0x53, 0x57, 0x4D, 0x52] ++ leBytes 2 1 ++ leBytes 2 16 ++ leBytes 8 s.build.serial ++
    leBytes 8 s.fw.reports ++ leBytes 6 s.aon.deviceTime ++ leBytes 1 s.timeValid.toNat ++ leBytes 1 0 ++
    (s.dom 0x1300 6 ++ List.replicate 32 0).take 32 ++
    (List.range 16).flatMap fun m => digestBytes (look 0 s.fw.digests m)
  b ++ (Config.attest (Config.sha384 b) ++ List.replicate 96 0).take 96

/-- A read of the signed report at offset 0 builds a new one and clears the nonce (18 R400). -/
def State.newReport (s : State) : State :=
  let s : State := { s with fw := { s.fw with reports := s.fw.reports + 1 } }
  { s with fw := { s.fw with report := s.buildReport } }.setDom 0x1300 6 []

end Sys2Proof.Machine
end

