-- ==== Sys2Proof/Machine/Reset.lean ====
section
/-! DEFINITION. Resets and the numbered states: what the ledgers keep, the package reset, the work that
begins in each sequencer state, and the loss and return of the AON supply (12 R284–R291, 14 R328,
R329). -/
namespace Sys2Proof.Machine

/-- A rank as the ledger keeps it: the states that the redirection entries hold stand (10 R243). -/
def Rank.kept (k : Rank) : Rank := { noRank with st := if 4 ≤ k.st then k.st else 0 }

/-- State of a rank once every copy in progress counts as done, since every line is rewritten at the thaw
(10 Table 10.3). -/
def State.doneSt (s : State) (r : Nat) : Nat :=
  if s.sparing.redirect.any fun e => !e.2.complete && decide (e.2.source = r) then 8
  else if s.sparing.redirect.any fun e => !e.2.complete && decide (e.2.carrier = r) then 5
  else (s.rank r).st

/-- A redirection entry after a reset: complete. -/
def Redirect.done (d : Redirect) : Redirect :=
  { d with complete := true, rebuild := false, queued := false, early := [] }

/-- What flash and ledger keep of a die's shadow engine (08, 07 R163, 09 Table 09.4). -/
def DieShadow.kept (x : DieShadow) : DieShadow :=
  { noDieShadow with
    luns := (x.luns.filter fun e => e.2.failed).map fun (e : Nat × Lun) => (e.1, { noLun with failed := true })
    blocks := x.blocks, staleEpoch := x.staleEpoch, pages := x.pages, moraine := x.moraine, intents := x.intents, progSeq := x.progSeq
    sealA := x.sealA, sealB := x.sealB, freezeSeal := x.freezeSeal, openSince := x.openSince
    nextUnit := x.nextUnit }

/-- The copies in progress count as done: their entries are complete, and the ranks change state (10 Table 10.3). -/
def State.copiesDone (s : State) : State :=
  let t := s.rankList.foldl (fun t r => if s.doneSt r = (s.rank r).st then t else t.setRankSt r (s.doneSt r)) s
  { t with sparing := { t.sparing with
      redirect := s.sparing.redirect.map fun (e : Nat × Redirect) => (e.1, e.2.done) } }

/-- Objects that stay across a reset: those kept in a ledger, and the reason that the redirection entry
of a retired or lost rank holds (10 R243). -/
def State.keptReg (s : State) (key : Nat) : Bool :=
  decide (objKeep s.n key = .ledger) ||
    (decide (0x6920 ≤ key / 256) && decide (key / 256 < 0x69A0) && decide (key % 256 = 6) &&
      decide (5 ≤ s.doneSt (key / 256 - 0x6920)))

/-- A die's ring and its registers without the cursors (19 R406). -/
def Recorder.kept (r : Recorder) : Recorder := { r with cursors := [], gaps := [] }

/-- A die's ring after a loss of the AON supply: the staging queue is gone, the meter full. -/
def Recorder.keptOff (r : Recorder) : Recorder :=
  { r.kept with queue := [], lost := 0, lostAhead := 0, lostFirst := 0, lostLast := 0, tokens := 64000000000 }

/-- Everything outside the ledgers, the flash and the pins at its value after reset (14 Table 14.3). The rules that run
from one full anchor to another, and until persistence is armed again, run on over it (11 R268, R269, R277; DEDUCED,
log 178). -/
def State.ledgerOnly (s : State) : State :=
  let s := s.dropOps
  { State.reset with
    build := s.build
    aon := { State.reset.aon with
      now := s.aon.now, savedTime := s.aon.savedTime, pwrfailLow := s.aon.pwrfailLow
      senseLow := s.aon.senseLow }
    seq := { State.reset.seq with lostDies := s.seq.lostDies }
    hosts := { State.reset.hosts with
      perstLow := s.hosts.perstLow, shutdown := s.hosts.shutdown, lsa := s.hosts.lsa
      dirtyShutdowns := s.hosts.dirtyShutdowns, nextReq := s.hosts.nextReq }
    ten := { State.reset.ten with table := s.ten.table, keys := s.ten.keys }
    dram := { State.reset.dram with
      population := s.dram.population
      ranks := (s.dram.ranks.map fun (e : Nat × Rank) => (e.1, e.2.kept)).filter fun e =>
        !decide (e.2 = noRank) }
    shadow := { State.reset.shadow with
      counter := s.shadow.counter, epoch := s.shadow.counter.getD 0
      pagesProgrammed := s.shadow.pagesProgrammed, glacier := s.shadow.glacier
      forceThrough := s.shadow.forceThrough
      dies := (s.shadow.dies.map fun (e : Nat × DieShadow) => (e.1, e.2.kept)).filter fun e =>
        !decide (e.2 = noDieShadow) }
    freeze := { State.reset.freeze with counted := s.freeze.counted }
    sparing := { redirect := s.sparing.redirect, heals := [] }
    bat := { State.reset.bat with
      present := s.bat.present, recA := s.bat.recA, recB := s.bat.recB, nextB := s.bat.nextB
      anchorReady := s.bat.anchorReady, warned := s.bat.warned }
    bus := { State.reset.bus with rackKey := s.bus.rackKey }
    fw := { s.fw with booted := none, trying := none, report := [], digests := [] }
    recs := (s.recs.map fun (e : Nat × Recorder) => (e.1, e.2.keptOff)).filter fun e =>
      !decide (e.2 = noRecorder)
    regs := keepK s.keptReg s.regs
    doms := keepK (fun k => decide (objKeep s.n k = .ledger)) s.doms
    freeCount := s.freeCount, pending := s.pending, out := s.out }

/-- What a package reset keeps beside the ledgers: the AON domain with its objects, the recorders'
queues, the count of SEQSYNC rises, and the latched pads (12 R300, R304; 14 Table 14.3). Copies in progress end with it
(10 Table 10.3). -/
def State.packageCleared (s : State) : State :=
  let t := s.ledgerOnly
  ({ t with
    aon := { s.aon with holdRunning := false, wakeStored := [] }
    seq := { t.seq with st := 1, pads := s.seq.pads }
    bat := { t.bat with timeLost := s.bat.timeLost }
    recs := (s.recs.map fun (e : Nat × Recorder) => (e.1, e.2.kept)).filter fun e =>
      !decide (e.2 = noRecorder)
    regs := keepK (fun k => s.keptReg k || decide (objKeep s.n k = .aon) || decide (k = okey 0x7100 4) ||
      decide (k = okey 0x7300 6)) s.regs } : State).copiesDone

/-- The rails of every die at the start: off, or unused (12 R291). -/
def State.railsOff (s : State) : State :=
  s.dieList.foldl (fun (t : State) d => railList.foldl (fun (u : State) i =>
    u.setReg (ixRail d i) 9 (if u.railUsed d i then 1 else 0)) t) s

/-- The rail configuration that state 1 takes into force (12 R304). -/
def State.takeRails (s : State) : State :=
  { s with seq := { s.seq with
      cfg := s.regs.filter fun e =>
        decide (0x7140 ≤ e.1 / 256) && decide (e.1 / 256 < 0x7200) && decide (1 ≤ e.1 % 256) &&
          decide (e.1 % 256 ≤ 8) } }

/-- Longest time in ms of a chain of rails of one state that ends in rail i: each rail takes
(R.04 + 1) x R.03 + R.04 x 100 (12 R286). -/
def State.chainTime (s : State) (d st : Nat) : Nat → Nat → Nat
  | 0, _ => 0
  | k + 1, i =>
    let own := (s.railCfg d i 4 + 1) * s.railCfg d i 3 + s.railCfg d i 4 * 100
    let ps := railList.filter fun j => bitOf (s.railCfg d i 2) j && decide (s.railCfg d j 1 = st)
    own + (ps.map fun j => s.chainTime d st k j).foldl max 0

/-- 12 R286: the limit of a state in ms, over every die; 50 us for each rail are rounded up. -/
def State.stateLimit (s : State) (st : Nat) : Nat :=
  (s.dieList.map fun d =>
    let l := railList.filter fun i => decide (s.railCfg d i 1 = st)
    (l.map fun i => s.chainTime d st 24 i).foldl max 0 + (50 * l.length + 999) / 1000 + 100).foldl max 1000

/-- The largest limit of states 2 to 8. -/
def State.largestLimit (s : State) : Nat := ([2, 3, 4, 5, 6, 7, 8].map s.stateLimit).foldl max 0

/-- 12 R303: cause and time of a wake, and the end of a Dormant period: a package whose latch is clear wakes by
its input power. -/
def State.noteWake (s : State) (hold : Bool) (stored : List Nat) : State :=
  let cause := if hold then (if s.reg 0x7101 2 = 1 then stored.headD 1 else 1) else 0
  let s := (s.setReg 0x7101 4 cause).setReg 0x7101 5 s.aon.deviceTime
  if hold then s.setReg 0x7101 2 0 else s

/-- Sequencer state 1: the package reset (14 R328). After AON power-on every ring has been scanned
(19 R406). -/
def State.enter1 (s : State) : State :=
  let hold := decide (s.seq.st = 14)
  let stored := s.aon.wakeStored
  let s := s.packageCleared.takeRails.railsOff
  let s := s.setReg 0x7100 5 s.largestLimit
  let s : State := { s with
    dram := { s.dram with
      interleave := s.reg 0x2800 1, granule := s.reg 0x2800 2
      fallback := s.chanList.filter fun g => decide (s.reg (ixTrain g) 2 = 1)
      limits := s.chanList.foldl (fun m g => put topRate m g (s.reg (ixChan g) 1)) [] }
    bus := { s.bus with nom := s.reg 0x1101 1, dat := s.reg 0x1101 2 } }
  let s := s.dieList.foldl (fun (t : State) d => t.setReg (0x7310 + d) 7 (if hold then 1 else 0)) s
  let s := s.noteWake hold stored
  if hold then s else s.dieList.foldl (fun (t : State) d => t.ringRebuilt d) s

/-- The node number is valid (15 R348). -/
def State.nodeValid (s : State) : Bool := decide (1 ≤ s.build.node) && decide (s.build.node ≤ 126)

/-- State 3: the management processor starts its boot ROM; the field bus comes up, monitoring only where
the node strap is invalid (15 R348). -/
def State.enter3 (s : State) : State :=
  let s : State := { s with
    mgmt := { s.mgmt with restarting := some 0, since := s.aon.now }
    bus := { s.bus with st := if s.nodeValid then 1 else 0 } }
  let s := if s.nodeValid then s else s.report 0 cNodeStrap 1 0 [s.build.node]
  s.bootRom

/-- State 9: every quadrant that has power and a clock trains at the least rate of its channels (04 R83, 05 R119,
14 R326). -/
def State.enter9 (s : State) : State :=
  let s := s.workingDies.foldl (fun (t : State) d => (List.range 4).foldl (fun (u : State) q =>
    if u.domainOn d (13 + q) && !(u.clk d).failed.elem (6 + q) then
      u.setQuad d q { noQuad with st := 0, rate := u.startRate d q }
    else u.quadUnfed d q) t) s
  s.workingDies.foldl (fun t d => t.finishTraining d) s

/-- States 2 to 8: every die works until its rails of the state are settled (12 R291). -/
def State.enterRails (s : State) : State :=
  let s := if s.seq.st = 3 then s.enter3 else s
  let s := if s.seq.st = 8 then (List.range (2 * s.n)).foldl (fun (t : State) g => t.resetPort g) s else s
  s.workingDies.foldl (fun t d => t.finishState d) s

/-- State 14: only the AON domain, the supervisor and the ledger have power (12 Table 12.3). The hold
time runs where input power is present, and a freeze that has sealed has taken until now (09 Table 09.8). -/
def State.enter14 (s : State) : State :=
  let s := if s.freeze.sealedBy.isEmpty then s
    else s.setReg 0x6800 0x0D (time48 (s.aon.deviceTime - s.freeze.detect))
  { s with
    seq := { s.seq with holds := s.workingDies }
    adc := [], bus := { s.bus with st := 0 }
    aon := { s.aon with wakeStored := [], holdRunning := !s.aon.pwrfailLow && !s.aon.senseLow } }

/-- The supervisors advance into a state and its work begins (12 R284, Table 12.1). -/
def State.enterState (s : State) (st : Nat) : State :=
  if st = 1 then s.enter1
  else
    let s : State := { s with seq := { s.seq with st := st, holds := s.workingDies } }
    if st ≤ 8 then s.enterRails
    else if st = 9 then s.enter9
    else if st = 10 then s.enter10
    else if st = 11 then s.enter11
    else if st = 12 then
      { s with seq := { s.seq with holds := [] } }.setReg 0x6800 0x0E
        (time48 ((s.aon.now - s.freeze.started) / 1000))
    else s.enter14

/-- The state that a counted rise leads to (12 R284); none in states 12 and 15. -/
def State.riseTo (s : State) : Option Nat :=
  if s.seq.st ≤ 11 then some (s.seq.st + 1)
  else if s.seq.st = 13 then (if s.freeze.active then none else some 14)
  else if s.seq.st = 14 then some 1
  else none

/-- SEQSYNC_RISE: the line has stayed high for 200 ns, so no die holds it. -/
def execSeqsyncRise (s : State) : Host.Outcome State Fault Refusal :=
  act (fun s =>
    match s.riseTo with
    | none => s
    | some st =>
      if s.seq.holds ≠ [] then s
      else (s.inc 0x7100 4).allPads fun (t : State) => t.enterState st) s

/-- The slot of the learned record that was being written is invalid (11 R279). -/
def Battery.tear (b : Battery) : Battery := if b.nextB then { b with recB := none } else { b with recA := none }

/-- AON_POWER_LOSS: everything outside the ledgers and the flash is lost; whether it cuts short the write of a
learned record is open (log 131); the package is Off (12 Table 12.3, R287). -/
def execAonPowerLoss (s : State) : Host.Outcome State Fault Refusal :=
  act (fun s =>
    let s : State := if s.bat.counting && Config.cutsRecord s.freeCount then { s with bat := s.bat.tear } else s
    let t := s.ledgerOnly
    { t with aon := { t.aon with on := false, deviceTime := 0 }, freeCount := t.freeCount + 1 }) s

/-- The AON supply is applied: state 0, device time from the ledger plus 1 s, invalid (14 R323). -/
def State.powerOn (s : State) : State :=
  let t := s.ledgerOnly
  { t with
    out := []
    aon := { t.aon with on := true, deviceTime := time48 (t.aon.savedTime + 1000000) } }

/-- AON_POWER_ON: the one command that reaches a package without its AON supply. -/
def execAonPowerOn (s : State) : Host.Outcome State Fault Refusal :=
  .next (if s.aon.on then settle s.fresh else settle s.powerOn)

end Sys2Proof.Machine
end

