-- ==== Sys2Proof/Machine/Clocks.lean ====
section
/-! DEFINITION. Clock faults, device time in the ledger, and the management restart (14 R323–R335). -/
namespace Sys2Proof.Machine

/-- Clock domains with a PLL of their own: 1 the core PLL, 2–5 the ports, 6–9 the quadrants, 10 the flash,
12–14 the links (14 Table 14.1). -/
def isPll (k : Nat) : Bool :=
  (decide (1 ≤ k) && decide (k ≤ 10)) || (decide (12 ≤ k) && decide (k ≤ 14))

/-- Power domains of a clock domain (14 Table 14.1). -/
def powerOf (k : Nat) : List Nat :=
  if k = 1 then [21, 22, 23, 24, 25] else if k = 2 then [10] else if k = 3 then [12] else if k = 4 then [9]
  else if k = 5 then [11] else if k ≤ 9 then [7 + k] else if k = 10 then [17, 18, 19, 20]
  else if k = 11 then [26] else if k ≤ 14 then [15 + k] else if k = 15 then [5] else if k = 16 ∨ k = 17 then [1]
  else if k = 18 then [8] else if k = 19 ∨ k = 20 then [7] else if k = 21 then [30] else if k = 22 then [4]
  else if k = 23 then [3] else if k = 24 then [2] else [6]

/-- Clock domains that run on die 0 alone: CANCLK and the two-wire port (14 Table 14.1). -/
def leadClock (k : Nat) : Bool := decide (k = 19) || decide (k = 20)

/-- Clock domains that the core PLL feeds beside its own (14 Table 14.1). -/
def coreDerived (k : Nat) : Bool := [11, 15, 18, 19, 22, 25].elem k

/-- The core PLL of a die has locked in state 3 and runs (13 R308, 14 R326). -/
def State.coreClocked (s : State) (d : Nat) : Bool :=
  s.seq.locked.elem d && ((powerOf 1).any fun p => s.domainOn d p) && !(s.clk d).unlocked.elem 1 &&
    !(s.clk d).failed.elem 1

/-- A clock domain has power, its PLL is in lock, and no power state stops it (14 R320, R326;
04 Table 04.5). -/
def State.clockRuns (s : State) (d k : Nat) : Bool :=
  ((powerOf k).any fun p => s.domainOn d p) && (!leadClock k || decide (d = 0)) &&
    !(s.clk d).unlocked.elem k && !(s.clk d).failed.elem k &&
    (!(coreDerived k || decide (k = 1)) || s.coreClocked d) &&
    (!(decide (6 ≤ k) && decide (k ≤ 9)) || decide ((s.quad d (k - 6)).st ≤ 1)) &&
    (!(decide (k = 16)) || decide (s.seq.st ≠ 14))

/-- PLL_LOSS_OF_LOCK: the domain stops and its work waits (14 R326). -/
def execPllLossOfLock (die dom : Nat) (s : State) : Host.Outcome State Fault Refusal :=
  act (fun s =>
    let c := s.clk die
    if die < s.n ∧ isPll dom = true ∧ s.clockRuns die dom = true then
      (s.setClk die { c with unlocked := addOnce dom c.unlocked }).inc (0x7310 + die) 4
    else s) s

/-- What a PLL that fails to relock loses (14 R326). -/
def State.pllFails (s : State) (d k : Nat) : State :=
  if k = 1 then s.coreLost d
  else if k ≤ 5 then s.dropPort (2 * d + k % 2)
  else if k ≤ 9 then s.quadLost d (k - 6)
  else if k = 10 then (s.allLuns d).foldl (fun (t : State) l => t.failLun d l) s
  else s.cutLink d (k - 12) false

/-- PLL_RELOCK_END: the domain resumes, or its loss is handled. -/
def execPllRelockEnd (die dom : Nat) (ok : Bool) (s : State) : Host.Outcome State Fault Refusal :=
  act (fun s =>
    let c := s.clk die
    if die < s.n ∧ c.unlocked.elem dom = true then
      let c : Clocks := { c with unlocked := without dom c.unlocked }
      if ok then
        let s := ((s.setClk die c).startLinks).startAll die
        if 12 ≤ dom then s.sendFlits (dieLinkKey die (dom - 12))
        else if dom = 1 then (List.range 3).foldl (fun (t : State) lk => t.sendFlits (dieLinkKey die lk)) s
        else s
      else (s.setClk die { c with failed := addOnce dom c.failed }).pllFails die dom
    else s) s

/-- REFERENCE_LOSS: every PLL of the package enters holdover until the next package reset. -/
def execReferenceLoss (s : State) : Host.Outcome State Fault Refusal :=
  act (fun s =>
    if s.seq.st = 0 ∨ s.seq.st = 14 ∨ (s.clk 0).holdover = true then s
    else
      let s := s.dieList.foldl (fun (t : State) d =>
        (t.setClk d { t.clk d with holdover := true }).setReg (0x7310 + d) 3 1) s
      s.report 0 cHoldover 2 0 []) s

/-- A measured frequency lies outside 5 % of its nominal value (14 R327). -/
def outOfRange (nom kHz : Nat) : Bool := decide (20 * kHz < 19 * nom) || decide (21 * nom < 20 * kHz)

/-- OSCILLATOR_OUT_OF_RANGE: FCLK is 200 MHz, SCLK 50 MHz; one that does not run is not measured. -/
def execOscillatorOutOfRange (die : Nat) (sclk : Bool) (kHz : Nat) (s : State) :
    Host.Outcome State Fault Refusal :=
  act (fun s =>
    if die < s.n ∧ s.clockRuns die (if sclk then 24 else 23) = true then
      let s := s.setReg (0x7310 + die) (if sclk then 6 else 5) kHz
      if outOfRange (if sclk then 50000 else 200000) kHz then
        s.report die cOscillator 1 0 [die, sclk.toNat, kHz]
      else s
    else s) s

/-- DEVICE_TIME_SAVE: die 0 writes device time to its ledger (14 R323). -/
def execDeviceTimeSave (s : State) : Host.Outcome State Fault Refusal :=
  act (fun s =>
    if 1 ≤ s.seq.st ∧ s.seq.st ≠ 14 then { s with aon := { s.aon with savedTime := s.aon.deviceTime } }
    else s) s

/-- Callers of the tenancy and domain operations that wait for an answer. -/
def State.waitingCallers (s : State) : List Caller :=
  s.ten.filling.toList.map (·.caller) ++ s.ten.settling.toList.map (·.op.caller) ++ s.ten.waiting.map (·.caller) ++ s.ten.refused.map (·.caller) ++
    ((s.ten.retiring.filter fun e => !e.answered).map (·.caller)) ++
    s.seq.drains.foldl (fun l x => if l.elem x.caller then l else l ++ [x.caller]) []

/-- 14 R332, R333, 02 R42: every operation in progress is answered Busy, the field bus answers nothing and its
sessions close. What has no ledger write yet is not applied; a RETIRE past its step 1 runs on. -/
def State.busyAll (s : State) : State :=
  let l := s.waitingCallers
  let s := l.foldl (fun (t : State) c =>
    match c.origin with
    | .mailbox port link => if c.gone then t else t.emit (.mbox port link rcBusy [])
    | _ => t) s.undoSettling
  let s := if s.wire.busy.isSome then s.wireDone stBusy 0 0 [] else s
  { s with
    ten := { s.ten with
      filling := none, waiting := [], refused := []
      retiring := s.ten.retiring.map fun (e : Retiring) => { e with answered := true } }
    seq := { s.seq with drains := [] }
    bus := { s.bus with sessions := [], slotted := [], segments := [], syncs := [] }
    wire := { s.wire with armed := none } }

/-- A management restart with a cause of 0x7300.03; none while domain 5 is off, the processors are held
in reset or the lead die has stopped (14 R331, R332, R335; 01 R27). -/
def State.startRestart (s : State) (cause : Nat) : State :=
  if s.mgmt.heldInReset || s.dieOut 0 || s.freeze.active || decide (s.seq.st = 13) || decide (s.seq.st = 14) ||
      decide (s.seq.st < 3) then s
  else
    let s := s.busyAll
    let s : State := { s with mgmt := { s.mgmt with
      ready := false, restarting := some cause, since := s.aon.now, watchdogArmed := false } }
    ((s.setReg 0x7300 3 cause).inc 0x7300 4).bootRom

/-- WATCHDOG_TIMEOUT. -/
def execWatchdogTimeout (s : State) : Host.Outcome State Fault Refusal :=
  act (fun s => if s.mgmt.ready = true ∧ s.mgmt.watchdogArmed = true then s.startRestart 2 else s) s

/-- MANAGEMENT_RESTART_READY: the firmware reaches step 6 (14 Table 14.4): it loads the energy-derived limit at once
(11 R273). -/
def execManagementRestartReady (s : State) : Host.Outcome State Fault Refusal :=
  act (fun s =>
    match s.mgmt.restarting with
    | none => s
    | some c =>
      if s.dieOut 0 then s
      else
      let s := s.imageReady
      let s := s.loadLimit (s.limitOf s.cistern)
      let t := time48 ((s.aon.now - s.mgmt.since) / 1000)
      let s : State := { s with mgmt := { s.mgmt with
        ready := true, restarting := none, fails := 0, watchdogArmed := true } }
      if c = 0 then s else (s.setReg 0x7300 5 t).report 0 cRestart 0 0 [c]) s

/-- RESTART_TIMEOUT: 10 s without step 6; three in succession hold the processors in reset. -/
def execRestartTimeout (s : State) : Host.Outcome State Fault Refusal :=
  act (fun s =>
    if s.mgmt.restarting.isNone ∨ s.dieOut 0 = true ∨ s.aon.now - s.mgmt.since < 10000000000 then s
    else
      let s := s.imageTimesOut
      let s : State := { s with mgmt := { s.mgmt with fails := s.mgmt.fails + 1 } }
      if 3 ≤ s.mgmt.fails then s.holdManagement else s.startRestart 4) s

/-- TEST_RESET: debug domain 30, which holds no state the manual names. -/
def execTestReset (s : State) : Host.Outcome State Fault Refusal := act (fun s => s) s

/-- ACTIVATION_ALARM: in state 12 the STAGED slot boots with a management restart, otherwise the
activation is missed (18 R392); it does not fire while device time is invalid (14 R323). -/
def execActivationAlarm (s : State) : Host.Outcome State Fault Refusal :=
  act (fun s =>
    let t := s.reg 0x1302 1
    if t = 0 ∨ s.timeValid = false ∨ s.aon.deviceTime < t then s
    else
      let s := s.setReg 0x1302 1 0
      if s.seq.st = 12 ∧ s.freeze.active = false ∧ (s.slotIn 2).isSome = true then s.firePending.startRestart 1
      else (s.inc 0x1302 4).activationEnds 3 1) s

end Sys2Proof.Machine
end

