-- ==== Sys2Proof/Machine/Readings.lean ====
section
/-! DEFINITION. What the dictionary's objects read: the values that follow from the rest of the state,
chapter by chapter, and the contents of STRING and DOMAIN objects. -/
namespace Sys2Proof.Machine

/-- One for true. -/
def bit (b : Bool) : Nat := b.toNat

/-- A raw 32-bit word holding a saturated count. -/
def sat32 (v : Nat) : Nat := min u32max v

/-- Identity, die links, field bus, sessions (01 R19, R31; 15 Table 15.9; 16 R368). -/
def State.readIdent (s : State) (c : Cls) (sub : Nat) : Option Nat :=
  match c, sub with
  | .ident, 2 => some s.n
  | .ident, 3 => some s.popBytes
  | .ident, 4 => some s.hostVisible
  | .ident, 5 =>
    some (match s.fw.booted with
      | some k => if s.slotLen k = 0 then 1 else ((s.headerOf k).map (·.layout)).getD 0
      | none => 1)
  | .ident, 6 => some s.build.serial
  | .dieLink d, 1 => some (s.dieLink d 0).st
  | .dieLink d, 2 => some (s.dieLink d 1).st
  | .dieLink d, 3 => some (s.dieLink d 2).st
  | .busStat, 1 => some s.build.node
  | .busStat, 2 => some s.bus.st
  | .busStat, 3 => if s.bus.st = 3 then some 255 else none
  | .session k, 1 => some (bit (s.session k).isOpen)
  | .session k, 2 => some (s.session k).node
  | .session k, 3 => some (s.session k).openedAt
  | .session k, 4 => some (s.session k).accepted
  | _, _ => none

/-- A port's links (02 Table 02.4): a link that the bifurcation does not create reads 0. -/
def State.readPort (s : State) (g sub : Nat) : Nat :=
  let l := (sub - 1) % 4
  if linksOf (s.bifOf g) ≤ l then 0
  else if sub ≤ 4 then (s.hlink g l).st
  else if sub ≤ 8 then (s.hlink g l).speed
  else (s.hlink g l).width

/-- Lowest FREE tenancy; 0xFFFF when none is (03 R65). -/
def State.lowestFree (s : State) : Nat :=
  ((List.range 1024).find? fun k => decide ((s.tenancy k).st = 0)).getD 0xFFFF

/-- Address map, tenancies and keys (03 R65, R67, R76). -/
def State.readMap (s : State) (c : Cls) (sub : Nat) : Option Nat :=
  match c, sub with
  | .map, 4 => some s.dram.interleave
  | .map, 5 => some s.dram.granule
  | .map, 6 => some s.assignable
  | .map, 7 => some s.sumpTotal
  | .map, 8 => some s.unmapped
  | .mapDie d, 2 => some (s.usable d)
  | .mapDie d, 3 => some (s.sump d / driftBytes)
  | .tenStat, 1 => some (s.ten.table.filter fun e => decide (e.2.st ≠ 0)).length
  | .tenStat, 2 => some s.lowestFree
  | .tenStat, 3 =>
    some (s.ten.keys.filter fun e => decide (1024 ≤ e.1) && decide (e.2.st ≠ 0)).length
  | .ten k, 1 => some (s.tenancy k).st
  | .ten k, 2 => some (s.tenancy k).base
  | .ten k, 3 => some (s.tenancy k).limit
  | .ten k, 4 => some (s.tenancy k).mode
  | .ten k, 5 => some k
  | .ten k, 6 => some (s.portMask (s.tenancy k).cls)
  | .ten k, 7 => some (s.tenancy k).rights
  | .ten k, 8 => some (s.tenancy k).share
  | .ten k, 0x0A => some (s.tenancy k).transit
  | .ten k, 0x0B => some (s.tenancy k).watermark
  | .ten k, 0x0C => some (s.tenancy k).newBase
  | .ten k, 0x0D => some (s.tenancy k).newLimit
  | .homeKey k, 1 => some (s.keySlot k).st
  | .homeKey k, 3 => some (s.keySlot k).gen
  | .transitKey k, 1 => some (s.keySlot (1024 + k)).st
  | .transitKey k, 3 => some (s.keySlot (1024 + k)).gen
  | .transitKey k, 5 => some (s.keySlot (1024 + k)).ten
  | _, _ => none

/-- Training status of a channel: 0 untrained, 1 trained, 2 at a lowered rate, 3 no rank in service
(05 G.01). -/
def State.trainStatus (s : State) (g : Nat) : Nat :=
  let x := s.quad (g / 8) (g % 8 / 2)
  if !x.trained then 0
  else if !((s.rank (2 * g)).serves || (s.rank (2 * g + 1)).serves) then 3
  else if x.lowered then 2 else 1

/-- DRAM and training (04 R114, 05 R131). -/
def State.readDram (s : State) (c : Cls) (sub : Nat) : Option Nat :=
  match c, sub with
  | .chan g, 2 => some (if s.capOf (2 * g) + s.capOf (2 * g + 1) = 0 then 0 else (s.quad (g / 8) (g % 8 / 2)).rate)
  | .chan g, 8 => some (bit (decide (s.capOf (2 * g) ≠ 0)) + 2 * bit (decide (s.capOf (2 * g + 1) ≠ 0)))
  | .rank r, 1 => some (s.rank r).density
  | .rank r, 2 => some (s.rank r).stack
  | .rank r, 3 => some (s.capOf r)
  | .rank r, 7 => some (s.rank r).refresh
  | .quad d q, 1 => some (min 4 (s.quad d q).st)
  | .scrub g, 1 => some ((s.scrubOf g).k * 2 ^ 63 + 64 * (s.scrubOf g).line)
  | .train g, 1 => some (s.trainStatus g)
  | .trainRank r, 1 => some (s.rank r).train
  | _, _ => none

/-- Pump mode of a die: 0 background, 1 urgent, 2 freeze (07 D.03). -/
def State.pumpMode (s : State) : Nat := if s.freeze.active then 2 else if s.urgent then 1 else 0

/-- Shadowing (07 R183). -/
def State.readShadow (s : State) (c : Cls) (sub : Nat) : Option Nat :=
  match c, sub with
  | .shadow0, 1 => some s.budget
  | .shadow0, 3 => some s.energyLimit
  | .shadow0, 5 => some s.freezeCeiling
  | .shadow0, 6 => some s.hardwareCap
  | .shadow0, 7 => some s.snowline
  | .shadow0, 8 => some s.pool
  | .shadow0, 9 => some s.poolUse
  | .shadow0, 0x0A => some s.limiting
  | .shadow0, 0x0B => some s.persistence
  | .shadow0, 0x0D => some (bit s.sharesScaled + 2 * bit (!s.capacityHolds))
  | .shadow1, 2 => some s.shadow.epoch
  | .shadow1, 3 => some (s.shadow.sealedAll.getD 0)
  | .shadow3, 5 => some s.sustainable
  | .shadow4, 3 => some s.shadow.held.length
  | .shadow4, 4 => some (sat32 s.waitBound)
  | .perSnow i, _ => some (s.tenSnow (128 * i + sub - 1))
  | .perShare i, _ => some (s.effShare (128 * i + sub - 1))
  | .dieShadow d, 1 => some (s.dieSnow d * flakeBytes)
  | .dieShadow d, 2 => some (s.die d).pumps.length
  | .dieShadow _, 3 => some s.pumpMode
  | .dieShadow d, 7 => some (s.rd d)
  | .dieShadow d, 8 => some (s.ld d)
  | .dieShadow d, 9 => some (s.stageOcc d)
  | _, _ => none

/-- A boot copy can be read: its flash channel is in service, and its LUN has not failed (08 R211, F.0E and
F.0F). -/
def State.bootCopyReadable (s : State) (f : Nat) : Bool := decide (s.flashState 0 f = 1) && s.copyReads f

/-- Glacier (08 R212). -/
def State.readGlacier (s : State) (c : Cls) (sub : Nat) : Option Nat :=
  match c, sub with
  | .glacier d, 1 =>
    some ((List.range 16).foldl (fun m f => if s.flashState d f = 1 then m + 2 ^ f else m) 0)
  | .glacier d, 2 => some (s.glacierCap d)
  | .glacier d, 3 => some (s.shadowed d)
  | .glacier d, 4 => some (bit (s.capacityOn d))
  | .glacier d, 5 => some ((s.allLuns d).map (s.freeBlocks d)).sum
  | .glacier d, 6 => some (s.die d).moraine.length
  | .glacier d, 9 => some (s.wear d)
  | .glacier _, 0x0E => some (bit (s.bootCopyReadable 0))
  | .glacier _, 0x0F => some (bit (s.bootCopyReadable 8))
  | .flashChan d f, 2 => some (s.activeLuns d f).length
  | .flashChan d f, 3 =>
    some ((List.range 32).foldl (fun m i => if (s.lunOf d (32 * f + i)).failed then m + 2 ^ i else m) 0)
  | _, _ => none

/-- 09 R223: ef for the current snowline, J. -/
def State.freezeEnergy (s : State) : Nat :=
  let worst := (s.dieList.map fun d =>
    if s.rd12 d = 0 then 0 else s.dieSnow d * flakeBytes * 12000000 / s.rd12 d).foldl max 0
  s.reg 0x6800 3 * (s.t0 + worst) / 1000000

/-- Drifts homed on a die whose thaw mark is set (09 R232). -/
def State.marksSet (s : State) (d : Nat) : Nat :=
  let n := s.driftCount d
  let flips := (s.freeze.markFlip.filter fun j => decide (dieOfDrift j = d) && decide (j / 8 < n)).length
  if s.freeze.markDflt then n - flips else flips

/-- The copy of a die in progress: logical rank and redirection (10 R264). -/
def State.copyOn (s : State) (d : Nat) : Option (Nat × Redirect) :=
  s.sparing.redirect.find? fun e => !e.2.complete && !e.2.queued && decide (dieOfRank e.1 = d)

/-- The rank that carries a rank's data, or the rank that a carrying spare carries (10 0x6920+g.02). -/
def State.carrierOf (s : State) (g : Nat) : Nat :=
  match s.redirectOf g with
  | some x => x.carrier
  | none => ((s.sparing.redirect.find? fun e => decide (e.2.carrier = g)).map (·.1)).getD 0xFF

/-- Freeze, thaw, sparing (09 R241, 10 R264). -/
def State.readFreeze (s : State) (c : Cls) (sub : Nat) : Option Nat :=
  match c, sub with
  | .freeze, 5 => some (sat32 s.t0)
  | .freeze, 0x0B => some s.freeze.thaw
  | .freeze, 0x0C => some s.restoreLeft
  | .freeze, 0x10 => some (sat32 s.freezeEnergy)
  | .freezeDie d, 2 => some (s.marksSet d)
  | .spareDie d, 1 => some (s.freeSpares d).length
  | .spareDie d, 2 => some (match s.copyOn d with | some e => if e.2.rebuild then 2 else 1 | none => 0)
  | .spareDie d, 3 => some (match s.copyOn d with | some e => e.2.source % 16 | none => 0xFF)
  | .spareDie d, 4 => some (match s.copyOn d with | some e => e.2.carrier % 16 | none => 0xFF)
  | .spareDie d, 5 => some (match s.copyOn d with | some e => e.2.watermark | none => 0)
  | .spareDie d, 7 => some (s.healsOf d).length
  | .spareRank g, 1 => some (s.rank g).st
  | .spareRank g, 2 => some (s.carrierOf g)
  | .spareRank g, 3 => some (min 255 (s.rank g).ue)
  | .spareRank g, 4 => some (min 255 (s.parityNow g))
  | .spareRank g, 5 => some (sat32 (s.rank g).ce)
  | _, _ => none

/-- Why the charger is off (11 0x7002.08). -/
def State.chargerState (s : State) : Nat :=
  if !s.bat.present then 1
  else if s.bat.thermFault then 5
  else if s.bat.tempInhibit then 2
  else if 2 ≤ s.bat.learn then 3
  else if s.seq.st = 0 ∨ 12 < s.seq.st then 4
  else 0

/-- Battery (11 R283). -/
def State.readBattery (s : State) (c : Cls) (sub : Nat) : Option Nat :=
  match c, sub with
  | .bat1, 5 => some s.bat.learn
  | .bat1, 7 => some s.bat.lastLearn
  | .bat1, 8 => some s.bat.learns
  | .bat1, 9 => some (bit s.bat.required)
  | .bat2, 1 => some s.bat.volts
  | .bat2, 2 => some (raw32 s.bat.amps)
  | .bat2, 3 => some (raw32 s.bat.temp)
  | .bat2, 4 => some s.bat.q
  | .bat2, 5 => some s.bat.fcc
  | .bat2, 6 => some (if s.bat.fcc = 0 then 0 else min 255 (100 * s.bat.q / s.bat.fcc))
  | .bat2, 7 => some (bit s.bat.present)
  | .bat2, 8 => some s.chargerState
  | .bat2, 9 => some s.bat.anchor
  | .bat2, 0x0A => some (sat32 s.allowance)
  | .bat3, 1 => some (sat32 (s.cistern / cisternDen))
  | .bat3, 2 => some (ktOf s.lowTemp * 65536 / 10000)
  | .bat3, 3 => some (match s.bat.loadAt with | some t => sat32 ((s.aon.now - t) / 1000000) | none => 0)
  | .bat3, 5 => some (if s.bat.atFloor then 2 else if s.bat.decayAt.isSome then 1 else 0)
  | _, _ => none

/-- Power and monitor (12 R304, 13 R319). -/
def State.readPower (s : State) (c : Cls) (sub : Nat) : Option Nat :=
  match c, sub with
  | .pow0, 1 => some s.seq.st
  | .powDie d, 1 => some (s.domainMask d)
  | .powDie d, 3 => some (s.padsOf d)
  | .powDie d, 5 => some ((List.range 24).foldl (fun m i => if s.railSt d i = 4 then m + 2 ^ i else m) 0)
  | .adc d, 1 => some (if !s.adcRuns d then 0 else if s.adcFrozen then (if d = 0 then 2 else 0) else 1)
  | .adc d, 3 => some (s.adcOf d).spare
  | .adc d, 0x0C => some (s.adcOf d).capture
  | .clkDie d, 1 => some ((List.range 25).foldl (fun m k => if s.clockRuns d (k + 1) then m + 2 ^ k else m) 0)
  | .clkDie d, 2 =>
    some ((List.range 25).foldl (fun m k =>
      if (isPll (k + 1) || coreDerived (k + 1)) && s.clockRuns d (k + 1) then m + 2 ^ k else m) 0)
  | .wire, 7 => some s.wireAddr
  | _, _ => none

/-- Bit rates in force (15 Table 15.9). -/
def nomRate (code : Nat) : Nat := if code = 0 then 500000 else 1000000
def datRate (code : Nat) : Nat :=
  if code = 0 then 1000000 else if code = 1 then 2000000 else if code = 2 then 4000000 else 5000000

/-- 18 R386: the chunk interval in microseconds, at a bus share in tenths of a percent. -/
def chunkInterval (nom dat share : Nat) : Nat :=
  (67 * dat + 650 * nom) * 1000000000 / (nom * dat * max 1 share)

/-- A realm's read cursor: the oldest record until it is moved (19 R413). -/
def Recorder.cursorOf (r : Recorder) (rm : Realm) : Nat :=
  match look? r.cursors rm.code with
  | some v => v
  | none => r.oldest

/-- Firmware and recorder (18 R401, 19 R413), as a realm reads them. -/
def State.readFirmware (s : State) (rm : Realm) (c : Cls) (sub : Nat) : Option Nat :=
  match c, sub with
  | .fwStat, 1 => some ((s.slotIn 4).getD 0xFF)
  | .fwStat, 2 => some (s.slotView 0 + 256 * s.slotView 1)
  | .fwXfer, 3 => some (match s.fw.transfer with | some t => t.chunks.length | none => 0)
  | .fwXfer, 4 => some (match s.fw.transfer with | some t => t.count | none => 0)
  | .fwXfer, 9 => some (sat32 (chunkInterval (nomRate s.bus.nom) (datRate s.bus.dat) (s.reg 0x1301 5)))
  | .recDie d, 1 => some ((s.recorder d).newest.getD 0)
  | .recDie d, 2 => some (s.recorder d).oldest
  | .recDie d, 6 => some ((s.recorder d).queue.length + bit (decide (0 < (s.recorder d).lost)))
  | .recDie d, 7 => some ((s.recorder d).cursorOf rm)
  | .recDie d, 9 => some (look 0 (s.recorder d).gaps rm.code % 2)
  | _, _ => none

/-- The first of the chapters that gives a value. -/
def State.derived (s : State) (rm : Realm) (c : Cls) (sub : Nat) : Option Nat :=
  match c with
  | .port1 g => some (s.readPort g sub)
  | _ =>
    (s.readIdent c sub).or <| (s.readMap c sub).or <| (s.readDram c sub).or <|
      (s.readShadow c sub).or <| (s.readGlacier c sub).or <| (s.readFreeze c sub).or <|
      (s.readBattery c sub).or <| (s.readPower c sub).or (s.readFirmware rm c sub)

/-- What a numeric object reads in a realm. -/
def State.valueOf (s : State) (rm : Realm) (idx sub : Nat) : Nat :=
  match (classify s.n idx).bind fun c => s.derived rm c sub with
  | some v => v
  | none => s.reg idx sub

/-- 00 R4: the part number as a STRING. -/
def Variant.partNumber : Variant → Bytes
  | .sw7402 => [0x53, 0x57, 0x37, 0x34, 0x30, 0x32]
  | .sw7404 => [0x53, 0x57, 0x37, 0x34, 0x30, 0x34]
  | .sw7408 => [0x53, 0x57, 0x37, 0x34, 0x30, 0x38]

/-- 19 R413: the vendor-defined record UUID, byte 0 first. -/
def recordUuid : Bytes :=
  [0x7C, 0x2E, 0x9A, 0x41, 0x5B, 0x3D, 0x4F, 0x08, 0x9E, 0x61, 0xA2, 0xD0, 0x4C, 0x7B, 0x1F, 0x35]

/-- Chunk bitmap of a transfer: bit k of the whole, chunk k (18 0x1301.02). -/
def Transfer.bitmap (t : Transfer) : Bytes :=
  (List.range ((t.count + 7) / 8)).map fun i =>
    BitVec.ofNat 8 ((List.range 8).foldl (fun m j => if t.chunks.elem (8 * i + j) then m + 2 ^ j else m) 0)

/-- Bytes padded with zeros to a fixed length. -/
def padTo (n : Nat) (b : Bytes) : Bytes := (b ++ List.replicate (n - b.length) 0).take n

/-- The ONFI parameter page of a die's NAND (08 F.10): that of its lowest used channel. -/
def State.onfiOf (s : State) (d : Nat) : Bytes :=
  match (List.range 16).find? fun f => decide (s.flashState d f = 1) with
  | some f => match s.nandOf d f with
    | some nd => padTo 256 (Config.onfiPage nd.onfiId)
    | none => []
  | none => []

/-- Contents of a STRING or DOMAIN object that reads as a whole. -/
def State.bytesOf (s : State) (c : Cls) (idx sub : Nat) : Bytes :=
  match c, sub with
  | .ident, 1 => s.build.variant.partNumber
  | .recPkg, 1 => recordUuid
  | .fwStat, 5 => s.fw.report
  | .fwStat, 6 => padTo 32 (s.dom idx sub)
  | .fwStat, 7 => Config.certChain
  | .fwXfer, 2 => match s.fw.transfer with | some t => t.bitmap | none => []
  | .measure m, 1 => digestBytes (look 0 s.fw.digests m)
  | .rank _, 9 => padTo 80 (s.dom idx sub)
  | .trainRank _, 2 | .trainRank _, 3 | .trainRank _, 4 => padTo 40 (s.dom idx sub)
  | .adc d, 0x0B => padTo 8192 ((s.adcOf d).samples.flatMap fun v => leBytes 2 v)
  | .glacier d, 0x10 => s.onfiOf d
  | _, _ => s.dom idx sub

end Sys2Proof.Machine
end

