-- ==== Sys2Proof/Machine/Dictionary.lean ====
section
/-! DEFINITION. The object dictionary: the checks of 15 R341 in their order, reads, writes with their
conditions and clamping, and the answers on each path. -/
namespace Sys2Proof.Machine

/-- The tenancy an object describes, for a tenant's "own" right (15 R340). -/
def Cls.tenancyOf : Cls → Nat → Nat
  | .ten k, _ => k
  | .perSnow i, sub | .perCkpt i, sub | .perState i, sub | .perShare i, sub => 128 * i + sub - 1
  | _, _ => 0

/-- The right that an operation's realm has to an object now (15 R339, R340). -/
def State.rightOf (s : State) (o : Origin) (c : Cls) (r : ObjRow) (idx : Nat) : Right :=
  match r.rights.of (s.realm o), o with
  | .roOwn, .mailbox port _ => if (s.tenancy (c.tenancyOf r.sub)).rightsOf port = 0 then .none else .ro
  | .roOwn, _ => .none
  | .w1, _ => if s.usedW1.elem (okey idx r.sub) then .none else .w1
  | x, _ => x

def Right.reads : Right → Bool
  | .ro | .rw => true
  | _ => false

def Right.writes : Right → Bool
  | .rw | .wo | .w1 => true
  | _ => false

/-- A field-bus operation came in a session that is open to its source node (15 R356). -/
def State.inSession (s : State) : Origin → Bool
  | .fieldBus h sid => decide (sid < 4) && (s.session sid).isOpen && decide ((s.session sid).node = h.src)
  | _ => true

/-- Indices that the rack realm reads without a session (15 R353). -/
def publicIndex (idx : Nat) : Bool :=
  (decide (0x1000 ≤ idx) && decide (idx ≤ 0x10FF)) || (decide (0x1300 ≤ idx) && decide (idx ≤ 0x13FF))

/-- 15 R346: an operation that ends ACCESS or SESSION: counted, kept, recorded. -/
def State.dictViolation (s : State) (o : Origin) (idx sub : Nat) : State :=
  let rm := s.realm o
  let s := ((((s.inc 0x1130 1).setReg 0x1130 2 idx).setReg 0x1130 3 sub).setReg 0x1130 4 rm.code).setReg
    0x1130 5 (sourceAddress o)
  s.report 0 cDictViolation 1 0 [idx, sub, rm.code, sourceAddress o]

/-- Longest data of one operation (02 Table 02.5, 15 R352). -/
def mostBytes : Nat := 4084

/-- A numeric value read whole (15 R343). -/
def readNumber (size v off want : Nat) : Ans :=
  if off ≠ 0 ∨ want < size then .st stLength else .now stOk size size (leBytes size v)

/-- A STRING or DOMAIN read from an offset (15 R343). -/
def readBytes (b : Bytes) (off want : Nat) : Ans :=
  if b.length < off then .st stLength
  else
    let d := (b.drop off).take (min want mostBytes)
    .now stOk d.length b.length d

/-- A read of 0x1210+d.08: whole records from the realm's cursor (19 R411, R413). -/
def State.readRecords (s : State) (d : Nat) (rm : Realm) (off want : Nat) : Ans × State :=
  if off ≠ 0 then (.st stLength, s)
  else
    let r := s.recorder d
    let x := r.readFrom rm (r.cursorOf rm) (min want mostBytes)
    let gap := x.gap || decide (2 ≤ look 0 r.gaps rm.code)
    (.now stOk x.data.length (r.readFrom rm (r.cursorOf rm) (8 * ringWords)).data.length x.data,
      s.setRecorder d { r with
        cursors := insertK r.cursors rm.code x.next, gaps := put 0 r.gaps rm.code gap.toNat })

/-- A read that has passed checks 1 to 4: value, answer and effects (13 R313, 18 R400, 19 R411). -/
def State.readValue (s : State) (rm : Realm) (c : Cls) (r : ObjRow) (idx off want : Nat) : Ans × State :=
  match c, r.sub with
  | .recDie d, 8 => s.readRecords d rm off want
  | .fwStat, 5 =>
    let s := if off = 0 then s.newReport else s
    (readBytes s.fw.report off want, s)
  | .adc d, 6 =>
    match readNumber 4 (s.readData d).1 off want with
    | .now st len ol data => (.now st len ol data, if st = stOk then (s.readData d).2 else s)
    | .later => (.later, s)
  | _, _ =>
    if r.ty.size = 0 then (readBytes (s.bytesOf c idx r.sub) off want, s)
    else (readNumber r.ty.size (s.valueOf rm idx r.sub) off want, s)

/-- A dictionary read (15 R341): most bytes wanted, or the longest that the path carries. The spec gives no
status for an object of a die that cannot be reached or is out of service (01 R26, R27): it answers what the
block last held (DESIGN CHOICE, log 143). -/
def State.readObj (s : State) (o : Origin) (idx sub off want : Nat) : Ans × State :=
  match classify s.n idx with
  | none => (.st stNoObject, s)
  | some c =>
    let closed := !s.inSession o && !publicIndex idx
    if sub = 0 then
      if !((c.rows s.n).any fun r => decide (s.rightOf o c r idx ≠ .none)) then
        (.st stAccess, s.dictViolation o idx sub)
      else if closed then (.st stSession, s.dictViolation o idx sub)
      else (readNumber 1 (topSub (c.rows s.n)) off want, s)
    else
      match findRow sub (c.rows s.n) with
      | none => (.st stNoSubindex, s)
      | some r =>
        if !(s.rightOf o c r idx).reads then (.st stAccess, s.dictViolation o idx sub)
        else if closed then (.st stSession, s.dictViolation o idx sub)
        else s.readValue (s.realm o) c r idx off want

/-- The nearest value of an object's range (15 R338, R342). -/
def clampRaw (r : ObjRow) (v : Nat) : Nat :=
  match r.ty with
  | .bool => if v = 0 then 0 else 1
  | .i32 | .q16 => raw32 (max r.lo (min r.hi (signed32 v)))
  | _ => (max r.lo (min r.hi (v : Int))).toNat

/-- The k highest set bits of a 16-bit value (03 R65). -/
def highestBits (k v : Nat) : Nat :=
  let l := ((List.range 16).filter (bitOf v)).reverse.take k
  l.foldl (fun m i => m + 2 ^ i) 0

/-- 12 R291: a parent bit that names the rail itself, or a rail of a later state, is cleared. -/
def State.cleanParents (s : State) (d i v : Nat) : Nat :=
  railList.foldl (fun m j =>
    if j = i ∨ s.reg (ixRail d i) 1 < s.reg (ixRail d j) 1 then setBitOf m j false else m) v

/-- A channel or rail number 0–23, or 0xFF: the nearest of these (12 R.07, R.08). -/
def nearestInput (v : Nat) : Nat := if v ≤ 23 then v else if v - 23 ≤ 255 - v then 23 else 255

/-- The rules of their own that objects put in place of the nearest value (15 R342). -/
def State.legal (s : State) (c : Cls) (sub v : Nat) : Nat :=
  match c, sub with
  | .mapDie _, 1 => highestBits 2 v
  | .ten _, 8 => min v s.hardwareCap
  | .chan _, 1 => v / 400 * 400
  | .shadow0, 2 | .bat3, 4 => v / flakeBytes * flakeBytes
  | .bat1, 4 => max 2 (min v (min 10 (s.reg 0x7000 4 - 5)))
  | .rail _ _, 1 => if v = 1 then 2 else min 8 v
  | .rail d i, 2 => s.cleanParents d i v
  | .rail _ _, 7 | .rail _ _, 8 => nearestInput v
  | .entry _ _, 3 => if 8 ≤ v then 8 else if 4 ≤ v then 4 else if 2 ≤ v then 2 else 1
  | .entry d _, 2 => if d ≠ 0 ∧ 24 ≤ v ∧ v ≤ 26 then 27 else v
  | .entry _ _, 0x0A => bit (bitOf v 0) + 8 * bit (bitOf v 3)
  | _, _ => v

/-- A LIVE or FENCED tenancy with class 0 has a drift decoded to one of some channels (04 R96, R111). -/
def State.class0Uses (s : State) (l : List Nat) : Bool :=
  s.ten.table.any fun e =>
    e.2.open_ && s.hasClass0 e.2 && (s.chansOfRange e.2.base e.2.limit).any l.elem

/-- Check 6 of numeric objects that are settings: STATE (03 R62, 04 R96, R111, 10 R256). -/
def State.barred (s : State) (c : Cls) (sub v : Nat) : Bool :=
  match c, sub with
  | .map, 1 | .map, 2 | .mapDie _, 1 => !s.allFree
  | .chan g, 5 => decide (v = 1) && s.class0Uses [g]
  | .quad d q, 2 => decide (v = 1) && s.class0Uses (chansOf d q)
  | .spareDie d, 6 =>
    (List.range 4).any fun q =>
      bitOf v q && (decide (s.dram.interleave = 1) || decide (s.reg (ixQuad d q) 2 = 0))
  | _, _ => false

/-- A write of a read cursor (19 R413). -/
def State.setCursor (s : State) (d : Nat) (rm : Realm) (v : Nat) : State :=
  let r := s.recorder d
  let span := fun x => (x + 2 ^ 32 - r.oldest % 2 ^ 32) % 2 ^ 32
  if span v ≤ span r.nextSeq then
    s.setRecorder d { r with
      cursors := insertK r.cursors rm.code v, gaps := put 0 r.gaps rm.code (look 0 r.gaps rm.code % 2) }
  else
    s.setRecorder d { r with
      cursors := insertK r.cursors rm.code r.oldest
      gaps := put 0 r.gaps rm.code (2 + look 0 r.gaps rm.code % 2) }

/-- An outcome with its status, and the bytes accepted when it is OK. -/
def Ans.done (st size : Nat) : Ans := if st = stOk then .now stOk size size [] else .st st

/-- The write changes a latency target of a port, and with it CDAT entries of its links (06 R149, 02 R51). -/
def State.movesTarget (s : State) (c : Cls) (idx sub v : Nat) : Bool :=
  match c with
  | .classPort _ => (decide (sub = 1) || decide (sub = 2)) && decide (s.reg idx sub ≠ v)
  | _ => false

/-- A write of a timer's period or start event may start it (13 R308). -/
def State.timerWritten (s : State) (c : Cls) (sub : Nat) : State :=
  match c with
  | .timer d t => if sub ≤ 2 then s.armTimer d t else s
  | _ => s

/-- A numeric write that has passed checks 1 to 5, with its clamped value (15 R341). -/
def State.applyNumber (s : State) (who : Caller) (c : Cls) (r : ObjRow) (idx v : Nat) : Ans × State :=
  let size := r.ty.size
  match c, r.sub with
  | .ten _, _ | .homeKey _, 4 | .transitKey _, 4 | .shadow2, 1 =>
    (.later, s.submit { caller := who, idx := idx, sub := r.sub, value := v, data := [] })
  | .bat1, 1 => (.done (s.learnCommand v).1 size, (s.learnCommand v).2)
  | .powDie d, 2 => s.switchDomains who d v
  | .powDie d, 4 => (.done stOk size, s.releasePads d v)
  | .adc d, 8 => (.done stOk size, s.inject d v)
  | .adc d, 0x0C => (.done stOk size, s.armCapture d)
  | .fwXfer, 7 => (.done stOk size, s.abortTransfer)
  | .fwAct, 1 => (.done (s.armActivation v).1 size, (s.armActivation v).2)
  | .recDie d, 7 => (.done stOk size, s.setCursor d (s.realm who.origin) v)
  | .clk, 1 => (.done stOk size, s)
  | _, _ =>
    if s.barred c r.sub v then (.st stState, s)
    else if s.movesTarget c idx r.sub v then (.done stOk size, (s.setReg idx r.sub v).cdatChanged)
    else (.done stOk size, (s.setReg idx r.sub v).timerWritten c r.sub)

/-- 15 R357, R364: a new rack key closes every session, with the transfers in them. -/
def State.setRackKey (s : State) (data : Bytes) : State :=
  { s with bus := { s.bus with
      rackKey := some (BitVec.ofNat 256 (leNat data)), sessions := []
      segments := s.bus.segments.filter fun g => decide (4 ≤ g.sid) } }.inc 0x1110 2

/-- A write to a DOMAIN object that has passed checks 1 to 4. -/
def State.applyBytes (s : State) (who : Caller) (c : Cls) (sub idx off : Nat) (data : Bytes) : Ans × State :=
  let len := data.length
  let onBus := match who.origin with | .fieldBus _ _ => true | _ => false
  match c, sub with
  | .fwXfer, 8 => (.done (s.writeImage off data).1 len, (s.writeImage off data).2)
  | .fwXfer, 1 =>
    if off ≠ 0 then (.st stLength, s)
    else (.done (s.writeDescriptor onBus data).1 len, (s.writeDescriptor onBus data).2)
  | .homeKey _, 2 | .transitKey _, 2 =>
    if off ≠ 0 ∨ len ≠ 64 then (.st stLength, s)
    else (.later, s.submit { caller := who, idx := idx, sub := sub, value := 0, data := data })
  | .rackKey, 1 =>
    if off ≠ 0 ∨ len ≠ 32 then (.st stLength, s) else (.done stOk len, s.setRackKey data)
  | .fwStat, 6 =>
    if off ≠ 0 ∨ len ≠ 32 then (.st stLength, s)
    else (.done stOk len, s.setDom idx sub (if data.all (· = 0) then [] else data))
  | .bat4, 1 =>
    if off ≠ 0 then (.st stLength, s)
    else
      let x := s.restoreLearned data
      (.done x.1 len, if x.1 = stOk then { x.2 with usedW1 := addOnce (okey idx sub) x.2.usedW1 } else x.2)
  | _, _ => (.st stLength, s)

/-- Checks 1 to 4 of a dictionary write: the object, or the status of the check that fails and what it leaves
(15 R341). -/
def State.writeGate (s : State) (o : Origin) (idx sub : Nat) : Except (Nat × State) (Cls × ObjRow) :=
  match classify s.n idx with
  | none => .error (stNoObject, s)
  | some c =>
    if sub = 0 then .error (stAccess, s.dictViolation o idx sub)
    else
      match findRow sub (c.rows s.n) with
      | none => .error (stNoSubindex, s)
      | some r =>
        if !(s.rightOf o c r idx).writes then .error (stAccess, s.dictViolation o idx sub)
        else if !s.inSession o then .error (stSession, s.dictViolation o idx sub)
        else .ok (c, r)

/-- A dictionary write (15 R341). -/
def State.writeObj (s : State) (who : Caller) (idx sub off : Nat) (data : Bytes) : Ans × State :=
  match s.writeGate who.origin idx sub with
  | .error e => (.st e.1, e.2)
  | .ok (c, r) =>
    if r.ty.size = 0 then s.applyBytes who c sub idx off data
    else if off ≠ 0 ∨ data.length ≠ r.ty.size then (.st stLength, s)
    else s.applyNumber who c r idx (s.legal c sub (clampRaw r (leNat data)))

/-- 15 R358: writes that are answered at the response slot. -/
def slottedIndex (idx sub : Nat) : Bool :=
  (decide (0x3000 ≤ idx) && decide (idx ≤ 0x383F)) || (decide (idx = 0x5802) && decide (sub = 1))

/-- Run a write and answer it; a management restart starts after its answer (14 R331). -/
def State.runWrite (s : State) (who : Caller) (idx sub off : Nat) (data : Bytes) : State :=
  let x := s.writeObj who idx sub off data
  match x.1 with
  | .now st len ol _ =>
    let s := x.2.answerWrite who (slottedIndex idx sub) st len ol
    if idx = 0x7300 ∧ sub = 1 ∧ st = stOk then s.startRestart 3 else s
  | .later => x.2

/-- A write whose length is wrong whatever its object is: checks 1 to 4 come first (15 R341). -/
def State.wrongLength (s : State) (who : Caller) (idx sub : Nat) : State :=
  match s.writeGate who.origin idx sub with
  | .error e => e.2.answerWrite who (slottedIndex idx sub) e.1 0 0
  | .ok _ => s.answerWrite who (slottedIndex idx sub) stLength 0 0

/-- Payload bytes of one ODP frame (15 R352). -/
def frameRoom (sid : Nat) : Nat := if sid < 4 then 52 else 60

/-- Frames of a segmented answer up to the sixteenth, or the last (15 R359): at most k frames. -/
def State.sendSegment (s : State) (g : Segment) : Nat → Segment × State
  | 0 => ({ g with paused := true }, s)
  | k + 1 =>
    if g.data.isEmpty then ({ g with paused := true }, s)
    else
      let n := frameRoom g.sid
      let f := s.segFrame g.head (if g.sid < 4 then 4 else 1) g.sid (g.data.take n) g.next (g.data.drop n).isEmpty
      let s := f.2.sendFrame f.1
      s.sendSegment { g with data := g.data.drop n, next := g.next + 1, lastAt := s.aon.now } k

/-- A segmented transfer cannot begin: four run, or the session carries one (15 R357, R359). -/
def State.segmentsFull (s : State) (sid : Nat) : Bool :=
  decide (4 ≤ s.bus.segments.length) || (decide (sid < 4) && s.bus.segments.any fun g => decide (g.sid = sid))

/-- The answer of a field-bus read: one frame, or a segmented transfer (15 R359). -/
def State.sendRead (s : State) (h : OdpHead) (sid : Nat) (b : Bytes) : State :=
  if b.length ≤ frameRoom sid then
    let f := s.respFrame h (if sid < 4 then 4 else 1) sid b
    f.2.sendFrame f.1
  else
    let g : Segment :=
      { num := s.bus.nextSeg, sid := sid, head := h, rx := false, idx := 0, sub := 0, off := 0
        total := b.length, data := b, next := 0, paused := false, lastAt := s.aon.now }
    let x := s.sendSegment g 16
    let s : State := x.2
    { s with bus := { s.bus with segments := s.bus.segments ++ [x.1], nextSeg := s.bus.nextSeg + 1 } }

/-- Answer a read on its path (02 Table 02.5, 15 Table 15.8, 17 R373). -/
def State.answerRead (s : State) (who : Caller) (status objLen : Nat) (data : Bytes) : State :=
  match who.origin with
  | .mailbox port link => s.emit (.dict port link status data.length objLen data)
  | .fieldBus _ sid => s.sendRead who.head sid (readRespBytes status objLen data)
  | .twoWire =>
    match s.wire.busy with
    | some _ => s.wireDone status data.length objLen data
    | none => s.emit (.objData .twoWire status data.length objLen data)

/-- A field-bus answer needs a segmented transfer and none can begin. -/
def State.cannotSend (s : State) (o : Origin) (data : Bytes) : Bool :=
  match o with
  | .fieldBus _ sid => decide (frameRoom sid < 8 + data.length) && s.segmentsFull sid
  | _ => false

/-- Run a read and answer it; a read whose answer cannot be segmented now returns BUSY and has no
effect (15 R359). -/
def State.runRead (s : State) (who : Caller) (idx sub off want : Nat) : State :=
  let x := s.readObj who.origin idx sub off want
  match x.1 with
  | .now st _ ol data =>
    if s.cannotSend who.origin data then s.answerRead who stBusy 0 [] else x.2.answerRead who st ol data
  | .later => x.2

/-- The field bus and the two-wire port have power (12 Table 12.2, domain 7 of die 0; 17 R371). -/
def State.sidebandOn (s : State) : Bool := s.domainOn 0 7

/-- The two-wire target acknowledges its address: no restart or boot runs, no freeze since its freeze
point, sequencer state 3 or later (17 R371). -/
def State.wireAcks (s : State) : Bool :=
  s.mgmt.ready && s.sidebandOn && decide (3 ≤ s.seq.st) && decide (s.seq.st ≠ 13)

/-- The path of an operation reaches die 0's firmware: the mailbox is ready on a link that is up, the
field bus takes part, the two-wire port answers (02 R42, 15 R348, 17 R371, 14 R333). A mailbox whose port's die has no
route left to die 0 is served as ever, for 01 R26 gives no outcome there (DESIGN CHOICE, log 143). -/
def State.reaches (s : State) : Origin → Bool
  | .mailbox port link =>
    s.mgmt.ready && !s.hosts.stopped && decide ((s.hlink port link).st = 2)
  | .fieldBus h _ => s.mgmt.ready && s.busOn && s.sidebandOn && decide (1 ≤ h.src) && decide (h.src ≤ 126)
  | .twoWire => s.wireAcks && s.wire.busy.isNone

/-- A command that is one dictionary write on a path. -/
def State.writeBy (s : State) (o : Origin) (idx sub off : Nat) (data : Bytes) : State :=
  if s.reaches o then s.runWrite (callerOf o) idx sub off data else s

/-- A command that is one dictionary read on a path. -/
def State.readBy (s : State) (o : Origin) (idx sub off want : Nat) : State :=
  if s.reaches o then s.runRead (callerOf o) idx sub off want else s

/-- The index of a unit's object, or an index that names no object when the unit's number lies outside
the place of 16 Table 16.2. -/
def unitIndex (ok : Bool) (idx : Nat) : Nat := if ok then idx else 0xFFFF
def tenIndex (n : Nat) : Nat := unitIndex (decide (n < 1024)) (0x3000 + n)
def keyIndex (idx : Nat) : Nat := unitIndex (decide (0x3400 ≤ idx) && decide (idx ≤ 0x383F)) idx
def dieIndex (d idx : Nat) : Nat := unitIndex (decide (d < 8)) idx

/-- A value as the object's type carries it. -/
def State.writeNum (s : State) (o : Origin) (idx sub v : Nat) : State :=
  s.writeBy o idx sub 0 (leBytes (s.sizeOf idx sub) v)

/-- CREATE: T.09 := 1 (03 R69). -/
def execCreate (o : Origin) (n : Nat) (s : State) : Host.Outcome State Fault Refusal :=
  act (fun s => s.writeNum o (tenIndex n) 9 1) s

/-- RESIZE: T.09 := 2 (03 R70). -/
def execResize (o : Origin) (n : Nat) (s : State) : Host.Outcome State Fault Refusal :=
  act (fun s => s.writeNum o (tenIndex n) 9 2) s

/-- FENCE: T.09 := 3 (03 R69). -/
def execFence (o : Origin) (n : Nat) (s : State) : Host.Outcome State Fault Refusal :=
  act (fun s => s.writeNum o (tenIndex n) 9 3) s

/-- UNFENCE: T.09 := 4 (03 R69). -/
def execUnfence (o : Origin) (n : Nat) (s : State) : Host.Outcome State Fault Refusal :=
  act (fun s => s.writeNum o (tenIndex n) 9 4) s

/-- RETIRE: T.09 := 5 (03 R71). -/
def execRetire (o : Origin) (n : Nat) (s : State) : Host.Outcome State Fault Refusal :=
  act (fun s => s.writeNum o (tenIndex n) 9 5) s

/-- REKEY: T.09 := 6 (03 R77). -/
def execRekey (o : Origin) (n : Nat) (s : State) : Host.Outcome State Fault Refusal :=
  act (fun s => s.writeNum o (tenIndex n) 9 6) s

/-- TENANCY_FIELD_WRITE (03 R67, R80). -/
def execTenancyFieldWrite (o : Origin) (n sub value : Nat) (s : State) : Host.Outcome State Fault Refusal :=
  act (fun s => s.writeNum o (tenIndex n) sub value) s

/-- KEY_LOAD: K.02 (03 R76, R77). -/
def execKeyLoad (o : Origin) (idx : Nat) (data : Bytes) (s : State) : Host.Outcome State Fault Refusal :=
  act (fun s => s.writeBy o (keyIndex idx) 2 0 data) s

/-- KEY_ZEROISE: K.04 (03 R76). -/
def execKeyZeroise (o : Origin) (idx value : Nat) (s : State) : Host.Outcome State Fault Refusal :=
  act (fun s => s.writeNum o (keyIndex idx) 4 value) s

/-- CHECKPOINT_START: 0x5802.01 (07 R177). -/
def execCheckpointStart (o : Origin) (n : Nat) (s : State) : Host.Outcome State Fault Refusal :=
  act (fun s => s.writeNum o 0x5802 1 n) s

/-- REFRESH_MODE_WRITE: C.05 (04 R96). -/
def execRefreshModeWrite (o : Origin) (ch value : Nat) (s : State) : Host.Outcome State Fault Refusal :=
  act (fun s => s.writeNum o (dieIndex (ch / 8) (ixChan ch)) 5 value) s

/-- IDLE_DEEP_PERMIT_WRITE: C+3.02 (04 R111). -/
def execIdleDeepPermitWrite (o : Origin) (die q value : Nat) (s : State) : Host.Outcome State Fault Refusal :=
  act (fun s => s.writeNum o (dieIndex (if q < 4 then die else 8) (ixQuad die q)) 2 value) s

/-- LEARN_START: 0x7001.01 := 1 (11 R275). -/
def execLearnStart (o : Origin) (s : State) : Host.Outcome State Fault Refusal :=
  act (fun s => s.writeNum o 0x7001 1 1) s

/-- LEARN_ABORT: 0x7001.01 := 2 (11 R278). -/
def execLearnAbort (o : Origin) (s : State) : Host.Outcome State Fault Refusal :=
  act (fun s => s.writeNum o 0x7001 1 2) s

/-- LEARNED_VALUE_RESTORE: 0x7004.01 (11 R281). -/
def execLearnedValueRestore (o : Origin) (data : Bytes) (s : State) : Host.Outcome State Fault Refusal :=
  act (fun s => s.writeBy o 0x7004 1 0 data) s

/-- DOMAIN_SWITCH_OFF: 0x7110+d.02 (12 R297, R298). -/
def execDomainSwitchOff (o : Origin) (die mask : Nat) (s : State) : Host.Outcome State Fault Refusal :=
  act (fun s => s.writeNum o (dieIndex die (0x7110 + die)) 2 mask) s

/-- PAD_RELEASE: 0x7110+d.04 (12 R300). -/
def execPadRelease (o : Origin) (die mask : Nat) (s : State) : Host.Outcome State Fault Refusal :=
  act (fun s => s.writeNum o (dieIndex die (0x7110 + die)) 4 mask) s

/-- INJECTED_REQUEST: A.08 (13 R314). -/
def execInjectedRequest (o : Origin) (die word : Nat) (s : State) : Host.Outcome State Fault Refusal :=
  act (fun s => s.writeNum o (dieIndex die (ixAdc die)) 8 word) s

/-- CAPTURE_ARM: A.0C (13 R312). -/
def execCaptureArm (o : Origin) (die value : Nat) (s : State) : Host.Outcome State Fault Refusal :=
  act (fun s => s.writeNum o (dieIndex die (ixAdc die)) 0x0C value) s

/-- DATA_REGISTER_READ: A.06 (13 R313). -/
def execDataRegisterRead (o : Origin) (die : Nat) (s : State) : Host.Outcome State Fault Refusal :=
  act (fun s => s.readBy o (dieIndex die (ixAdc die)) 6 0 mostBytes) s

/-- MANAGEMENT_RESTART: 0x7300.01 := 1 (14 R331). -/
def execManagementRestart (o : Origin) (s : State) : Host.Outcome State Fault Refusal :=
  act (fun s => s.writeNum o 0x7300 1 1) s

/-- OBJECT_WRITE: any other object (15 R342). -/
def execObjectWrite (o : Origin) (idx sub off : Nat) (data : Bytes) (s : State) :
    Host.Outcome State Fault Refusal :=
  act (fun s => s.writeBy o idx sub off data) s

/-- RACK_KEY_WRITE: 0x1110.01 (15 R364). -/
def execRackKeyWrite (o : Origin) (data : Bytes) (s : State) : Host.Outcome State Fault Refusal :=
  act (fun s => s.writeBy o 0x1110 1 0 data) s

/-- TRANSFER_DESCRIPTOR_WRITE: 0x1301.01 (18 R384). -/
def execTransferDescriptorWrite (o : Origin) (data : Bytes) (s : State) : Host.Outcome State Fault Refusal :=
  act (fun s => s.writeBy o 0x1301 1 0 data) s

/-- TRANSFER_ABORT: 0x1301.07 := 1 (18 R384). -/
def execTransferAbort (o : Origin) (s : State) : Host.Outcome State Fault Refusal :=
  act (fun s => s.writeNum o 0x1301 7 1) s

/-- IMAGE_WRITE: a piece of 0x1301.08 (18 R390). -/
def execImageWrite (o : Origin) (off : Nat) (data : Bytes) (s : State) : Host.Outcome State Fault Refusal :=
  act (fun s => s.writeBy o 0x1301 8 off data) s

/-- ACTIVATION_ARM: 0x1302.01 (18 R391). -/
def execActivationArm (o : Origin) (time : Nat) (s : State) : Host.Outcome State Fault Refusal :=
  act (fun s => s.writeNum o 0x1302 1 time) s

/-- SIGNED_REPORT_READ: 0x1300.05 at offset 0 (18 R400). -/
def execSignedReportRead (o : Origin) (len : Nat) (s : State) : Host.Outcome State Fault Refusal :=
  act (fun s => s.readBy o 0x1300 5 0 len) s

/-- RECORD_READ: 0x1210+d.08 (19 R411, R413). -/
def execRecordRead (o : Origin) (die len : Nat) (s : State) : Host.Outcome State Fault Refusal :=
  act (fun s => s.readBy o (dieIndex die (0x1210 + die)) 8 0 len) s

end Sys2Proof.Machine
end

