-- ==== Sys2Proof/Machine/Mailbox.lean ====
section
/-! DEFINITION. The mailbox commands of every host link (02 R37–R48, 18 R381, R389, R393). Fields of a
completion are numbers in the order each definition lists (log 18). -/
namespace Sys2Proof.Machine

/-- A mailbox completion. -/
def State.complete (s : State) (port link rc : Nat) (fields : List Nat) : State :=
  s.emit (.mbox port link rc fields)

/-- Serve a mailbox command: nothing while the mailbox is not ready; Unsupported in the tenant realm
for a command that only the host-owner realm has (02 R39). -/
def State.mailbox (s : State) (port link : Nat) (owner : Bool) (f : State → State) : State :=
  if !s.reaches (.mailbox port link) then s
  else if owner ∧ s.realm (.mailbox port link) = .tenant then s.complete port link rcUnsupported []
  else f s

/-- The largest message: a payload of 4 KiB (02 Table 02.2). -/
def payloadBytes : Nat := 4096

/-- IDENTIFY: vendor, device, serial number, payload size (02 Table 02.2). -/
def execIdentify (port link : Nat) (s : State) : Host.Outcome State Fault Refusal :=
  act (fun s => s.mailbox port link false fun s =>
    s.complete port link rcSuccess [0x1F3A, s.build.variant.deviceId, s.build.serial, payloadBytes]) s

/-- Record UUID of a record type: that of 0x1200.01 for vendor-defined records (02 R48). -/
def EventKind.uuid : EventKind → Bytes
  | .vendor => recordUuid
  | k => Config.standardUuid k.code

/-- One event record as output fields: UUID bytes, handle, severity, count of words, words. -/
def LogRec.fields (r : LogRec) : List Nat :=
  (padTo 16 r.kind.uuid).map (·.toNat) ++ [r.handle, r.sev, r.words.length] ++ r.words.map (·.toNat)

/-- Event records that one completion carries (128-byte records behind a 32-byte header; log 18). -/
def recordsPerReply : Nat := 31

/-- GET_EVENT_RECORDS: overflow flag, more records, count, records (02 R48). -/
def execGetEventRecords (port link log : Nat) (s : State) : Host.Outcome State Fault Refusal :=
  act (fun s => s.mailbox port link false fun s =>
    if 3 < log then s.complete port link rcInvalidInput []
    else
      let g := (s.hlink port link).log log
      let l := g.recs.take recordsPerReply
      s.complete port link rcSuccess
        ([g.overflow.toNat, bit (decide (recordsPerReply < g.recs.length)), l.length] ++
          l.flatMap LogRec.fields)) s

/-- CLEAR_EVENT_RECORDS on this link only: the whole log with its overflow flag, or records by handle;
an unknown handle clears nothing (02 R48). -/
def execClearEventRecords (port link log : Nat) (all : Bool) (handles : List Nat) (s : State) :
    Host.Outcome State Fault Refusal :=
  act (fun s => s.mailbox port link false fun s =>
    let k := s.hlink port link
    let g := k.log log
    if 3 < log then s.complete port link rcInvalidInput []
    else if all then (s.setLink port link (k.setLog log noLog)).complete port link rcSuccess []
    else if handles.all fun h => g.recs.any fun r => decide (r.handle = h) then
      (s.setLink port link (k.setLog log { g with
        recs := g.recs.filter fun r => !handles.elem r.handle })).complete port link rcSuccess []
    else s.complete port link rcHandle []) s

/-- GET_EVENT_INTERRUPT_POLICY. -/
def execGetEventInterruptPolicy (port link : Nat) (s : State) : Host.Outcome State Fault Refusal :=
  act (fun s => s.mailbox port link false fun s =>
    s.complete port link rcSuccess [(s.hlink port link).policy]) s

/-- SET_EVENT_INTERRUPT_POLICY. -/
def execSetEventInterruptPolicy (port link policy : Nat) (s : State) : Host.Outcome State Fault Refusal :=
  act (fun s => s.mailbox port link false fun s =>
    (s.setLink port link { s.hlink port link with policy := policy }).complete port link rcSuccess []) s

/-- GET_FW_INFO: slots, the ACTIVE CXL slot, the slot that boots next, states of slots 1 and 2 (18 R381). -/
def execGetFwInfo (port link : Nat) (s : State) : Host.Outcome State Fault Refusal :=
  act (fun s => s.mailbox port link true fun s =>
    let no := fun o : Option Nat => match o with | some k => k + 1 | none => 0
    s.complete port link rcSuccess
      [2, no (s.slotIn 4), no (s.slotIn 3), s.slotView 0, s.slotView 1]) s

/-- The transfer that Transfer FW works on: RECEIVING, and opened by Initiate (18 R389). -/
def State.mailTransfer (s : State) : Option Transfer :=
  match s.receiving with
  | some t => if t.byDesc then none else some t
  | none => none

/-- TRANSFER_FW_INITIATE (18 R384, R389). -/
def execTransferFwInitiate (port link : Nat) (data : Bytes) (s : State) : Host.Outcome State Fault Refusal :=
  act (fun s => s.mailbox port link true fun s =>
    if payloadBytes < data.length then s.complete port link rcPayloadLength []
    else if s.receiving.isSome then s.complete port link rcTransfer []
    else if s.openBarred (mib 16) then s.complete port link rcRetry []
    else
      let s := s.openTransfer false false (mib 16) 0 []
      let s := match s.fw.transfer with
        | some t => s.placePiece t 0 data
        | none => s
      s.complete port link rcSuccess []) s

/-- TRANSFER_FW_CONTINUE: one piece, or Busy when a buffer cannot be given (18 R389). -/
def execTransferFwContinue (port link off : Nat) (data : Bytes) (s : State) :
    Host.Outcome State Fault Refusal :=
  act (fun s => s.mailbox port link true fun s =>
    if payloadBytes < data.length then s.complete port link rcPayloadLength []
    else
      match s.mailTransfer with
      | none => s.complete port link rcOrder []
      | some t =>
        if t.len < 128 * off + data.length then s.complete port link rcInvalidInput []
        else if t.fits (128 * off) data.length then
          (s.placePiece t (128 * off) data).complete port link rcSuccess []
        else s.complete port link rcBusy []) s

/-- TRANSFER_FW_END: the last piece fixes the image's length; the completion check runs without the hash
once every page is programmed (18 R388, R389). -/
def execTransferFwEnd (port link slot off : Nat) (data : Bytes) (s : State) :
    Host.Outcome State Fault Refusal :=
  act (fun s => s.mailbox port link true fun s =>
    let n := 128 * off + data.length
    if payloadBytes < data.length then s.complete port link rcPayloadLength []
    else
      match s.mailTransfer with
      | none => s.complete port link rcOrder []
      | some t =>
        if slot ≠ t.slot + 1 then s.complete port link rcSlot []
        else if n = 0 ∨ t.len < n then s.complete port link rcInvalidInput []
        else if !t.fits (128 * off) data.length then s.complete port link rcBusy []
        else
          let t : Transfer := { t with len := n, ended := true }
          let t := (t.putBytes (128 * off) data).markChunks (128 * off) data.length
          let t := t.markChunks (n - 1) 1
          (s.keepTransfer t).complete port link rcSuccess []) s

/-- ACTIVATE_FW_ONLINE: an activation for device time + 1 s with group 0 (18 R393). -/
def execActivateFwOnline (port link slot : Nat) (s : State) : Host.Outcome State Fault Refusal :=
  act (fun s => s.mailbox port link true fun s =>
    if slot = 0 ∨ 2 < slot ∨ s.slotSt (slot - 1) ≠ 2 then s.complete port link rcSlot []
    else
      let x := s.armActivation (s.aon.deviceTime + 1000000)
      if x.1 = stOk then (x.2.setReg 0x1302 2 0).complete port link rcSuccess []
      else s.complete port link rcRetry []) s

/-- ACTIVATE_FW_OFFLINE: boot pending, without a restart (18 R393). -/
def execActivateFwOffline (port link slot : Nat) (s : State) : Host.Outcome State Fault Refusal :=
  act (fun s => s.mailbox port link true fun s =>
    if slot = 0 ∨ 2 < slot ∨ s.slotSt (slot - 1) ≠ 2 then s.complete port link rcSlot []
    else s.firePending.complete port link rcSuccess []) s

/-- GET_TIMESTAMP in nanoseconds (02 R41). -/
def execGetTimestamp (port link : Nat) (s : State) : Host.Outcome State Fault Refusal :=
  act (fun s => s.mailbox port link false fun s =>
    s.complete port link rcSuccess [s.aon.deviceTime * 1000]) s

/-- A time-sync frame has been accepted within the last 10 s (02 R41, 15 R360). -/
def State.rackSynced (s : State) : Bool :=
  match s.aon.rackSyncAt with
  | some t => decide (s.aon.now - t ≤ 10000000000)
  | none => false

/-- SET_TIMESTAMP: device time, or ignored with a record after a time sync (02 R41, 14 R323). -/
def execSetTimestamp (port link ns : Nat) (s : State) : Host.Outcome State Fault Refusal :=
  act (fun s => s.mailbox port link false fun s =>
    let s := if s.rackSynced then s.report 0 cTimeIgnored 0 0 [port, link]
      else { s with aon := { s.aon with
        deviceTime := time48 (ns / 1000), slewLeft := 0, slewPhase := 0 } }.setReg 0x7300 6 1
    s.complete port link rcSuccess []) s

/-- The Command Effects Log that a link gets (02 R39; log 7). -/
def State.celOf (s : State) (port link : Nat) : Bytes :=
  Config.commandEffectsLog (decide (s.realm (.mailbox port link) = .hostOwner))

/-- GET_SUPPORTED_LOGS: one log, its size (02 Table 02.3). -/
def execGetSupportedLogs (port link : Nat) (s : State) : Host.Outcome State Fault Refusal :=
  act (fun s => s.mailbox port link false fun s =>
    s.complete port link rcSuccess [1, (s.celOf port link).length]) s

/-- GET_LOG: bytes of the Command Effects Log (02 Table 02.3). -/
def execGetLog (port link : Nat) (cel : Bool) (off len : Nat) (s : State) : Host.Outcome State Fault Refusal :=
  act (fun s => s.mailbox port link false fun s =>
    let b := s.celOf port link
    if !cel ∨ b.length < off + len ∨ payloadBytes < len then s.complete port link rcInvalidInput []
    else s.complete port link rcSuccess ((sliceOf b off len).map (·.toNat))) s

/-- Bytes of the label storage area (02 Table 02.1). -/
def lsaBytes : Nat := 131072

/-- Host-visible capacity in the unit of the mailbox fields, 256 MiB (02 R38). -/
def State.capacityField (s : State) : Nat := s.hostVisible / mib 256

/-- IDENTIFY_MEMORY_DEVICE: total, volatile-only, persistent-only capacity, partition alignment, label
storage area (02 Table 02.2). -/
def execIdentifyMemoryDevice (port link : Nat) (s : State) : Host.Outcome State Fault Refusal :=
  act (fun s => s.mailbox port link false fun s =>
    s.complete port link rcSuccess [s.capacityField, 0, s.capacityField, 0, lsaBytes]) s

/-- GET_PARTITION_INFO: active volatile, active persistent, next volatile, next persistent (02 Table 02.3). -/
def execGetPartitionInfo (port link : Nat) (s : State) : Host.Outcome State Fault Refusal :=
  act (fun s => s.mailbox port link false fun s =>
    s.complete port link rcSuccess [0, s.capacityField, 0, 0]) s

/-- SET_PARTITION_INFO is Unsupported in both realms (02 Table 02.3). -/
def execSetPartitionInfo (port link : Nat) (s : State) : Host.Outcome State Fault Refusal :=
  act (fun s => s.mailbox port link false fun s => s.complete port link rcUnsupported []) s

/-- GET_LSA. -/
def execGetLsa (port link off len : Nat) (s : State) : Host.Outcome State Fault Refusal :=
  act (fun s => s.mailbox port link true fun s =>
    if lsaBytes < off + len ∨ payloadBytes < len then s.complete port link rcInvalidInput []
    else s.complete port link rcSuccess ((Memory.bytes s.hosts.lsa off len).map (·.toNat))) s

/-- SET_LSA: written to die 0's ledger (02 Table 02.1). -/
def execSetLsa (port link off : Nat) (data : Bytes) (s : State) : Host.Outcome State Fault Refusal :=
  act (fun s => s.mailbox port link true fun s =>
    if lsaBytes < off + data.length then s.complete port link rcInvalidInput []
    else if payloadBytes < data.length then s.complete port link rcPayloadLength []
    else { s with hosts := { s.hosts with lsa := Memory.setBytes s.hosts.lsa off data } }.complete port link
      rcSuccess []) s

/-- The hottest die's temperature in tenths of a degree (02 R45). -/
def State.hottest (s : State) : Int :=
  (s.dieList.map fun d => signed32 (s.reg (0x1010 + d) 5)).foldl max (-2731)

/-- GET_HEALTH_INFO: media status, life used, temperature, maintenance needed, performance degraded,
Dirty Shutdown Count (02 R45). -/
def execGetHealthInfo (port link : Nat) (s : State) : Host.Outcome State Fault Refusal :=
  act (fun s => s.mailbox port link false fun s =>
    s.complete port link rcSuccess
      [bit s.mediaReady, (s.dieList.map s.wear).foldl max 0, raw32 s.hottest, bit s.needsMaintenance,
        bit s.isDegraded, s.hosts.dirtyShutdowns]) s

/-- GET_ALERT_CONFIG. -/
def execGetAlertConfig (port link : Nat) (s : State) : Host.Outcome State Fault Refusal :=
  act (fun s => s.mailbox port link false fun s => s.complete port link rcSuccess [s.hosts.alert]) s

/-- SET_ALERT_CONFIG, host-owner only (02 Table 02.3). -/
def execSetAlertConfig (port link cfg : Nat) (s : State) : Host.Outcome State Fault Refusal :=
  act (fun s => s.mailbox port link true fun s =>
    { s with hosts := { s.hosts with alert := cfg } }.complete port link rcSuccess []) s

/-- GET_SHUTDOWN_STATE of the port (02 R45). -/
def execGetShutdownState (port link : Nat) (s : State) : Host.Outcome State Fault Refusal :=
  act (fun s => s.mailbox port link false fun s =>
    s.complete port link rcSuccess [look 0 s.hosts.shutdown port]) s

/-- SET_SHUTDOWN_STATE of the port: kept in the ledger; the Dirty Shutdown Count does not move (02 R45). -/
def execSetShutdownState (port link st : Nat) (s : State) : Host.Outcome State Fault Refusal :=
  act (fun s => s.mailbox port link true fun s =>
    { s with hosts := { s.hosts with shutdown := put 0 s.hosts.shutdown port st } }.complete port link
      rcSuccess []) s

/-- Insert a poison-list entry by its DPA. -/
def insertEntry (e : PEntry) : List PEntry → List PEntry
  | [] => [e]
  | x :: l => if e.line ≤ x.line then e :: x :: l else x :: insertEntry e l

/-- The entries of every die in DPA order (02 R46). -/
def State.poisonEntries (s : State) : List PEntry :=
  (s.hosts.poison.flatMap (·.2)).foldl (fun l e => insertEntry e l) []

/-- Entries that one completion carries (16-byte entries behind a 32-byte header; log 18). -/
def entriesPerReply : Nat := 254

/-- GET_POISON_LIST: overflow flag, its time, more entries, count, then DPA, lines and source Injected
of each entry that meets the range (02 R46). -/
def execGetPoisonList (port link dpa len : Nat) (s : State) : Host.Outcome State Fault Refusal :=
  act (fun s => s.mailbox port link true fun s =>
    let l := s.poisonEntries.filter fun e =>
      decide (64 * e.line < dpa + len) && decide (dpa < 64 * (e.line + e.len))
    let t := l.take entriesPerReply
    s.complete port link rcSuccess
      ([bit s.hosts.poisonOverflow, s.hosts.overflowTime, bit (decide (entriesPerReply < l.length)), t.length] ++
        t.flatMap fun e => [64 * e.line, e.len, bit e.injected])) s

/-- 02 R47: poison injection is set on the port and the line lies in a LIVE tenancy on which the port has
rights. -/
def State.mayPoison (s : State) (port dpa : Nat) : Bool :=
  decide (dpa % 64 = 0) && decide (dpa < s.assignable) && decide (s.reg (ixPort port) 5 = 1) &&
    (match s.coverOf (dpa / driftBytes) with
      | some n => decide ((s.tenancy n).st = 1) && decide ((s.tenancy n).rightsOf port ≠ 0)
      | none => false)

/-- Inject and Clear Poison: a write of the line that no Cmp answers; it enters in class 3 and meets no
meter (02 R46, R47; log 18). R47 gives no return code for a port whose injection object is clear; it gets that of a
barred DPA, Invalid Input (DESIGN CHOICE, log 141). -/
def State.poisonWrite (s : State) (port link dpa : Nat) (op : ReqOp) (data : Line) : State :=
  if !s.mayPoison port dpa then s.complete port link rcInvalidInput []
  else if !s.mediaReady then s.complete port link rcRetry []
  else
    let q : Req := { s.makeReq port link 0 dpa op data fullBe with cls := 3, answered := true }
    let s : State := { s with hosts := { s.hosts with nextReq := s.hosts.nextReq + 1 } }
    (s.forward q).complete port link rcSuccess []

/-- INJECT_POISON. -/
def execInjectPoison (port link dpa : Nat) (s : State) : Host.Outcome State Fault Refusal :=
  act (fun s => s.mailbox port link true fun s => s.poisonWrite port link dpa .injectPoison 0) s

/-- CLEAR_POISON. -/
def execClearPoison (port link dpa : Nat) (data : Line) (s : State) : Host.Outcome State Fault Refusal :=
  act (fun s => s.mailbox port link true fun s => s.poisonWrite port link dpa .clearPoison data) s

/-- Dictionary Access (02 Table 02.5, R43): the tenant realm gets only reads (R39). A read whose payload is
longer than its 12 bytes of fields disagrees with no Length field that R43 gives a meaning for; it is answered
Invalid Payload Length (DESIGN CHOICE, log 142). -/
def State.dictAccess (s : State) (port link : Nat) (p : Bytes) : State :=
  let op := leAt p 0 1
  let len := leAt p 8 4
  let who : Caller := callerOf (.mailbox port link)
  if op = 1 ∧ s.realm (.mailbox port link) = .tenant then s.complete port link rcUnsupported []
  else if p.length < 12 ∨ 1 < op ∨ (op = 1 ∧ mostBytes < len) then s.complete port link rcInvalidInput []
  else if (op = 1 ∧ p.length ≠ 12 + len) ∨ (op = 0 ∧ p.length ≠ 12) then
    s.complete port link rcPayloadLength []
  else if op = 0 then s.runRead who (leAt p 2 2) (leAt p 1 1) (leAt p 4 4) len
  else s.runWrite who (leAt p 2 2) (leAt p 1 1) (leAt p 4 4) (p.drop 12)

/-- DICTIONARY_ACCESS_READ. -/
def execDictionaryAccessRead (port link : Nat) (payload : Bytes) (s : State) :
    Host.Outcome State Fault Refusal :=
  act (fun s => s.mailbox port link false fun s => s.dictAccess port link payload) s

/-- DICTIONARY_ACCESS_WRITE. -/
def execDictionaryAccessWrite (port link : Nat) (payload : Bytes) (s : State) :
    Host.Outcome State Fault Refusal :=
  act (fun s => s.mailbox port link false fun s => s.dictAccess port link payload) s

/-- What Recorder Stream has gathered: bytes, records, next sequence, gap, more. -/
structure Streamed where
  data : Bytes
  count : Nat
  next : Nat
  gap : Bool
  more : Bool
  deriving DecidableEq, Repr

/-- One die's part of a stream: nothing once an earlier die has more than fits (02 Table 02.6). -/
def State.streamDie (s : State) (d start room : Nat) (oldest : Bool) (x : Streamed) : Streamed :=
  if x.more then x
  else
    let r := s.recorder d
    let y := r.readFrom .hostOwner (if oldest then r.oldest else start) (room - x.data.length)
    { data := x.data ++ y.data, count := x.count + y.count, next := y.next, gap := x.gap || y.gap, more := y.more }

/-- Recorder Stream (02 Table 02.6, 19 R411). With all dies the start sequence is die 0's, and the later
dies are read from their oldest record (log 18). -/
def State.recorderStream (s : State) (port link : Nat) (p : Bytes) : State :=
  let die := leAt p 0 1
  let oldest := bitOf (leAt p 1 1) 0
  let start := leAt p 4 4
  let room := leAt p 8 2
  if p.length ≠ 10 then s.complete port link rcPayloadLength []
  else if 4088 < room ∨ (7 < die ∧ die ≠ 0xFF) then s.complete port link rcInvalidInput []
  else if die ≠ 0xFF ∧ s.n ≤ die then s.emit (.stream port link stNoObject 0 0 0 [])
  else
    let x0 : Streamed := { data := [], count := 0, next := start, gap := false, more := false }
    let x := if die = 0xFF then
        s.dieList.foldl (fun (x : Streamed) d => s.streamDie d start room (oldest || decide (0 < d)) x) x0
      else s.streamDie die start room oldest x0
    s.emit (.stream port link stOk x.count (bit x.gap + 2 * bit x.more) x.next x.data)

/-- RECORDER_STREAM, host-owner only. -/
def execRecorderStream (port link : Nat) (payload : Bytes) (s : State) : Host.Outcome State Fault Refusal :=
  act (fun s => s.mailbox port link true fun s => s.recorderStream port link payload) s

/-- UNSUPPORTED_OPCODE (02 R39). -/
def execUnsupportedOpcode (port link _opcode : Nat) (s : State) : Host.Outcome State Fault Refusal :=
  act (fun s => s.mailbox port link false fun s => s.complete port link rcUnsupported []) s

end Sys2Proof.Machine
end

