-- ==== Sys2Proof/Machine/Spdm.lean ====
section
/-! DEFINITION. The DOE mailbox of every host link: CDAT through Table Access, and SPDM with IDE_KM
(02 R49–R52, 18 R398, R399). Message and error codes are those of SPDM 1.2 (PRESUMED, log 19). -/
namespace Sys2Proof.Machine

/-- SPDM response codes and error codes (log 19). -/
def spVersion : Nat := 0x04
def spCapabilities : Nat := 0x61
def spAlgorithms : Nat := 0x63
def spDigests : Nat := 0x01
def spCertificate : Nat := 0x02
def spChallengeAuth : Nat := 0x03
def spMeasurements : Nat := 0x60
def spKeyExchange : Nat := 0x64
def spFinish : Nat := 0x65
def spHeartbeat : Nat := 0x68
def spKeyUpdate : Nat := 0x69
def spEndSession : Nat := 0x6C
def spVendor : Nat := 0x7E
def spError : Nat := 0x7F
def seInvalid : Nat := 0x01
def seUnexpected : Nat := 0x04
def seDecrypt : Nat := 0x06

/-- A link's DOE mailbox is served: the link is up and its port not held off (18 R399; log 19). -/
def State.doeOn (s : State) (port link : Nat) : Bool :=
  decide ((s.hlink port link).st = 2) && !s.hosts.stopped

/-- Serve a DOE request. -/
def State.doe (s : State) (port link : Nat) (f : State → State) : State :=
  if s.doeOn port link then f s else s

/-- An SPDM answer, and an SPDM ERROR. -/
def State.spdmSay (s : State) (port link code : Nat) (fields : List Nat) : State :=
  s.emit (.doe port link code fields)
def State.spdmError (s : State) (port link err : Nat) : State := s.spdmSay port link spError [err]

def State.setSpdm (s : State) (port link : Nat) (x : Spdm) : State :=
  s.setLink port link { s.hlink port link with spdm := x }

/-- A tenancy placed by its base into a list that rises. -/
def insertByBase (t : Tenancy) : List Tenancy → List Tenancy
  | [] => [t]
  | u :: l => if t.base ≤ u.base then t :: u :: l else u :: insertByBase t l

/-- Tenancies that a port's CDAT lists: LIVE ones on which it has rights, in DPA order (02 R49). -/
def State.cdatTens (s : State) (port : Nat) : List Tenancy :=
  let l := (s.ten.table.map (·.2)).filter fun t => decide (t.st = 1) && decide (t.rightsOf port ≠ 0)
  l.foldr insertByBase []

/-- Payload rate of a link in bytes per second (02 Table 02.1: 210 GB/s at 16 lanes and 128 GT/s). -/
def HLink.payloadRate (k : HLink) : Nat := 210000000000 * k.width * k.speed / 2048

/-- The largest hop count from a port's die to the dies that hold part of a tenancy (02 R50). -/
def State.farthest (s : State) (port : Nat) (t : Tenancy) : Nat :=
  (s.diesOfRange t.base t.limit).foldl (fun m d => max m (s.hops (dieOfPort port) d)) 0

/-- 02 Table 02.8: latency published for a tenancy on a port. -/
def State.cdatLatency (s : State) (port : Nat) (t : Tenancy) : Nat :=
  let c := t.classOf port
  if c = 0 then Config.class0Bound (s.farthest port t)
  else if c = 3 then 10000
  else s.reg (0x5010 + port) c

/-- 02 Table 02.8: bandwidth published. -/
def cdatBandwidth (k : HLink) (c : Nat) : Nat := if c = 0 then k.payloadRate / 4 else k.payloadRate

/-- An entry of a link's CDAT: entry 0 gives the number of DSMAS entries; then for each handle its
DSMAS, read latency, write latency, read bandwidth and write bandwidth; no fields beyond the last
(02 R49–R51). -/
def State.cdatEntry (s : State) (port link entry : Nat) : List Nat :=
  let l := s.cdatTens port
  if entry = 0 then [l.length]
  else
    let h := (entry - 1) / 5
    match l[h]? with
    | none => []
    | some t =>
      let bw := cdatBandwidth (s.hlink port link) (t.classOf port)
      match (entry - 1) % 5 with
      | 0 => [h, t.base * driftBytes, (t.limit - t.base) * driftBytes, bit (decide (t.mode ≠ 2))]
      | 1 => [h, if s.freeze.thaw = 4 then 1400000 else s.cdatLatency port t]
      | 2 => [h, s.cdatLatency port t]
      | _ => [h, bw]

/-- TABLE_ACCESS. -/
def execTableAccess (port link entry : Nat) (s : State) : Host.Outcome State Fault Refusal :=
  act (fun s => s.doe port link fun s => s.emit (.cdat port link (s.cdatEntry port link entry))) s

/-- Serve a request that needs a stage of the SPDM connection; earlier it is unexpected. -/
def State.spdmAt (s : State) (port link stage : Nat) (f : State → State) : State :=
  s.doe port link fun s =>
    if (s.hlink port link).spdm.stage < stage then s.spdmError port link seUnexpected else f s

/-- A request that names a certificate slot: slot 0 alone exists (18 Table 18.7). -/
def State.spdmSlot (s : State) (port link slot : Nat) (f : State → State) : State :=
  s.spdmAt port link 3 fun s => if slot ≠ 0 then s.spdmError port link seInvalid else f s

/-- Serve a request inside an established session. -/
def State.spdmIn (s : State) (port link : Nat) (f : Spdm → State → State) : State :=
  s.spdmAt port link 3 fun s =>
    let x := (s.hlink port link).spdm
    if x.session then f x s else s.spdmError port link seUnexpected

/-- GET_VERSION: versions 1.1 and 1.2; the connection starts anew (18 Table 18.7). -/
def execGetVersion (port link : Nat) (s : State) : Host.Outcome State Fault Refusal :=
  act (fun s => s.doe port link fun s =>
    (s.setSpdm port link { noSpdm with stage := 1 }).spdmSay port link spVersion [0x11, 0x12]) s

/-- GET_CAPABILITIES: certificates, challenge, signed measurements, encryption, MAC, key exchange,
heartbeat and key update (18 Table 18.7). -/
def execGetCapabilities (port link : Nat) (s : State) : Host.Outcome State Fault Refusal :=
  act (fun s => s.spdmAt port link 1 fun s =>
    let x := (s.hlink port link).spdm
    (s.setSpdm port link { x with stage := max 2 x.stage }).spdmSay port link spCapabilities
      [1, 1, 1, 1, 1, 1, 1, 1]) s

/-- NEGOTIATE_ALGORITHMS: the one set supported, when the requester offers all of it
(18 Table 18.7). -/
def execNegotiateAlgorithms (port link algs : Nat) (s : State) : Host.Outcome State Fault Refusal :=
  act (fun s => s.spdmAt port link 2 fun s =>
    if algs % 16 = 15 then
      (s.setSpdm port link { (s.hlink port link).spdm with stage := 3 }).spdmSay port link spAlgorithms [15]
    else s.spdmError port link seInvalid) s

/-- Digest of the certificate chain of slot 0. -/
def chainDigest : Nat := (Config.sha384 Config.certChain).toNat

/-- GET_DIGESTS: slot mask and the digest of slot 0. -/
def execGetDigests (port link : Nat) (s : State) : Host.Outcome State Fault Refusal :=
  act (fun s => s.spdmAt port link 3 fun s => s.spdmSay port link spDigests [1, chainDigest]) s

/-- GET_CERTIFICATE: a portion of slot 0's chain: its length, what remains, its bytes. -/
def execGetCertificate (port link slot off len : Nat) (s : State) : Host.Outcome State Fault Refusal :=
  act (fun s => s.spdmSlot port link slot fun s =>
    let c := Config.certChain
    if c.length < off then s.spdmError port link seInvalid
    else
      let b := sliceOf c off len
      s.spdmSay port link spCertificate
        ([b.length, c.length - off - b.length] ++ b.map (·.toNat))) s

/-- A signature by the attestation key over the SHA-384 of bytes, as one number (18 R399). -/
def signed (b : Bytes) : Nat := leNat (Config.attest (Config.sha384 b))

/-- Measurement blocks 1 to 10 are slots 0 to 9 (18 R398). -/
def State.measurement (s : State) (m : Nat) : BitVec 384 := look 0 s.fw.digests m

/-- The digests that a measurement index names: all of them, one, or none. -/
def State.measuredDigests (s : State) (index : Nat) : List (BitVec 384) :=
  if index = 0xFF then (List.range 10).map s.measurement
  else if 1 ≤ index ∧ index ≤ 10 then [s.measurement (index - 1)]
  else []

/-- Digests as the bytes that a signature covers, with the requester's nonce behind them. -/
def signedForm (l : List (BitVec 384)) (nonce : Nat) : Bytes := l.flatMap digestBytes ++ leBytes 32 nonce

/-- CHALLENGE: chain digest, measurements, nonce, signature. -/
def execChallenge (port link slot nonce : Nat) (s : State) : Host.Outcome State Fault Refusal :=
  act (fun s => s.spdmSlot port link slot fun s =>
    s.spdmSay port link spChallengeAuth
      [chainDigest, nonce,
        signed (digestBytes (Config.sha384 Config.certChain) ++ signedForm (s.measuredDigests 0xFF) nonce)]) s

/-- GET_MEASUREMENTS: the count of blocks, one block or every block, always as digests, signed with the
nonce (18 R398, Table 18.7). -/
def execGetMeasurements (port link index nonce : Nat) (_raw : Bool) (s : State) :
    Host.Outcome State Fault Refusal :=
  act (fun s => s.spdmAt port link 3 fun s =>
    let l := s.measuredDigests index
    if index ≠ 0 ∧ l.isEmpty then s.spdmError port link seInvalid
    else
      s.spdmSay port link spMeasurements
        ([if index = 0 then 10 else l.length] ++ l.map (·.toNat) ++ [nonce, signed (signedForm l nonce)])) s

/-- KEY_EXCHANGE: the handshake of a session begins; one session at a time (18 R399). -/
def execKeyExchange (port link slot nonce : Nat) (s : State) : Host.Outcome State Fault Refusal :=
  act (fun s => s.spdmSlot port link slot fun s =>
    let x := (s.hlink port link).spdm
    (s.setSpdm port link { x with handshake := true, session := false, updates := 0 }).spdmSay port link
      spKeyExchange [nonce, signed (signedForm [] nonce)]) s

/-- FINISH: the session stands when the requester's finish verifies, or the handshake is void. -/
def execFinish (port link : Nat) (verified : Bool) (s : State) : Host.Outcome State Fault Refusal :=
  act (fun s => s.spdmAt port link 3 fun s =>
    let x := (s.hlink port link).spdm
    if !x.handshake then s.spdmError port link seUnexpected
    else if verified then
      (s.setSpdm port link { x with handshake := false, session := true }).spdmSay port link spFinish []
    else (s.setSpdm port link { x with handshake := false }).spdmError port link seDecrypt) s

/-- HEARTBEAT. -/
def execHeartbeat (port link : Nat) (s : State) : Host.Outcome State Fault Refusal :=
  act (fun s => s.spdmIn port link fun _ s => s.spdmSay port link spHeartbeat []) s

/-- KEY_UPDATE. -/
def execKeyUpdate (port link : Nat) (s : State) : Host.Outcome State Fault Refusal :=
  act (fun s => s.spdmIn port link fun x s =>
    (s.setSpdm port link { x with updates := x.updates + 1 }).spdmSay port link spKeyUpdate []) s

/-- END_SESSION. -/
def execEndSession (port link : Nat) (s : State) : Host.Outcome State Fault Refusal :=
  act (fun s => s.spdmIn port link fun x s =>
    (s.setSpdm port link { x with session := false, updates := 0 }).spdmSay port link spEndSession []) s

/-- An IDE_KM message on the link's stream (02 R52): the link's IDE is established by K_SET_GO once keys
are programmed, and a record says so (02 Table 02.10). One that K_SET_STOP ends is an IDE change too (Table 02.7); Table
02.10 has no severity for it, and it is Informational (DESIGN CHOICE, log 180). -/
def State.ideStep (s : State) (port link : Nat) : IdeKm → State
  | .query => s
  | .keyProg => s.setLink port link { s.hlink port link with ideKeyed := true }
  | .kSetGo =>
    let k := s.hlink port link
    if k.ideKeyed ∧ k.ideUp = false then
      (s.setLink port link { k with ideUp := true, rekeyDue := false }).report (dieOfPort port) cIdeUp 0 0 [port, link]
    else s
  | .kSetStop =>
    let k := s.hlink port link
    let t := s.setLink port link { k with ideUp := false, ideKeyed := false }
    if k.ideUp then t.report (dieOfPort port) cIdeStop 0 0 [port, link] else t

/-- IDE_KM: one selective stream in containment mode, inside a session. The answer gives the streams,
keys programmed, stream established. -/
def execIdeKm (port link : Nat) (msg : IdeKm) (s : State) : Host.Outcome State Fault Refusal :=
  act (fun s => s.spdmIn port link fun _ s =>
    let s := s.ideStep port link msg
    let k := s.hlink port link
    s.spdmSay port link spVendor [1, k.ideKeyed.toNat, k.ideUp.toNat]) s

end Sys2Proof.Machine
end

