-- ==== Sys2Proof/Machine/FieldBus.lean ====
section
/-! DEFINITION. The field bus: the CAN controller's error confinement, ODP frames, sessions, segmented
transfers, firmware chunks and time synchronisation (15 R347–R362, 18 R386, R387). -/
namespace Sys2Proof.Machine

/-- 15 R349: error-passive while a counter of the standard exceeds 127. -/
def State.confine (s : State) : State :=
  if s.busOn then
    { s with bus := { s.bus with
        st := if 127 < s.reg 0x1100 3 ∨ 127 < s.reg 0x1100 4 then 2 else 1 } }
  else s

/-- The controller takes part: bus and domain 7 of die 0 have power and the node is not bus-off. -/
def State.busLive (s : State) : Bool := s.busOn && s.sidebandOn

/-- A frame received without error lowers the receive error counter, by the standard (15 R349). -/
def State.heard (s : State) : State :=
  let v := s.reg 0x1100 4
  (s.setReg 0x1100 4 (if v ≤ 127 then v - 1 else 127)).confine

/-- A frame sent lowers the transmit error counter, by the standard (15 R349). -/
def State.spoke (s : State) : State := (s.setReg 0x1100 3 (s.reg 0x1100 3 - 1)).confine

/-- A minute has passed since a stamp, or there is none. -/
def State.minuteSince (s : State) (at_ : Option Nat) : Bool :=
  match at_ with
  | some t => decide (60000000000 ≤ s.aon.now - t)
  | none => true

/-- 15 R350: a frame whose source is the own node number: ignored, counted, reported once per minute. -/
def State.ownFrame (s : State) : State :=
  let s := s.inc 0x1100 8
  if s.minuteSince s.bus.ownAt then
    { s with bus := { s.bus with ownAt := some s.aon.now } }.report 0 cOwnNode 1 0 [s.build.node]
  else s

/-- 15 R350: a frame that is ignored. -/
def State.ignoreFrame (s : State) : State := s.inc 0x1100 6

/-- An ODP frame reaches die 0's firmware from another node. -/
def State.onFrame (s : State) (src : Nat) (f : State → State) : State :=
  if !s.busLive then s
  else if src = s.build.node then s.heard.ownFrame
  else if s.heard.reaches (.fieldBus { prio := 0, src := src, tag := 0 } 31) then f s.heard
  else s.heard

/-- A time-sync frame: lost during a management restart (15 R360). -/
def State.onTimeFrame (s : State) (f : State → State) : State :=
  if !s.busLive then s else if s.mgmt.ready then f s.heard else s.heard

/-- A response of a service on a session or plain. -/
def State.answerSvc (s : State) (h : OdpHead) (svc sid : Nat) (payload : Bytes) : State :=
  let f := s.respFrame h svc sid payload
  f.2.sendFrame f.1

/-- 15 R356: a frame that matches no counter: dropped and counted; eight in succession close the
session. -/
def State.macMiss (s : State) (sid : Nat) : State :=
  let s := s.inc 0x1100 7
  let x := s.session sid
  if 8 ≤ x.fails + 1 then s.closeSession sid else s.setSession sid { x with fails := x.fails + 1 }

/-- The session is open to a node. -/
def State.openTo (s : State) (sid node : Nat) : Bool :=
  decide (sid < 4) && (s.session sid).isOpen && decide ((s.session sid).node = node)

/-- A request frame of another node, as its MAC covers it (15 Tables 15.5, 15.7 and 15.8; log 182). -/
def State.reqFrame (s : State) (h : OdpHead) (svc sid : Nat) (payload : Bytes) : TxFrame :=
  { respBare h svc sid payload with dst := s.build.node, src := h.src, rsp := false }

/-- A frame with its number in a segmented transfer. -/
def TxFrame.inSegment (f : TxFrame) (seqNo : Nat) (last : Bool) : TxFrame := { f with seg := true, seqNo := seqNo, last := last }

/-- The counter of a received session frame: the first of the next four under which its MAC matches (15 R356). -/
def State.ctrOf (s : State) (sid : Nat) (f : TxFrame) (mac : BitVec 64) : Option Nat :=
  let x := s.session sid
  ((List.range 4).map (x.rxCtr + 1 + ·)).find? fun c => decide (c ≤ lastCtr) && decide (f.macOf x.ks c = mac)

/-- A session frame (15 R356): one that names no open session ends SESSION, a violation (R346), answered
as `closed` says; one whose MAC matches none of the next four counters is dropped; else the frame is accepted, and the
largest counter closes the session. -/
def State.onSession (s : State) (h : OdpHead) (sid : Nat) (f : TxFrame) (mac : BitVec 64) (idx sub : Nat)
    (closed k : State → State) : State :=
  s.onFrame h.src fun s =>
    if !s.openTo sid h.src then closed (s.dictViolation (.fieldBus h sid) idx sub)
    else
      match s.ctrOf sid f mac with
      | none => s.macMiss sid
      | some ctr =>
        let x := s.session sid
        let s := k (s.setSession sid { x with
          rxCtr := ctr, fails := 0, accepted := min u32max (x.accepted + 1), lastAt := s.aon.now })
        if lastCtr ≤ ctr then s.closeSession sid else s

/-- Who asks, on a session or none. -/
def busCaller (h : OdpHead) (sid : Nat) : Caller := { origin := .fieldBus h sid, head := h }

/-- The session carries a segmented transfer (15 R357). -/
def State.sessionBusy (s : State) (sid : Nat) : Bool := s.bus.segments.any fun g => decide (g.sid = sid)

/-- READ: a public object without a session (15 R353). -/
def execOdpRead (h : OdpHead) (idx sub off : Nat) (s : State) : Host.Outcome State Fault Refusal :=
  act (fun s => s.onFrame h.src fun s => s.runRead (busCaller h 31) idx sub off mostBytes) s

/-- A key of 32 bytes from the rack key and a message: the tags under the prefixes 1 and 2 (15 R355, R360). -/
def keyFrom (kr : BitVec 256) (m : Bytes) : BitVec 256 :=
  let k := leBytes 32 kr.toNat
  Config.aesCmac k (2 :: m) ++ Config.aesCmac k (1 :: m)

/-- Session key of 15 R355: "ODPS", both nonces and both nodes. -/
def sessionKey (kr : BitVec 256) (nr nd : BitVec 128) (node own : Nat) : BitVec 256 :=
  keyFrom kr ([0x4F, 0x44, 0x50, 0x53] ++ leBytes 16 nr.toNat ++ leBytes 16 nd.toNat ++ leBytes 1 node ++ leBytes 1 own)

/-- Time key of 15 R360: "ODPT". -/
def timeKey (kr : BitVec 256) : BitVec 256 := keyFrom kr [0x4F, 0x44, 0x50, 0x54]

/-- Payload of an OPEN response (15 Table 15.8). -/
def openBytes (status : Nat) (nd : BitVec 128) : Bytes :=
  leBytes 2 status ++ leBytes 2 0 ++ leBytes 16 nd.toNat

/-- A refused OPEN: REFUSED at the response slot, the reason in a record of the rack realm (03 R81,
15 R355). -/
def State.refuseOpen (s : State) (h : OdpHead) (reason : Nat) : State :=
  (s.slotFrame (respBare h 2 31 (openBytes stRefused 0))).report 0 cRefusal 0 (Realm.vis .rack)
    [reason, h.src]

/-- The session that an OPEN takes: the lowest that is closed, the node's own having been closed. -/
def State.freeSession (s : State) : Option Nat := (List.range 4).find? fun k => !(s.session k).isOpen

/-- Close the sessions that a node holds. -/
def State.closeOf (s : State) (node : Nat) : State :=
  (List.range 4).foldl (fun (t : State) k => if t.openTo k node then t.closeSession k else t) s

/-- OPEN (15 R355). -/
def execOdpOpen (h : OdpHead) (nr : BitVec 128) (s : State) : Host.Outcome State Fault Refusal :=
  act (fun s => s.onFrame h.src fun s =>
    match s.bus.rackKey with
    | none => s.refuseOpen h 16
    | some kr =>
      let s := s.closeOf h.src
      match s.freeSession with
      | none => s.refuseOpen h 17
      | some k =>
        let d := s.draw
        let nd := BitVec.ofNat 128 d.1
        let s : State := d.2
        let ks := sessionKey kr nr nd h.src s.build.node
        let s := s.setSession k { noSession with
          isOpen := true, node := h.src, openedAt := s.aon.deviceTime, lastAt := s.aon.now, ks := ks }
        s.slotFrame (TxFrame.sign { respBare h 2 k (openBytes stOk nd) with src := s.build.node } ks 0)) s

/-- Request frames of the session services (15 Table 15.8). -/
def State.closeFrame (s : State) (h : OdpHead) (sid : Nat) : TxFrame := s.reqFrame h 3 sid (leBytes 2 0)
def State.sreadFrame (s : State) (h : OdpHead) (sid idx sub off : Nat) : TxFrame :=
  s.reqFrame h 4 sid (leBytes 2 idx ++ leBytes 1 sub ++ leBytes 1 0 ++ leBytes 4 off)
def State.swriteFrame (s : State) (h : OdpHead) (sid idx sub off total : Nat) (data : Bytes) (seg : Bool) : TxFrame :=
  { s.reqFrame h 5 sid (leBytes 2 idx ++ leBytes 1 sub ++ leBytes 1 0 ++ leBytes 4 off ++ leBytes 4 total ++ data) with
    seg := seg }
def State.segmentFrame (s : State) (h : OdpHead) (sid seqNo : Nat) (last : Bool) (data : Bytes) : TxFrame :=
  (s.reqFrame h 5 sid data).inSegment seqNo last
def State.flowFrame (s : State) (h : OdpHead) (sid seqNo : Nat) : TxFrame :=
  (s.reqFrame h 6 sid (leBytes 2 0)).inSegment seqNo false
def State.chunkFrame (s : State) (h : OdpHead) (sid num : Nat) (data : Bytes) : TxFrame :=
  s.reqFrame h 7 sid (leBytes 4 num ++ data)
def State.pollFrame (s : State) (h : OdpHead) (sid : Nat) : TxFrame := s.reqFrame h 7 sid []

/-- CLOSE (15 R357). -/
def execOdpClose (h : OdpHead) (sid : Nat) (mac : BitVec 64) (s : State) : Host.Outcome State Fault Refusal :=
  act (fun s => s.onSession h sid (s.closeFrame h sid) mac 0 0
    (fun s => s.answerSvc h 3 sid (leBytes 2 stSession))
    (fun s => (s.answerSvc h 3 sid (leBytes 2 stOk)).closeSession sid)) s

/-- SREAD (15 R354). -/
def execSread (h : OdpHead) (sid : Nat) (mac : BitVec 64) (idx sub off : Nat) (s : State) :
    Host.Outcome State Fault Refusal :=
  act (fun s => s.onSession h sid (s.sreadFrame h sid idx sub off) mac idx sub
    (fun s => s.answerRead (busCaller h sid) stSession 0 [])
    (fun s =>
      if s.sessionBusy sid then s.answerRead (busCaller h sid) stBusy 0 []
      else s.runRead (busCaller h sid) idx sub off mostBytes)) s

/-- An SWRITE answered by a status alone. -/
def State.endWrite (s : State) (h : OdpHead) (sid idx sub status : Nat) : State :=
  s.answerWrite (busCaller h sid) (slottedIndex idx sub) status 0 0

/-- A segmented write begins (15 R359). -/
def State.beginSegment (s : State) (h : OdpHead) (sid idx sub off total : Nat) (data : Bytes) : State :=
  let g : Segment :=
    { num := s.bus.nextSeg, sid := sid, head := h, rx := true, idx := idx, sub := sub, off := off
      total := total, data := data, next := 1, paused := false, lastAt := s.aon.now }
  { s with bus := { s.bus with segments := s.bus.segments ++ [g], nextSeg := s.bus.nextSeg + 1 } }

/-- Data bytes of an SWRITE's first frame, and of a later segment of a session (15 Table 15.8). -/
def firstRoom : Nat := 40
def laterRoom : Nat := 52

/-- SWRITE: a whole write in one frame, or the first frame of a segmented one (15 R354, R359). -/
def execSwrite (h : OdpHead) (sid : Nat) (mac : BitVec 64) (idx sub off total : Nat) (data : Bytes) (seg : Bool)
    (s : State) : Host.Outcome State Fault Refusal :=
  act (fun s =>
    if firstRoom < data.length then s.onFrame h.src State.ignoreFrame
    else
      s.onSession h sid (s.swriteFrame h sid idx sub off total data seg) mac idx sub
        (fun s => s.answerSvc h 5 sid (writeRespBytes stSession 0))
        (fun s =>
          if s.sessionBusy sid ∨ (seg = true ∧ s.segmentsFull sid = true) then
            s.endWrite h sid idx sub stBusy
          else if mostBytes < total ∨ (seg = false ∧ total ≠ data.length) then
            s.wrongLength (busCaller h sid) idx sub
          else if seg then s.beginSegment h sid idx sub off total data
          else s.runWrite (busCaller h sid) idx sub off data)) s

/-- Take a segmented transfer out of the table; put one back. -/
def State.dropSegment (s : State) (num : Nat) : State :=
  { s with bus := { s.bus with segments := s.bus.segments.filter fun g => decide (g.num ≠ num) } }
def State.keepSegment (s : State) (g : Segment) : State :=
  { s with bus := { s.bus with
      segments := s.bus.segments.map fun x => if x.num = g.num then g else x } }

/-- 15 R359: an abandoned transfer: SEQUENCE where the SW74 receives, dropped and counted where it
sends. -/
def State.abandon (s : State) (g : Segment) : State :=
  let s := s.dropSegment g.num
  if g.rx then s.endWrite g.head g.sid g.idx g.sub stSequence else s.inc 0x1100 9

/-- FLOW: the sender's transfer whose last batch is acknowledged goes on (15 R359). -/
def State.takeFlow (s : State) (h : OdpHead) (sid seqNo : Nat) : State :=
  match s.bus.segments.find? fun g =>
    !g.rx && decide (g.sid = sid) && decide (g.head.src = h.src) && decide (g.head.tag = h.tag) with
  | none => s.ignoreFrame
  | some g =>
    if seqNo + 1 ≠ g.next then s.abandon g
    else if g.data.isEmpty then s.dropSegment g.num
    else
      let x := s.sendSegment { g with paused := false } 16
      x.2.keepSegment x.1

/-- FLOW, in a session or plain as the transfer it paces. -/
def execFlow (h : OdpHead) (sid : Nat) (mac : BitVec 64) (seqNo : Nat) (s : State) : Host.Outcome State Fault Refusal :=
  act (fun s =>
    if sid < 4 then
      s.onSession h sid (s.flowFrame h sid seqNo) mac 0 0 (fun s => s.answerSvc h 6 sid (leBytes 2 stSession))
        (fun s => s.takeFlow h sid seqNo)
    else s.onFrame h.src fun s => s.takeFlow h sid seqNo) s

/-- The SW74's FLOW of a transfer it receives: the SEQ of the last frame taken (15 R359, Table 15.8). -/
def State.sendFlow (s : State) (g : Segment) (seqNo : Nat) : State :=
  let f := s.segFrame g.head 6 g.sid (leBytes 2 stOk) seqNo false
  f.2.sendFrame f.1

/-- A later segment of the write that a session carries (15 R359). -/
def State.takeSegment (s : State) (sid seqNo : Nat) (last : Bool) (data : Bytes) : State :=
  match s.bus.segments.find? fun g => g.rx && decide (g.sid = sid) with
  | none => s.ignoreFrame
  | some g =>
    if seqNo ≠ g.next then s.abandon g
    else
      let g : Segment := { g with data := g.data ++ data, next := seqNo + 1, lastAt := s.aon.now }
      let s := if last = true ∨ (seqNo + 1) % 16 = 0 then s.sendFlow g seqNo else s
      if last then
        let s := s.dropSegment g.num
        if g.data.length = g.total then s.runWrite (busCaller g.head sid) g.idx g.sub g.off g.data
        else s.wrongLength (busCaller g.head sid) g.idx g.sub
      else s.keepSegment g

/-- SEGMENT_FRAME. -/
def execSegmentFrame (h : OdpHead) (sid : Nat) (mac : BitVec 64) (seqNo : Nat) (last : Bool) (data : Bytes) (s : State) :
    Host.Outcome State Fault Refusal :=
  act (fun s =>
    if laterRoom < data.length then s.onFrame h.src State.ignoreFrame
    else
      s.onSession h sid (s.segmentFrame h sid seqNo last data) mac 0 0
        (fun s => s.answerSvc h 5 sid (writeRespBytes stSession 0))
        (fun s => s.takeSegment sid seqNo last data)) s

/-- A transfer has had no frame for more than 100 ms, or no FLOW for 500 ms (15 R359). -/
def State.segmentLate (s : State) (g : Segment) : Bool :=
  if g.rx then decide (100000000 < s.aon.now - g.lastAt) else decide (500000000 ≤ s.aon.now - g.lastAt)

/-- SEGMENT_TIMEOUT: the transfer of a number is abandoned once it is late (15 R359). -/
def execSegmentTimeout (id : Nat) (s : State) : Host.Outcome State Fault Refusal :=
  act (fun s =>
    match s.bus.segments.find? fun g => decide (g.num = id) with
    | some g => if s.segmentLate g then s.abandon g else s
    | none => s) s

/-- The transfer that field-bus chunks fill: RECEIVING and opened from the field bus (18 R387). -/
def State.busTransfer (s : State) : Option Transfer :=
  match s.receiving with
  | some t => if t.onBus then some t else none
  | none => none

/-- A chunk with no place to go: dropped, counted, and the next poll answers STATE (18 R387). -/
def State.badChunk (s : State) (sid : Nat) : State :=
  (s.setSession sid { s.session sid with chunkBad := true }).inc 0x1100 6

/-- A data chunk of an accepted frame (18 R386, R387). -/
def State.takeChunk (s : State) (sid num : Nat) (data : Bytes) : State :=
  match s.busTransfer with
  | none => s.badChunk sid
  | some t =>
    if t.count ≤ num then s.badChunk sid
    else if data.length ≠ min chunkBytes (t.len - chunkBytes * num) then s.ignoreFrame
    else if s.bus.tokens = 0 then s.inc 0x1301 6
    else { s with bus := { s.bus with tokens := s.bus.tokens - 1 } }.placeChunk num data

/-- CHUNK: never answered (18 R387). -/
def execChunk (h : OdpHead) (sid : Nat) (mac : BitVec 64) (num : Nat) (data : Bytes) (s : State) :
    Host.Outcome State Fault Refusal :=
  act (fun s => s.onSession h sid (s.chunkFrame h sid num data) mac 0 0 (fun s => s) (fun s => s.takeChunk sid num data)) s

/-- The lowest number of a rising list's gaps, from a number on. -/
def lowestGap : Nat → List Nat → Nat
  | n, [] => n
  | n, x :: l => if x = n then lowestGap (n + 1) l else n

/-- Payload of a progress poll's answer (18 R387). -/
def State.pollBytes (s : State) (status : Nat) : Bytes :=
  let done : Nat × Nat := match s.fw.transfer with
    | some t =>
      let g := lowestGap 0 t.chunks
      (t.chunks.length, if g < t.count then g else u32max)
    | none => (0, u32max)
  leBytes 2 status ++ leBytes 2 0 ++ leBytes 4 done.1 ++ leBytes 4 done.2

/-- CHUNK_PROGRESS_POLL (18 R387). -/
def execChunkProgressPoll (h : OdpHead) (sid : Nat) (mac : BitVec 64) (s : State) : Host.Outcome State Fault Refusal :=
  act (fun s => s.onSession h sid (s.pollFrame h sid) mac 0 0
    (fun s => s.answerSvc h 7 sid (s.pollBytes stSession))
    (fun s =>
      if s.sessionBusy sid then s.answerSvc h 7 sid (s.pollBytes stBusy)
      else
        let x := s.session sid
        (s.setSession sid { x with chunkBad := false }).answerSvc h 7 sid
          (s.pollBytes (if x.chunkBad then stState else stOk)))) s

/-- CHUNK_TOKEN_REFILL: depth 16 (18 R386). -/
def execChunkTokenRefill (s : State) : Host.Outcome State Fault Refusal :=
  act (fun s => { s with bus := { s.bus with tokens := min 16 (s.bus.tokens + 1) } }) s

/-- Latched SYNCs of the last 2 s (15 R360). -/
def State.recentSyncs (s : State) : List (Nat × Nat × Nat) :=
  s.bus.syncs.filter fun e => decide (s.aon.now - e.2.2 ≤ 2000000000)

/-- SYNC: device time is latched at its start of frame. -/
def execSync (num : Nat) (s : State) : Host.Outcome State Fault Refusal :=
  act (fun s => s.onTimeFrame fun s =>
    { s with bus := { s.bus with
        syncs := (num, s.aon.deviceTime, s.aon.now) ::
          s.recentSyncs.filter fun e => decide (e.1 ≠ num) } }) s

/-- 15 R360: an accepted rack time: a small offset is slewed out, another is stepped and recorded. -/
def State.applyRackTime (s : State) (rack : Nat) (o : Int) : State :=
  let s := (((s.setReg 0x1102 1 rack).setReg 0x1102 2 (raw32 o)).inc 0x1102 3).setReg 0x7300 6 1
  if -1000 < o ∧ o < 1000 then
    { s with aon := { s.aon with slewLeft := o, rackSyncAt := some s.aon.now } }
  else
    { s with aon := { s.aon with
        deviceTime := time48 ((s.aon.deviceTime : Int) + o).toNat, slewLeft := 0
        rackSyncAt := some s.aon.now } }.report 0 cTimeStep 0 0 [raw32 o]

/-- A FOLLOW frame: broadcast, with no session, a sync number and a rack time (15 Tables 15.6 and 15.8). -/
def followFrame (h : OdpHead) (x : SyncTime) : TxFrame :=
  { respBare h 9 31 (leBytes 2 x.num ++ leBytes 6 x.rackTime) with dst := 0, src := h.src, rsp := false }

/-- A FOLLOW's MAC verifies under the time key, with the low 32 bits of the rack time as counter (15 R360). -/
def State.followVerifies (s : State) (h : OdpHead) (x : SyncTime) (mac : BitVec 64) : Bool :=
  match s.bus.rackKey with
  | some kr => decide ((followFrame h x).macOf (timeKey kr) (x.rackTime % 2 ^ 32) = mac)
  | none => false

/-- FOLLOW (15 R360). -/
def execFollow (h : OdpHead) (x : SyncTime) (mac : BitVec 64) (s : State) : Host.Outcome State Fault Refusal :=
  act (fun s => if s.busLive = true ∧ h.src = s.build.node then s.heard.ownFrame else s.onTimeFrame fun s =>
    match s.recentSyncs.find? fun e => decide (e.1 = x.num) with
    | none => s.inc 0x1102 4
    | some e =>
      if s.followVerifies h x mac = true ∧ s.reg 0x1102 1 < x.rackTime then
        s.applyRackTime x.rackTime ((x.rackTime : Int) - e.2.1)
      else s.inc 0x1102 4) s

/-- MAC_FAILURE: a frame of a session that matches none of the next four counters. -/
def execMacFailure (src sid : Nat) (s : State) : Host.Outcome State Fault Refusal :=
  act (fun s => s.onFrame src fun s => if s.openTo sid src then s.macMiss sid else s) s

/-- A session is open and has had no accepted frame for 0x1101.08 seconds (15 R357). -/
def State.sessionIdle (s : State) (sid : Nat) : Bool :=
  (s.session sid).isOpen && decide (s.reg 0x1101 8 * 1000000000 ≤ s.aon.now - (s.session sid).lastAt)

/-- SESSION_IDLE_TIMEOUT (15 R357). -/
def execSessionIdleTimeout (sid : Nat) (s : State) : Host.Outcome State Fault Refusal :=
  act (fun s => if s.sessionIdle sid then s.closeSession sid else s) s

/-- Queue the waiting responses in their order; each takes its counter now (15 R356, R358). -/
def State.queueSlotted (s : State) : List TxFrame → State
  | [] => s
  | f :: l =>
    let x := s.stamp f
    (x.2.sendFrame x.1).queueSlotted l

/-- RESPONSE_SLOT (15 R358). -/
def execResponseSlot (s : State) : Host.Outcome State Fault Refusal :=
  act (fun s =>
    if s.mgmt.ready then
      { s with bus := { s.bus with slotted := [] } }.queueSlotted s.bus.slotted
    else s) s

/-- TX_FRAME_TIMEOUT: the oldest queued frame is dropped, once it has waited for 1 s (15 R349). -/
def execTxFrameTimeout (s : State) : Host.Outcome State Fault Refusal :=
  act (fun s =>
    match s.bus.tx with
    | [] => s
    | f :: l =>
      if 1000000000 ≤ s.aon.now - f.queuedAt then { s with bus := { s.bus with tx := l } }.inc 0x1100 9 else s) s

/-- BUS_OFF (15 R349). -/
def execBusOff (s : State) : Host.Outcome State Fault Refusal :=
  act (fun s =>
    if s.busLive then { s with bus := { s.bus with st := 3 } }.inc 0x1100 5 else s) s

/-- BUS_OFF_RECOVERY: error-active, with both counters at 0 (15 R349). -/
def execBusOffRecovery (s : State) : Host.Outcome State Fault Refusal :=
  act (fun s =>
    if s.bus.st = 3 then
      ({ s with bus := { s.bus with st := 1 } }.setReg 0x1100 3 0).setReg 0x1100 4 0
    else s) s

/-- BUS_ERROR: the standard's counters rise and decide between error-active and error-passive. -/
def execBusError (tx : Bool) (amount : Nat) (s : State) : Host.Outcome State Fault Refusal :=
  act (fun s =>
    if s.busLive then (s.addReg 0x1100 (if tx then 3 else 4) amount u8max).confine else s) s

/-- FRAME_IGNORED (15 R350). -/
def execFrameIgnored (own : Bool) (s : State) : Host.Outcome State Fault Refusal :=
  act (fun s =>
    if s.busLive then (if own then s.heard.ownFrame else s.heard.ignoreFrame) else s) s

/-- The frame that arbitration sends next: the highest priority, then the oldest (15 R349). -/
def nextFrame : List TxFrame → Option TxFrame
  | [] => none
  | f :: l =>
    match nextFrame l with
    | none => some f
    | some g => if f.prio ≤ g.prio then some f else some g

/-- The bus carries the next queued frame. -/
def State.transmit (s : State) : State :=
  if !s.busLive then s
  else
    match nextFrame s.bus.tx with
    | none => s
    | some f => ({ s with bus := { s.bus with tx := s.bus.tx.erase f } }.emit (.frame f)).spoke

end Sys2Proof.Machine
end

