-- ==== Sys2Proof/Machine/Clock.lean ====
section
/-! DEFINITION. The tick of an idle block (log 3): one nanosecond of its own clock, a microsecond of
device time at every thousandth, the slew of an accepted time sync, and one queued frame sent on the
field bus (14 R322, 15 R349, R360). -/
namespace Sys2Proof.Machine

/-- One microsecond of device time, with 0.05 % of slew: one microsecond in 2,000 (15 R360). -/
def Aon.microsecond (a : Aon) : Aon :=
  let adj : Int :=
    if a.slewPhase + 1 < 2000 ∨ a.slewLeft = 0 then 0 else if a.slewLeft > 0 then 1 else -1
  { a with
    deviceTime := time48 (a.deviceTime + 1 + adj).toNat
    slewLeft := a.slewLeft - adj
    slewPhase := if a.slewPhase + 1 < 2000 then a.slewPhase + 1 else 0 }

/-- One tick of the 32.768 kHz clock: 15,625 / 512 microseconds (14 R322). -/
def Aon.rtcTick (a : Aon) : Aon :=
  { a with
    deviceTime := time48 (a.deviceTime + (a.rtcFrac + 15625) / 512)
    rtcFrac := (a.rtcFrac + 15625) % 512 }

/-- A tick of the 32.768 kHz clock falls into the nanosecond before a time. -/
def rtcAt (now : Nat) : Bool := decide (now * 32768 / 1000000000 ≠ (now - 1) * 32768 / 1000000000)

/-- One nanosecond passes; device time runs from sequencer state 1 on, in state 14 by the 32.768 kHz clock
(14 R322). -/
def tick (s : State) : State :=
  if !s.aon.on then s.fresh
  else
    let a := { s.aon with now := s.aon.now + 1 }
    let a := if s.seq.st = 14 then (if rtcAt a.now then a.rtcTick else a)
      else if a.now % 1000 = 0 ∧ 1 ≤ s.seq.st then a.microsecond else a
    settle { s with aon := a, out := [] }.transmit

end Sys2Proof.Machine
end

