-- ==== Sys2Proof/Machine/TwoWire.lean ====
section
/-! DEFINITION. The two-wire sideband port: the byte window, operations taken at a STOP, and the
attention by Host Notify (17 R370–R379). -/
namespace Sys2Proof.Machine

/-- A byte of the control block and window, and several. -/
def State.wireByte (s : State) (a : Nat) : Byte := Memory.byte s.wire.mem a
def State.wireBytes (s : State) (a n : Nat) : Bytes := Memory.bytes s.wire.mem a n
def State.setWireByte (s : State) (a : Nat) (v : Byte) : State :=
  { s with wire := { s.wire with mem := Memory.setByte s.wire.mem a v } }

/-- 17 R374, R375: an operation runs on the control block: STATE reads 1 until its outcome is in
STATUS. -/
def State.wireRun (s : State) (op : WireOp) : State :=
  let idx := leNat (s.wireBytes 0 2)
  let sub := leNat (s.wireBytes 2 1)
  let len := min 240 (leNat (s.wireBytes 3 1))
  let off := leNat (s.wireBytes 4 3)
  let data := s.wireBytes 0x10 len
  let s : State := { s with wire := { s.wire with armed := none, busy := some op } }
  let s := s.setWireByte 0x0A 1
  if op.isWrite then s.runWrite (callerOf .twoWire) idx sub off data
  else s.runRead (callerOf .twoWire) idx sub off len

/-- An operation that arrived at the last STOP is taken before anything later on the bus. -/
def State.wireTake (s : State) : State :=
  match s.wire.armed with
  | some op => s.wireRun op
  | none => s

/-- One byte written at the pointer (17 R372, R373, R375): ATTN is cleared by a 1; while an operation
runs the rest is discarded and counted; STATUS, STATE and OBJLEN are read-only; COMMAND 1 or 2 names an
operation. -/
def State.wirePut (s : State) (v : Byte) : State :=
  let a := s.wire.ptr
  let s : State := { s with wire := { s.wire with ptr := (a + 1) % 256 } }
  if a = 0x0F then (if bitOf v.toNat 0 then s.setWireByte a 0 else s)
  else if s.wire.busy.isSome then s.inc 0x7400 9
  else if 0x08 ≤ a ∧ a ≤ 0x0E then s
  else
    let s := s.setWireByte a v
    if a = 0x07 ∧ (v = 1 ∨ v = 2) then
      { s with wire := { s.wire with armed := some { isWrite := decide (v = 2) } } }
    else s

def State.wirePuts (s : State) : Bytes → State
  | [] => s
  | v :: l => (s.wirePut v).wirePuts l

/-- A write transaction: the first byte sets the pointer; an operation named in it arrives only at a
STOP or repeated START (17 R372, R374). -/
def State.wireWrite (s : State) (b : Bytes) (fin : WireEnd) : State :=
  if !s.wireAcks then s.emit .wireNak
  else
    let s := s.wireTake
    let s := match b with
      | [] => s
      | p :: l => ({ s with wire := { s.wire with ptr := p.toNat } } : State).wirePuts l
    match fin with
    | .neither => { s with wire := { s.wire with armed := none } }
    | _ => s

/-- The byte that a read transaction returns from an address (17 R372, R375). -/
def State.wireGet (s : State) (a : Nat) : Byte :=
  if a < 16 then s.wire.snapshot.getD a 0
  else if s.wire.busy.isSome then 0 else s.wireByte a

/-- TWO_WIRE_WRITE. -/
def execTwoWireWrite (bytes : Bytes) (fin : WireEnd) (s : State) : Host.Outcome State Fault Refusal :=
  act (fun s => s.wireWrite bytes fin) s

/-- TWO_WIRE_READ: a snapshot of the control block at the first byte, then bytes from the pointer. -/
def execTwoWireRead (count : Nat) (_fin : WireEnd) (s : State) : Host.Outcome State Fault Refusal :=
  act (fun s =>
    if !s.wireAcks then s.emit .wireNak
    else
      let s := s.wireTake
      let s : State := if count = 0 then s else
        { s with wire := { s.wire with snapshot := s.wireBytes 0 16 } }
      let p := s.wire.ptr
      let b := (List.range count).map fun i => s.wireGet ((p + i) % 256)
      { s with wire := { s.wire with ptr := (p + count) % 256 } }.emit (.wireData b)) s

/-- Take the operation of a kind that arrived at the STOP. -/
def State.wireTakeKind (s : State) (isWrite : Bool) : State :=
  match s.wire.armed with
  | some op => if s.wireAcks ∧ op.isWrite = isWrite then s.wireRun op else s
  | none => s

/-- TWO_WIRE_READ_COMMAND (17 R374). -/
def execTwoWireReadCommand (s : State) : Host.Outcome State Fault Refusal :=
  act (fun s => s.wireTakeKind false) s

/-- TWO_WIRE_WRITE_COMMAND (17 R374). -/
def execTwoWireWriteCommand (s : State) : Host.Outcome State Fault Refusal :=
  act (fun s => s.wireTakeKind true) s

/-- ATTN_CLEAR: a write of 1 to ATTN bit 0 (17 Table 17.1). -/
def execAttnClear (s : State) : Host.Outcome State Fault Refusal :=
  act (fun s => s.wireWrite [0x0F, 1] .stop) s

/-- SCL_STUCK_TIMEOUT: the transaction is abandoned and counted (17 R379). -/
def execSclStuckTimeout (s : State) : Host.Outcome State Fault Refusal :=
  act (fun s => if s.wireAcks then s.inc 0x7400 8 else s) s

/-- An attempt of the Host Notify that waits (17 R377). -/
def State.tryNotify (s : State) (sev die : Nat) : State :=
  { s with wire := { s.wire with attempting := true } }.emit (.hostNotify s.wireAddr (sev * 256 + die))

/-- 17 R378: the SW74 gives up: the reason, a Warning record, which is also the CXL event record, and an
ATTENTION frame of cause 1. -/
def State.giveUp (s : State) (sev die : Nat) : State :=
  let s := (s.setReg 0x7400 0x0C s.wire.lastEnd).inc 0x7400 0x0B
  let s : State := { s with wire := { s.wire with notify := none, retries := 0, attempting := false } }
  (s.report 0 cAttention 1 0 [sev, die]).attention 1 die ((s.recorder die).newest.getD 0) sev

/-- The wait before the next retry has passed: 1 ms, doubled for each retry begun (17 R378). -/
def State.retryDue (s : State) : Bool :=
  decide (2 ^ s.wire.retries * 1000000 ≤ s.aon.now - s.wire.failedAt)

/-- HOST_NOTIFY_RETRY: the wait before a retry ends, or the wait before a first attempt that the limit
of one attention per 100 ms held back. -/
def execHostNotifyRetry (s : State) : Host.Outcome State Fault Refusal :=
  act (fun s =>
    match s.wire.notify with
    | none => s
    | some (sev, die) =>
      if s.wire.attempting ∨ s.sidebandOn = false then s
      else if s.wire.lastEnd = 0 then
        if s.spaced s.wire.notifyAt then
          { s with wire := { s.wire with notifyAt := some s.aon.now } }.tryNotify sev die
        else s
      else if !s.retryDue then s
      else if s.wire.retries < 8 then
        { s with wire := { s.wire with retries := s.wire.retries + 1 } }.tryNotify sev die
      else s.giveUp sev die) s

/-- Reasons of 0x7400.0C. -/
def notifyCode : NotifyEnd → Nat
  | .success => 0
  | .noFreeBus => 1
  | .arbitrationLost => 2
  | .notAcknowledged => 3
  | .notComplete => 4

/-- HOST_NOTIFY_ATTEMPT_END: success ends the attention; a failure is counted and waits for its retry,
the eighth retry's gives up (17 R378). -/
def execHostNotifyAttemptEnd (res : NotifyEnd) (s : State) : Host.Outcome State Fault Refusal :=
  act (fun s =>
    match s.wire.notify with
    | none => s
    | some (sev, die) =>
      if !s.wire.attempting then s
      else if notifyCode res = 0 then
        { s with wire := { s.wire with notify := none, retries := 0, attempting := false } }
      else
        let s := s.inc 0x7400 0x0A
        let s : State := { s with wire := { s.wire with attempting := false, lastEnd := notifyCode res, failedAt := s.aon.now } }
        if s.wire.retries < 8 then s else s.giveUp sev die) s

end Sys2Proof.Machine
end

