-- ==== Sys2Proof/Machine/Dispatch.lean ====
section
/-! DEFINITION. Dispatch: one arm per command, each a direct call of the command's meaning. -/
namespace Sys2Proof.Machine

/-- The effect of a command on everything but the queue. -/
def exec (i : Instr) (s : State) : Host.Outcome State Fault Refusal :=
  match i with
  | .cxlMemRead port link tag hpa => Sys2Proof.Machine.execCxlMemRead port link tag hpa s
  | .cxlMemWrite port link tag hpa data => Sys2Proof.Machine.execCxlMemWrite port link tag hpa data s
  | .cxlMemPartialWrite port link tag hpa data be => Sys2Proof.Machine.execCxlMemPartialWrite port link tag hpa data be s
  | .class0TokenRefill port link => Sys2Proof.Machine.execClass0TokenRefill port link s
  | .cxlIoRequest port link tgt wr => Sys2Proof.Machine.execCxlIoRequest port link tgt wr s
  | .flitCrcFailure die lk => Sys2Proof.Machine.execFlitCrcFailure die lk s
  | .linkRetrain die lk => Sys2Proof.Machine.execLinkRetrain die lk s
  | .linkRetrainEnd die lk ok inFlight => Sys2Proof.Machine.execLinkRetrainEnd die lk ok inFlight s
  | .routeHoldEnd ingress owner => Sys2Proof.Machine.execRouteHoldEnd ingress owner s
  | .perstNFall port => Sys2Proof.Machine.execPerstNFall port s
  | .perstNRise port => Sys2Proof.Machine.execPerstNRise port s
  | .linkTrainingDone port link partner => Sys2Proof.Machine.execLinkTrainingDone port link partner s
  | .linkReset port link => Sys2Proof.Machine.execLinkReset port link s
  | .ideCheckFail port link => Sys2Proof.Machine.execIdeCheckFail port link s
  | .globalPersistentFlush port link => Sys2Proof.Machine.execGlobalPersistentFlush port link s
  | .gpfDrainComplete => Sys2Proof.Machine.execGpfDrainComplete s
  | .identify port link => Sys2Proof.Machine.execIdentify port link s
  | .getEventRecords port link log => Sys2Proof.Machine.execGetEventRecords port link log s
  | .clearEventRecords port link log all handles => Sys2Proof.Machine.execClearEventRecords port link log all handles s
  | .getEventInterruptPolicy port link => Sys2Proof.Machine.execGetEventInterruptPolicy port link s
  | .setEventInterruptPolicy port link policy => Sys2Proof.Machine.execSetEventInterruptPolicy port link policy s
  | .getFwInfo port link => Sys2Proof.Machine.execGetFwInfo port link s
  | .transferFwInitiate port link data => Sys2Proof.Machine.execTransferFwInitiate port link data s
  | .transferFwContinue port link off data => Sys2Proof.Machine.execTransferFwContinue port link off data s
  | .transferFwEnd port link slot off data => Sys2Proof.Machine.execTransferFwEnd port link slot off data s
  | .activateFwOnline port link slot => Sys2Proof.Machine.execActivateFwOnline port link slot s
  | .activateFwOffline port link slot => Sys2Proof.Machine.execActivateFwOffline port link slot s
  | .getTimestamp port link => Sys2Proof.Machine.execGetTimestamp port link s
  | .setTimestamp port link ns => Sys2Proof.Machine.execSetTimestamp port link ns s
  | .getSupportedLogs port link => Sys2Proof.Machine.execGetSupportedLogs port link s
  | .getLog port link cel off len => Sys2Proof.Machine.execGetLog port link cel off len s
  | .identifyMemoryDevice port link => Sys2Proof.Machine.execIdentifyMemoryDevice port link s
  | .getPartitionInfo port link => Sys2Proof.Machine.execGetPartitionInfo port link s
  | .setPartitionInfo port link => Sys2Proof.Machine.execSetPartitionInfo port link s
  | .getLsa port link off len => Sys2Proof.Machine.execGetLsa port link off len s
  | .setLsa port link off data => Sys2Proof.Machine.execSetLsa port link off data s
  | .getHealthInfo port link => Sys2Proof.Machine.execGetHealthInfo port link s
  | .getAlertConfig port link => Sys2Proof.Machine.execGetAlertConfig port link s
  | .setAlertConfig port link cfg => Sys2Proof.Machine.execSetAlertConfig port link cfg s
  | .getShutdownState port link => Sys2Proof.Machine.execGetShutdownState port link s
  | .setShutdownState port link st => Sys2Proof.Machine.execSetShutdownState port link st s
  | .getPoisonList port link dpa len => Sys2Proof.Machine.execGetPoisonList port link dpa len s
  | .injectPoison port link dpa => Sys2Proof.Machine.execInjectPoison port link dpa s
  | .clearPoison port link dpa data => Sys2Proof.Machine.execClearPoison port link dpa data s
  | .dictionaryAccessRead port link payload => Sys2Proof.Machine.execDictionaryAccessRead port link payload s
  | .dictionaryAccessWrite port link payload => Sys2Proof.Machine.execDictionaryAccessWrite port link payload s
  | .recorderStream port link payload => Sys2Proof.Machine.execRecorderStream port link payload s
  | .unsupportedOpcode port link opcode => Sys2Proof.Machine.execUnsupportedOpcode port link opcode s
  | .tableAccess port link entry => Sys2Proof.Machine.execTableAccess port link entry s
  | .getVersion port link => Sys2Proof.Machine.execGetVersion port link s
  | .getCapabilities port link => Sys2Proof.Machine.execGetCapabilities port link s
  | .negotiateAlgorithms port link algs => Sys2Proof.Machine.execNegotiateAlgorithms port link algs s
  | .getDigests port link => Sys2Proof.Machine.execGetDigests port link s
  | .getCertificate port link slot off len => Sys2Proof.Machine.execGetCertificate port link slot off len s
  | .challenge port link slot nonce => Sys2Proof.Machine.execChallenge port link slot nonce s
  | .getMeasurements port link index nonce raw => Sys2Proof.Machine.execGetMeasurements port link index nonce raw s
  | .keyExchange port link slot nonce => Sys2Proof.Machine.execKeyExchange port link slot nonce s
  | .finish port link verified => Sys2Proof.Machine.execFinish port link verified s
  | .heartbeat port link => Sys2Proof.Machine.execHeartbeat port link s
  | .keyUpdate port link => Sys2Proof.Machine.execKeyUpdate port link s
  | .endSession port link => Sys2Proof.Machine.execEndSession port link s
  | .ideKm port link msg => Sys2Proof.Machine.execIdeKm port link msg s
  | .create o n => Sys2Proof.Machine.execCreate o n s
  | .resize o n => Sys2Proof.Machine.execResize o n s
  | .fence o n => Sys2Proof.Machine.execFence o n s
  | .unfence o n => Sys2Proof.Machine.execUnfence o n s
  | .retire o n => Sys2Proof.Machine.execRetire o n s
  | .rekey o n => Sys2Proof.Machine.execRekey o n s
  | .tenancyFieldWrite o n sub value => Sys2Proof.Machine.execTenancyFieldWrite o n sub value s
  | .zeroFillComplete => Sys2Proof.Machine.execZeroFillComplete s
  | .retireDrainEnd n => Sys2Proof.Machine.execRetireDrainEnd n s
  | .retireTrimEnd n => Sys2Proof.Machine.execRetireTrimEnd n s
  | .refusalAnswer => Sys2Proof.Machine.execRefusalAnswer s
  | .keyLoad o idx data => Sys2Proof.Machine.execKeyLoad o idx data s
  | .keyZeroise o idx value => Sys2Proof.Machine.execKeyZeroise o idx value s
  | .rekeySweepLine line => Sys2Proof.Machine.execRekeySweepLine line s
  | .commandSlot sc => Sys2Proof.Machine.execCommandSlot sc s
  | .pageIdleTimeout sc rank bank => Sys2Proof.Machine.execPageIdleTimeout sc rank bank s
  | .refreshDue sc rank chip bank => Sys2Proof.Machine.execRefreshDue sc rank chip bank s
  | .refreshComplete sc rank chip bank => Sys2Proof.Machine.execRefreshComplete sc rank chip bank s
  | .rfmCountMax sc rank bank => Sys2Proof.Machine.execRfmCountMax sc rank bank s
  | .mr4Poll rank reading field => Sys2Proof.Machine.execMr4Poll rank reading field s
  | .dramReadComplete sc errs => Sys2Proof.Machine.execDramReadComplete sc errs s
  | .retryReadComplete sc errs => Sys2Proof.Machine.execRetryReadComplete sc errs s
  | .partialWriteMerge sc errs => Sys2Proof.Machine.execPartialWriteMerge sc errs s
  | .caParityError ch rank => Sys2Proof.Machine.execCaParityError ch rank s
  | .scrubReadDue ch => Sys2Proof.Machine.execScrubReadDue ch s
  | .scrubReadResult ch errs => Sys2Proof.Machine.execScrubReadResult ch errs s
  | .scrubInitPass rank => Sys2Proof.Machine.execScrubInitPass rank s
  | .refreshModeWrite o ch value => Sys2Proof.Machine.execRefreshModeWrite o ch value s
  | .idleDeepPermitWrite o die q value => Sys2Proof.Machine.execIdleDeepPermitWrite o die q value s
  | .quadrantIdle die q => Sys2Proof.Machine.execQuadrantIdle die q s
  | .idleDeepEntry die q => Sys2Proof.Machine.execIdleDeepEntry die q s
  | .idleDeepExit die q checks recals => Sys2Proof.Machine.execIdleDeepExit die q checks recals s
  | .trainingTimeLimit quad res => Sys2Proof.Machine.execTrainingTimeLimit quad res s
  | .trainingDone die q res => Sys2Proof.Machine.execTrainingDone die q res s
  | .oscillatorCheck rank counts => Sys2Proof.Machine.execOscillatorCheck rank counts s
  | .edgeProbe rank codes => Sys2Proof.Machine.execEdgeProbe rank codes s
  | .checkForced check => Sys2Proof.Machine.execCheckForced check s
  | .recalSlice sc rank => Sys2Proof.Machine.execRecalSlice sc rank s
  | .recalSliceEnd sc rank bursts osc => Sys2Proof.Machine.execRecalSliceEnd sc rank bursts osc s
  | .class3Promotion sc id => Sys2Proof.Machine.execClass3Promotion sc id s
  | .dirtyNotice die => Sys2Proof.Machine.execDirtyNotice die s
  | .noticeConfirmed die => Sys2Proof.Machine.execNoticeConfirmed die s
  | .admissionStageEntry die => Sys2Proof.Machine.execAdmissionStageEntry die s
  | .writeAdmitted die => Sys2Proof.Machine.execWriteAdmitted die s
  | .snowCountMessage die => Sys2Proof.Machine.execSnowCountMessage die s
  | .pumpDispatch die => Sys2Proof.Machine.execPumpDispatch die s
  | .pumpReadDone die pump res => Sys2Proof.Machine.execPumpReadDone die pump res s
  | .pumpTransfer die pump fresh => Sys2Proof.Machine.execPumpTransfer die pump fresh s
  | .unitFillTimeout die unit => Sys2Proof.Machine.execUnitFillTimeout die unit s
  | .programStatus die unit pass => Sys2Proof.Machine.execProgramStatus die unit pass s
  | .epochBoundary => Sys2Proof.Machine.execEpochBoundary s
  | .epochSealWrite die whole => Sys2Proof.Machine.execEpochSealWrite die whole s
  | .persistenceArm => Sys2Proof.Machine.execPersistenceArm s
  | .checkpointStart o n => Sys2Proof.Machine.execCheckpointStart o n s
  | .wearHorizonUpdate => Sys2Proof.Machine.execWearHorizonUpdate s
  | .operationTimeout die lun => Sys2Proof.Machine.execOperationTimeout die lun s
  | .eraseStart die lun blk => Sys2Proof.Machine.execEraseStart die lun blk s
  | .eraseSuspended die lun => Sys2Proof.Machine.execEraseSuspended die lun s
  | .eraseStatus die lun pass => Sys2Proof.Machine.execEraseStatus die lun pass s
  | .pageReadResult die page res => Sys2Proof.Machine.execPageReadResult die page res s
  | .gcTrigger die lun => Sys2Proof.Machine.execGcTrigger die lun s
  | .relocatePage die page => Sys2Proof.Machine.execRelocatePage die page s
  | .verifyRead die page res => Sys2Proof.Machine.execVerifyRead die page res s
  | .lunFail die unit => Sys2Proof.Machine.execLunFail die unit s
  | .pwrfailDetect => Sys2Proof.Machine.execPwrfailDetect s
  | .senseVinLow => Sys2Proof.Machine.execSenseVinLow s
  | .sledFreezeSignal => Sys2Proof.Machine.execSledFreezeSignal s
  | .freezeSnowDrained die => Sys2Proof.Machine.execFreezeSnowDrained die s
  | .freezeSeal die whole => Sys2Proof.Machine.execFreezeSeal die whole s
  | .freezeAllSealed => Sys2Proof.Machine.execFreezeAllSealed s
  | .freezeHoldExit => Sys2Proof.Machine.execFreezeHoldExit s
  | .seqsyncRise => Sys2Proof.Machine.execSeqsyncRise s
  | .intentReerase die lun erased bits => Sys2Proof.Machine.execIntentReerase die lun erased bits s
  | .mapRestoreDone read => Sys2Proof.Machine.execMapRestoreDone read s
  | .recoverySeal torn => Sys2Proof.Machine.execRecoverySeal torn s
  | .restoreFetch die flake => Sys2Proof.Machine.execRestoreFetch die flake s
  | .fetchComplete die flake => Sys2Proof.Machine.execFetchComplete die flake s
  | .restoreFill die flake => Sys2Proof.Machine.execRestoreFill die flake s
  | .thawComplete => Sys2Proof.Machine.execThawComplete s
  | .heatHalving => Sys2Proof.Machine.execHeatHalving s
  | .retireBucketRoll => Sys2Proof.Machine.execRetireBucketRoll s
  | .rankRetireTrigger rank reason => Sys2Proof.Machine.execRankRetireTrigger rank reason s
  | .migrationLine die errs => Sys2Proof.Machine.execMigrationLine die errs s
  | .rebuildLine die rank => Sys2Proof.Machine.execRebuildLine die rank s
  | .healPageArrived die flake => Sys2Proof.Machine.execHealPageArrived die flake s
  | .hibernateEntry die q => Sys2Proof.Machine.execHibernateEntry die q s
  | .hibernateRailsOff die q => Sys2Proof.Machine.execHibernateRailsOff die q s
  | .hibernateReturn die q => Sys2Proof.Machine.execHibernateReturn die q s
  | .fullAnchor => Sys2Proof.Machine.execFullAnchor s
  | .endOfDischarge => Sys2Proof.Machine.execEndOfDischarge s
  | .energyLimitLoad => Sys2Proof.Machine.execEnergyLimitLoad s
  | .limitDecayStart => Sys2Proof.Machine.execLimitDecayStart s
  | .limitDecayFloor => Sys2Proof.Machine.execLimitDecayFloor s
  | .learnStart o => Sys2Proof.Machine.execLearnStart o s
  | .learnAbort o => Sys2Proof.Machine.execLearnAbort o s
  | .learnScheduledStart => Sys2Proof.Machine.execLearnScheduledStart s
  | .learnTail => Sys2Proof.Machine.execLearnTail s
  | .learnTailResume => Sys2Proof.Machine.execLearnTailResume s
  | .learnCutoff => Sys2Proof.Machine.execLearnCutoff s
  | .learnAbortEvent ev => Sys2Proof.Machine.execLearnAbortEvent ev s
  | .learnedRecordWrite => Sys2Proof.Machine.execLearnedRecordWrite s
  | .packRemoved => Sys2Proof.Machine.execPackRemoved s
  | .packInserted => Sys2Proof.Machine.execPackInserted s
  | .learnedValueRestore o data => Sys2Proof.Machine.execLearnedValueRestore o data s
  | .stateTimeLimit => Sys2Proof.Machine.execStateTimeLimit s
  | .railEnable die => Sys2Proof.Machine.execRailEnable die s
  | .railPowerGood die rail => Sys2Proof.Machine.execRailPowerGood die rail s
  | .railFail die rail reason => Sys2Proof.Machine.execRailFail die rail reason s
  | .railRetry die rail => Sys2Proof.Machine.execRailRetry die rail s
  | .railRelease die => Sys2Proof.Machine.execRailRelease die s
  | .domainSwitchOff o die mask => Sys2Proof.Machine.execDomainSwitchOff o die mask s
  | .domainDrainEnd die dom => Sys2Proof.Machine.execDomainDrainEnd die dom s
  | .domainDrainTimeout die dom => Sys2Proof.Machine.execDomainDrainTimeout die dom s
  | .padRelease o die mask => Sys2Proof.Machine.execPadRelease o die mask s
  | .wakeAlarm => Sys2Proof.Machine.execWakeAlarm s
  | .wake dst => Sys2Proof.Machine.execWake dst s
  | .adcTimerFire die timer => Sys2Proof.Machine.execAdcTimerFire die timer s
  | .learnPwmEdge rising => Sys2Proof.Machine.execLearnPwmEdge rising s
  | .entryPending die entry => Sys2Proof.Machine.execEntryPending die entry s
  | .conversionComplete die samples cycles => Sys2Proof.Machine.execConversionComplete die samples cycles s
  | .injectedRequest o die word => Sys2Proof.Machine.execInjectedRequest o die word s
  | .captureArm o die value => Sys2Proof.Machine.execCaptureArm o die value s
  | .dataRegisterRead o die => Sys2Proof.Machine.execDataRegisterRead o die s
  | .sliceCalibration die ok => Sys2Proof.Machine.execSliceCalibration die ok s
  | .sliceSwap die => Sys2Proof.Machine.execSliceSwap die s
  | .pllLossOfLock die dom => Sys2Proof.Machine.execPllLossOfLock die dom s
  | .referenceLoss => Sys2Proof.Machine.execReferenceLoss s
  | .oscillatorOutOfRange die sclk kHz => Sys2Proof.Machine.execOscillatorOutOfRange die sclk kHz s
  | .aonPowerOn => Sys2Proof.Machine.execAonPowerOn s
  | .deviceTimeSave => Sys2Proof.Machine.execDeviceTimeSave s
  | .managementRestart o => Sys2Proof.Machine.execManagementRestart o s
  | .watchdogTimeout => Sys2Proof.Machine.execWatchdogTimeout s
  | .managementRestartReady => Sys2Proof.Machine.execManagementRestartReady s
  | .restartTimeout => Sys2Proof.Machine.execRestartTimeout s
  | .testReset => Sys2Proof.Machine.execTestReset s
  | .objectWrite o idx sub off data => Sys2Proof.Machine.execObjectWrite o idx sub off data s
  | .odpRead h idx sub off => Sys2Proof.Machine.execOdpRead h idx sub off s
  | .odpOpen h nr => Sys2Proof.Machine.execOdpOpen h nr s
  | .odpClose h sid mac => Sys2Proof.Machine.execOdpClose h sid mac s
  | .sread h sid mac idx sub off => Sys2Proof.Machine.execSread h sid mac idx sub off s
  | .swrite h sid mac idx sub off total data seg => Sys2Proof.Machine.execSwrite h sid mac idx sub off total data seg s
  | .flow h sid mac seqNo => Sys2Proof.Machine.execFlow h sid mac seqNo s
  | .segmentFrame h sid mac seqNo last data => Sys2Proof.Machine.execSegmentFrame h sid mac seqNo last data s
  | .segmentTimeout id => Sys2Proof.Machine.execSegmentTimeout id s
  | .chunk h sid mac num data => Sys2Proof.Machine.execChunk h sid mac num data s
  | .chunkProgressPoll h sid mac => Sys2Proof.Machine.execChunkProgressPoll h sid mac s
  | .chunkTokenRefill => Sys2Proof.Machine.execChunkTokenRefill s
  | .sync num => Sys2Proof.Machine.execSync num s
  | .follow h x mac => Sys2Proof.Machine.execFollow h x mac s
  | .macFailure src sid => Sys2Proof.Machine.execMacFailure src sid s
  | .sessionIdleTimeout sid => Sys2Proof.Machine.execSessionIdleTimeout sid s
  | .responseSlot => Sys2Proof.Machine.execResponseSlot s
  | .txFrameTimeout => Sys2Proof.Machine.execTxFrameTimeout s
  | .busOff => Sys2Proof.Machine.execBusOff s
  | .busOffRecovery => Sys2Proof.Machine.execBusOffRecovery s
  | .rackKeyWrite o data => Sys2Proof.Machine.execRackKeyWrite o data s
  | .twoWireWrite bytes fin => Sys2Proof.Machine.execTwoWireWrite bytes fin s
  | .twoWireRead count fin => Sys2Proof.Machine.execTwoWireRead count fin s
  | .twoWireReadCommand => Sys2Proof.Machine.execTwoWireReadCommand s
  | .twoWireWriteCommand => Sys2Proof.Machine.execTwoWireWriteCommand s
  | .attnClear => Sys2Proof.Machine.execAttnClear s
  | .sclStuckTimeout => Sys2Proof.Machine.execSclStuckTimeout s
  | .hostNotifyRetry => Sys2Proof.Machine.execHostNotifyRetry s
  | .transferDescriptorWrite o data => Sys2Proof.Machine.execTransferDescriptorWrite o data s
  | .transferAbort o => Sys2Proof.Machine.execTransferAbort o s
  | .imageWrite o off data => Sys2Proof.Machine.execImageWrite o off data s
  | .activationArm o time => Sys2Proof.Machine.execActivationArm o time s
  | .activationAlarm => Sys2Proof.Machine.execActivationAlarm s
  | .signedReportRead o len => Sys2Proof.Machine.execSignedReportRead o len s
  | .eventReport die r => Sys2Proof.Machine.execEventReport die r s
  | .recordWrite die => Sys2Proof.Machine.execRecordWrite die s
  | .recordRead o die len => Sys2Proof.Machine.execRecordRead o die len s
  | .aonPowerLoss => Sys2Proof.Machine.execAonPowerLoss s
  | .inputPowerReturn => Sys2Proof.Machine.execInputPowerReturn s
  | .corePllLock die => Sys2Proof.Machine.execCorePllLock die s
  | .pllRelockEnd die dom ok => Sys2Proof.Machine.execPllRelockEnd die dom ok s
  | .hostLinkDown port link => Sys2Proof.Machine.execHostLinkDown port link s
  | .busError tx amount => Sys2Proof.Machine.execBusError tx amount s
  | .frameIgnored own => Sys2Proof.Machine.execFrameIgnored own s
  | .hostNotifyAttemptEnd res => Sys2Proof.Machine.execHostNotifyAttemptEnd res s
  | .pageReadBack failed => Sys2Proof.Machine.execPageReadBack failed s

end Sys2Proof.Machine
end

