-- ==== Sys2Proof/Safety.lean ====
section
/-! DEFINITION. The terms of the claims: what counts as a safe state (the pins and flags that follow from
the rest of the state agree with it), and what a command leaves unchanged. -/
namespace Sys2Proof.Safety

open Sys2Proof.Machine

/-- The charger pin is high only under the conditions of 11 R271, and the learn load is driven only
in a main stretch or a tail discharge. -/
def PinsAgree (s : State) : Prop :=
  s.bat.chgEn = s.mayCharge ∧ s.bat.learnPwm = s.learnLoad

/-- 07 R179: persistence is armed only while B is at least 1 GiB and the capacity rule holds. -/
def ArmedIsBacked (s : State) : Prop :=
  s.shadow.armed = true → s.armable (gib 1) = true

/-- 07 R171: the scaled bit says whether the configured shares exceed what may be divided. -/
def ScaledAgrees (s : State) : Prop := s.shadow.scaled = s.sharesScaled

/-- The parts of the state that a frame names. -/
inductive Part where
  | build | aon | seq | hosts | ten | dram | shadow | freeze | sparing | bat | adc | clocks | mgmt | bus
  | wire | fw | rings | regs | doms | usedW1 | out | freeCount | pending
  deriving DecidableEq, Repr

/-- The counters of a recorder's staging queue, 0x1210+d.04 and .05, which any report may move. -/
def stagingCount (idx sub : Nat) : Prop := 0x1210 ≤ idx ∧ idx ≤ 0x1217 ∧ (sub = 4 ∨ sub = 5)

/-- A part of the state is unchanged. Left aside is what the end of every command settles from the rest
of the state: the armed and scaled flags, the health last reported, the charger and load pins, and the
reports of their changes, which wait in die 0's staging queue. `out` unchanged: nothing is put on the
links, buses and pins. -/
def unchanged (s t : State) : Part → Prop
  | .build => t.build = s.build
  | .aon => t.aon = s.aon
  | .seq => t.seq = s.seq
  | .hosts =>
    { t.hosts with maintenance := s.hosts.maintenance, degraded := s.hosts.degraded } = s.hosts
  | .ten => t.ten = s.ten
  | .dram => t.dram = s.dram
  | .shadow => { t.shadow with armed := s.shadow.armed, scaled := s.shadow.scaled } = s.shadow
  | .freeze => t.freeze = s.freeze
  | .sparing => t.sparing = s.sparing
  | .bat =>
    { t.bat with
      chgEn := s.bat.chgEn, learnPwm := s.bat.learnPwm, chgHeld := s.bat.chgHeld } = s.bat
  | .adc => t.adc = s.adc
  | .clocks => t.clocks = s.clocks
  | .mgmt => t.mgmt = s.mgmt
  | .bus => t.bus = s.bus
  | .wire => t.wire = s.wire
  | .fw => t.fw = s.fw
  | .rings => ∀ d, (t.recorder d).ring = (s.recorder d).ring
  | .regs => ∀ idx sub, sub < 256 → ¬ stagingCount idx sub → t.reg idx sub = s.reg idx sub
  | .doms => t.doms = s.doms
  | .usedW1 => t.usedW1 = s.usedW1
  | .out => t.out = []
  | .freeCount => t.freeCount = s.freeCount
  | .pending => t.pending = s.pending

/-- Everything but the named parts is unchanged. -/
def Keeps (s t : State) (changed : List Part) : Prop := ∀ p, p ∉ changed → unchanged s t p

/-- Objects other than those named read as before. -/
def RegsBut (s t : State) (l : List (Nat × Nat)) : Prop :=
  ∀ idx sub, sub < 256 → ¬ stagingCount idx sub → (idx, sub) ∉ l → t.reg idx sub = s.reg idx sub

/-- A command answers a next state of which P holds. -/
def Does (c : Instr) (s : State) (P : State → Prop) : Prop :=
  ∃ t, Sys2Proof.Machine.exec c s = .next t ∧ P t

/-- The hosts of a state are these, but for the health last reported, which every command's end settles. -/
def hostsAre (t : State) (h : Hosts) : Prop :=
  { t.hosts with maintenance := h.maintenance, degraded := h.degraded } = h

/-- The shadowing state is this, but for the armed and scaled flags that every command's end settles. -/
def shadowIs (t : State) (x : Shadow) : Prop := { t.shadow with armed := x.armed, scaled := x.scaled } = x

/-- The battery is this, but for the charger and load pins that every command's end settles. -/
def batIs (t : State) (b : Battery) : Prop :=
  { t.bat with chgEn := b.chgEn, learnPwm := b.learnPwm, chgHeld := b.chgHeld } = b

/-- A link that takes requests: it is up, no freeze has stopped the ports, and its port has its clocks
and does not drain (02 R34, 12 R298, 14 R326). -/
def TakesRequests (s : State) (port link : Nat) : Prop :=
  s.aon.on = true ∧ port < 2 * s.n ∧ (s.hlink port link).st = 2 ∧ s.hosts.stopped = false ∧
    s.portDraining port = false ∧ s.portStopped port = false

/-- Nothing stands between the port and the channel of a line: the owning die is reached over a settled
route whose links carry traffic both ways, the drift is thawed, the line's rank is not lost and needs no
rebuild, and its quadrant is not entering hibernation (01 R18; 06 R141; 09 R232; 10 R249, R250, R257). -/
def WayOpen (s : State) (port dpa : Nat) : Prop :=
  (∀ h ∈ s.hosts.routeHolds, ¬ (h.ingress = dieOfPort port ∧ h.owner = (s.place dpa).die)) ∧
    s.reachable (dieOfPort port) (s.place dpa).die = true ∧ s.waitsAt (dieOfPort port) (s.place dpa).die = none ∧
    s.waitsAt (s.place dpa).die (dieOfPort port) = none ∧ s.mark (s.driftOf (flakeOf dpa)) = true ∧
    s.isLost (s.place dpa).rank = false ∧
    s.needsRebuild (s.place dpa).rank (s.place dpa).off = false ∧
    (s.quad (dieOfRank (s.physOf dpa)) (quadOfRank (s.physOf dpa))).hibEntry = false

/-- A CXL.mem request on a link to a host physical address that the link's decoders turn into this DPA, and that the
access checks admit (02 R37, 03 R73). -/
def Admitted (s : State) (port link hpa dpa : Nat) (wr : Bool) : Prop :=
  (s.hlink port link).toDpa hpa = some dpa ∧ s.checkAccess port link dpa wr = none

/-- A request that the access checks refuse with a DPA and a tenancy; an address that no decoder maps is in no
tenancy and stands for its own DPA (the model's choice, log 145). -/
def Refused (s : State) (port link hpa dpa n : Nat) (wr : Bool) : Prop :=
  ((s.hlink port link).toDpa hpa = some dpa ∧ s.checkAccess port link dpa wr = some n) ∨
    ((s.hlink port link).toDpa hpa = none ∧ dpa = hpa ∧ n = 0xFFFF)

/-- The subchannel that holds a line. -/
def subOfLine (s : State) (dpa : Nat) : Nat := subOf (s.physOf dpa) (s.place dpa).off

/-- The writes that stand in the 64 entries of a line's queue have been answered, and no notice in flight bears the
number of the next request (04 R86, 07 R154). -/
def WritesSettled (s : State) (dpa : Nat) : Prop :=
  (∀ e ∈ (s.chan (subOfLine s dpa)).writes.take 64, e.answered = true) ∧
    ∀ x ∈ s.shadow.notices, x.req ≠ s.hosts.nextReq

/-- 06 R137: the class of a request after the meter of its link. -/
def meteredClass (s : State) (port link n : Nat) : Nat :=
  if (s.tenancy n).classOf port = 0 ∧ (s.hlink port link).tokens = 0 then 1 else (s.tenancy n).classOf port

/-- A metered class 0 request takes one token of its link, and nothing else of the hosts changes but the
number of the next request (06 R137). -/
def metered (s t : State) (port link n : Nat) : Prop :=
  t.hosts.nextReq = s.hosts.nextReq + 1 ∧
    (t.hlink port link).tokens =
      (if (s.tenancy n).classOf port = 0 then (s.hlink port link).tokens - 1 else (s.hlink port link).tokens) ∧
    hostsAre t { s.hosts with nextReq := t.hosts.nextReq, links := t.hosts.links } ∧
    ∀ p l, linkKey p l ≠ linkKey port link → t.hlink p l = s.hlink p l

/-- Of the DRAM, only the queues of one subchannel change. -/
def OnlyQueue (s t : State) (sc : Nat) : Prop :=
  { t.dram with chans := s.dram.chans } = s.dram ∧ ∀ k, k ≠ sc → t.chan k = s.chan k

/-- A link whose mailbox serves commands: it is up, and die 0's firmware is ready (02 R39, R42). -/
def MailboxOpen (s : State) (port link : Nat) : Prop :=
  s.aon.on = true ∧ s.reaches (.mailbox port link) = true

/-- A mailbox command completes with a return code and output fields, and changes nothing else. -/
def Completes (c : Instr) (s : State) (port link rc : Nat) (fields : List Nat) : Prop :=
  Does c s fun t => t.out = [.mbox port link rc fields] ∧ Keeps s t [.out]

/-- A numeric object whose value is a plain entry of the register file, with no effect of its own on a
write but the check for STATE (15 R341, R342); a latency target of a port changes CDAT as well (02 R51). -/
def plainObject (c : Cls) (sub : Nat) : Bool :=
  match c, sub with
  | .ten _, _ | .homeKey _, 4 | .transitKey _, 4 | .shadow2, 1 | .bat1, 1 | .powDie _, 2 | .powDie _, 4
  | .adc _, 8 | .adc _, 0x0C | .timer _ _, 1 | .timer _ _, 2 | .fwXfer, 7 | .fwAct, 1 | .recDie _, 7 | .clk, 1 | .classPort _, 1
  | .classPort _, 2 => false
  | _, _ => true

/-- A write of a numeric object that passes checks 1 to 5 of 15 R341: the object, its row, the right of
the operation's realm, the session, the length. -/
def MayWrite (s : State) (o : Origin) (c : Cls) (r : ObjRow) (idx off : Nat) (data : Bytes) : Prop :=
  s.aon.on = true ∧ s.reaches o = true ∧ classify s.n idx = some c ∧ 0 < r.sub ∧
    findRow r.sub (c.rows s.n) = some r ∧ (s.rightOf o c r idx).writes = true ∧ s.inSession o = true ∧
    off = 0 ∧ data.length = r.ty.size ∧ 0 < r.ty.size

/-- A read of a numeric object that passes the checks of 15 R341 and asks for enough bytes. -/
def MayRead (s : State) (o : Origin) (c : Cls) (r : ObjRow) (idx want : Nat) : Prop :=
  s.aon.on = true ∧ s.reaches o = true ∧ classify s.n idx = some c ∧ 0 < r.sub ∧
    findRow r.sub (c.rows s.n) = some r ∧ (s.rightOf o c r idx).reads = true ∧
    (s.inSession o = true ∨ publicIndex idx = true) ∧ 0 < r.ty.size ∧ r.ty.size ≤ want ∧
    (∀ d, ¬ (c = .adc d ∧ r.sub = 6)) ∧ (∀ d, ¬ (c = .recDie d ∧ r.sub = 8)) ∧ ¬ (c = .fwStat ∧ r.sub = 5)

/-- A link whose DOE mailbox is served and whose SPDM connection has reached a stage (18 R399). -/
def SpdmAt (s : State) (port link stage : Nat) : Prop :=
  s.aon.on = true ∧ s.doeOn port link = true ∧ stage ≤ (s.hlink port link).spdm.stage

/-- An SPDM request is answered and changes nothing else. -/
def Answers (c : Instr) (s : State) (port link code : Nat) (fields : List Nat) : Prop :=
  Does c s fun t => t.out = [.doe port link code fields] ∧ Keeps s t [.out]

/-- Of the hosts, one link alone changes, and the link is this. -/
def LinkIs (s t : State) (port link : Nat) (l : HLink) : Prop :=
  t.hlink port link = l ∧ (∀ a b, linkKey a b ≠ linkKey port link → t.hlink a b = s.hlink a b) ∧
    hostsAre t { s.hosts with links := t.hosts.links }

/-- An SPDM request is answered, and of the rest its link's SPDM state alone changes. -/
def Moves (c : Instr) (s : State) (port link code : Nat) (fields : List Nat) (x : Spdm) : Prop :=
  Does c s fun t => t.out = [.doe port link code fields] ∧
    LinkIs s t port link { s.hlink port link with spdm := x } ∧ Keeps s t [.hosts, .out]

/-- Nothing is left for the end of a command to settle: the armed, scaled and health flags and the pins
agree with the rest of the state. -/
def Settled (s : State) : Prop := settle s = s

/-- A line of a flake that has its physical line to itself: its rank is neither lost nor redirected, and
no other line of the flake lies there. -/
def OwnLine (s : State) (m i : Nat) : Prop :=
  let at' := fun j : Nat => s.place (m * flakeBytes + 64 * j)
  s.isLost (at' i).rank = false ∧ s.redirectOf (at' i).rank = none ∧
    ∀ j, j < 256 → j ≠ i →
      lineKey (at' j).rank (at' j).off ≠ lineKey (at' i).rank (at' i).off ∧ s.redirectOf (at' j).rank = none

/-- A tenancy operation of the host-owner or rack realm that die 0 takes at once (03 R80). -/
def TakesNow (s : State) (o : Origin) : Prop :=
  s.aon.on = true ∧ s.reaches o = true ∧ s.inSession o = true ∧
    (s.realm o = .hostOwner ∨ s.realm o = .rack) ∧ s.opBusy = false ∧ s.ten.waiting = []

/-- A response frame of the package without a counter. -/
def ownResp (s : State) (h : OdpHead) (svc sid : Nat) (payload : Bytes) : TxFrame :=
  { respBare h svc sid payload with src := s.build.node }

/-- The same in the transmit queue since now. -/
def plainResp (s : State) (h : OdpHead) (svc sid : Nat) (payload : Bytes) : TxFrame :=
  { ownResp s h svc sid payload with queuedAt := s.aon.now }

/-- A write is answered on its path: the mailbox's completion, a response that waits for the field bus's
slot, or the two-wire port's (02 Table 02.5; 15 R358). -/
def SaysWrite (s t : State) (o : Origin) (status len : Nat) : Prop :=
  match o with
  | .mailbox port link => t.out = [.dict port link status len len []] ∧ t.bus = s.bus
  | .fieldBus _ sid => t.out = [] ∧ t.bus = { s.bus with
      slotted := s.bus.slotted ++ [ownResp s (callerOf o).head 5 sid (writeRespBytes status len)] }
  | .twoWire => t.out = [.objData .twoWire status len len []] ∧ t.bus = s.bus

/-- A dictionary object may be written, or read, by an operation: its path reaches the firmware, its
session is open, and its realm has the right (15 R339, R341). -/
def MayUse (s : State) (o : Origin) (idx sub : Nat) (write : Bool) : Prop :=
  s.aon.on = true ∧ s.reaches o = true ∧ s.inSession o = true ∧ 0 < sub ∧
    ∃ c r, classify s.n idx = some c ∧ findRow sub (c.rows s.n) = some r ∧
      (if write then (s.rightOf o c r idx).writes else (s.rightOf o c r idx).reads) = true

/-- A write is answered at once on its path: the mailbox's completion, a response frame of the field bus
with its session's next counter, or the two-wire port's answer (02 Table 02.5; 15 R356, R363). -/
def SaysNow (s t : State) (o : Origin) (status len : Nat) : Prop :=
  match o with
  | .mailbox port link => t.out = [.dict port link status len len []] ∧ t.bus = s.bus
  | .fieldBus _ _ => t.out = [] ∧ t.bus = (s.answerWrite (callerOf o) false status len len).bus
  | .twoWire => t.out = [.objData .twoWire status len len []] ∧ t.bus = s.bus

/-- A read is answered at once on its path. -/
def SaysRead (s t : State) (o : Origin) (status objLen : Nat) (data : Bytes) : Prop :=
  match o with
  | .mailbox port link => t.out = [.dict port link status data.length objLen data] ∧ t.bus = s.bus
  | .fieldBus _ _ => t.out = [] ∧ t.bus = (s.answerRead (callerOf o) status objLen data).bus
  | .twoWire => t.out = [.objData .twoWire status data.length objLen data] ∧ t.bus = s.bus

/-- Entry e alone of a converter's triggered entries has this trigger code. -/
def Listens (s : State) (d code e : Nat) : Prop :=
  e < 16 ∧ e ≠ 3 ∧ ∀ x, x < 16 → x ≠ 3 → ((s.entryReg d x 1 = 1 ∧ s.entryReg d x 6 = code) ↔ x = e)

/-- Of the tenancies and keys, one tenancy and one key slot change at most. -/
def OnlyTenancy (s t : State) (n k : Nat) : Prop :=
  (∀ m, m ≠ n → t.tenancy m = s.tenancy m) ∧ (∀ j, j ≠ k → t.keySlot j = s.keySlot j) ∧
    { t.ten with table := s.ten.table, keys := s.ten.keys } = s.ten

/-- A frame of another node reaches die 0's firmware (15 R348, R350). -/
def HearsFrom (s : State) (src : Nat) : Prop :=
  s.aon.on = true ∧ s.reaches (.fieldBus { prio := 0, src := src, tag := 0 } 31) = true ∧ src ≠ s.build.node

/-- The receive error counter after a frame without error, by the standard (15 R349). -/
def heardCount (s : State) : Nat := if s.reg 0x1100 4 ≤ 127 then s.reg 0x1100 4 - 1 else 127

/-- A session that is open to a node takes a frame under a counter: the first of the next four under which the
frame's MAC is this one (15 R354, R356). -/
def TakesCtr (s : State) (sid node : Nat) (f : TxFrame) (mac : BitVec 64) (ctr : Nat) : Prop :=
  let x := s.session sid
  sid < 4 ∧ x.isOpen = true ∧ x.node = node ∧ x.rxCtr < ctr ∧ ctr ≤ x.rxCtr + 4 ∧ ctr ≤ lastCtr ∧
    f.macOf x.ks ctr = mac ∧ ∀ c, x.rxCtr < c → c < ctr → f.macOf x.ks c ≠ mac

/-- A frame's MAC is this one under none of a session's next four counters. -/
def NoCtr (s : State) (sid : Nat) (f : TxFrame) (mac : BitVec 64) : Prop :=
  ∀ c, (s.session sid).rxCtr < c → c ≤ (s.session sid).rxCtr + 4 → f.macOf (s.session sid).ks c ≠ mac

/-- A session frame in its turn, with neither direction's counters used up by it and its answers. -/
def InTurn (s : State) (h : OdpHead) (sid : Nat) (f : TxFrame) (mac : BitVec 64) (ctr : Nat) : Prop :=
  HearsFrom s h.src ∧ TakesCtr s sid h.src f mac ctr ∧ ctr < lastCtr ∧ (s.session sid).txCtr + 2 < lastCtr

/-- A session after it accepted a frame and sent so many. -/
def taken (s : State) (sid ctr sent : Nat) : Session :=
  { s.session sid with
    rxCtr := ctr, fails := 0, accepted := min 0xFFFFFFFF ((s.session sid).accepted + 1)
    lastAt := s.aon.now, txCtr := (s.session sid).txCtr + sent }

/-- The state in which an accepted frame's service runs. -/
def afterFrame (s : State) (sid ctr : Nat) : State := s.heard.setSession sid (taken s sid ctr 0)

/-- The k-th frame from now in a session, joining the transmit queue now, with its counter and MAC. -/
def sentAt (s : State) (k : Nat) (f : TxFrame) : TxFrame :=
  { f.sign (s.session f.sid).ks ((s.session f.sid).txCtr + k) with queuedAt := s.aon.now }

/-- The k-th response frame from now in a session. -/
def respAt (s : State) (k : Nat) (h : OdpHead) (svc sid : Nat) (payload : Bytes) : TxFrame :=
  sentAt s k (ownResp s h svc sid payload)

/-- Of the field bus, one session is this, the others are as before, error confinement keeps the node on
the bus, and the rest is this. -/
def BusIs (s t : State) (sid : Nat) (x : Session) (b : Bus) : Prop :=
  t.session sid = x ∧ (∀ k, k ≠ sid → t.session k = s.session k) ∧ t.busOn = true ∧
    { t.bus with sessions := s.bus.sessions, st := s.bus.st } = b

/-- A step of the block never ends in a fault or a refusal. -/
def Runs (s : State) : Prop := ∃ t, step s = .next t

end Sys2Proof.Safety
end

