-- ==== Sys2Proof/Certificates/Slice0/Obligations.lean ====
section
/-! DEFINITION. The statements put to the provers, one proposition each. -/
open Sys2Proof Sys2Proof.Machine Sys2Proof.Safety

/-- The form of a block: a step takes the command at the front of the queue and runs it on the rest (the model's own
queue, log 3). -/
def Obligations.StepRunsTheFrontCommand : Prop :=
  ∀ (s : State) (c : Instr) (r : List Instr), s.pending = c :: r →
    step s = exec c { s with pending := r }

/-- 14 R322: device time counts microseconds and runs from state 1 on; a tick of 1 ns on an empty queue is the model's
choice (log 3). -/
def Obligations.IdleStepTicksTheClock : Prop :=
  ∀ s : State, s.pending = [] → s.aon.on = true → s.aon.slewLeft = 0 →
    ∃ t, step s = .next t ∧ t.aon.now = s.aon.now + 1 ∧
      t.aon.deviceTime =
        (if s.seq.st = 14 then
          (if rtcAt (s.aon.now + 1) = true then (s.aon.deviceTime + (s.aon.rtcFrac + 15625) / 512) % 2 ^ 48
           else s.aon.deviceTime)
         else if (s.aon.now + 1) % 1000 = 0 ∧ 1 ≤ s.seq.st then (s.aon.deviceTime + 1) % 2 ^ 48
         else s.aon.deviceTime) ∧
      RegsBut s t [(0x1100, 3)] ∧ Keeps s t [.aon, .bus, .regs, .out]

/-- The spec answers every error with a response, a record, a flag or a counter (15 R341, 02 R54). -/
def Obligations.EveryCommandAnswersANextState : Prop :=
  (∀ (c : Instr) (s : State), ∃ t, exec c s = .next t) ∧ ∀ s : State, Runs s

/-- 12 Table 12.3, Off: no supply but the ledger's own. -/
def Obligations.WithoutAonSupplyOnlyThePowerOnActs : Prop :=
  ∀ (c : Instr) (s : State), s.aon.on = false → c ≠ .aonPowerOn → exec c s = .next { s with out := [] }

/-- 07 R179: persistence ceases to be armed when B falls below 1 GiB or the capacity rule fails. -/
def Obligations.PersistenceArmedOnlyWhileBacked : Prop :=
  ∀ s t : State, ArmedIsBacked s → step s = .next t → ArmedIsBacked t

/-- 07 R171: the shares are scaled while their sum exceeds B - M. -/
def Obligations.ScaledSharesFlagAlwaysAgrees : Prop :=
  ∀ s t : State, ScaledAgrees s → step s = .next t → ScaledAgrees t

/-- 11 R271: the conditions under which CHG_EN is high; R276: the learn load. -/
def Obligations.ChargerAndLoadPinsAlwaysAgree : Prop :=
  ∀ s t : State, PinsAgree s → step s = .next t → PinsAgree t

/-- 02 R45; 07 R171, R179; 11 R271, R276: what follows from the rest of the state always agrees with it. -/
def Obligations.EveryStepLeavesNothingToSettle : Prop :=
  ∀ s t : State, Settled s → step s = .next t → Settled t

/-- 12 Table 12.1, 14 Table 14.3, R323. -/
def Obligations.ResetStateHoldsWhatTheSpecGives : Prop :=
  State.reset.seq.st = 0 ∧ State.reset.timeValid = false ∧ State.reset.aon.deviceTime = 1000000 ∧
    (∀ k, State.reset.tenancy k = noTen) ∧ (∀ k, State.reset.keySlot k = noKey) ∧
    (∀ p l, State.reset.hlink p l = noLink) ∧ (∀ k, State.reset.session k = noSession) ∧
    State.reset.dram.lines = [] ∧ (∀ d, (State.reset.recorder d).ring = []) ∧
    State.reset.shadow.armed = false ∧
    (∀ idx sub, State.reset.reg idx sub = objDefault State.reset.n (okey idx sub)) ∧
    State.reset.pending = [] ∧
    ArmedIsBacked State.reset ∧ ScaledAgrees State.reset ∧ PinsAgree State.reset ∧ Settled State.reset

/-- 03 R72, R73; 04 R86; 06 R132, R133, R137: a host read on its way to its channel.
It says that these commands answer a next state: cxlMemRead. -/
def Obligations.ReadJoinsItsChannelQueue : Prop :=
  ∀ (s : State) (port link tag hpa dpa n : Nat), TakesRequests s port link → s.mediaReady = true →
    Admitted s port link hpa dpa false → s.coverOf (dpa / driftBytes) = some n → WayOpen s port dpa →
    (∀ e ∈ (s.chan (subOfLine s dpa)).writes, e.dpa ≠ dpa) →
    Does (.cxlMemRead port link tag hpa) s fun t =>
      (∃ q : Req, (t.chan (subOfLine s dpa)).reads = (s.chan (subOfLine s dpa)).reads ++ [q] ∧
        q.id = s.hosts.nextReq ∧ q.port = port ∧ q.link = link ∧ q.tag = tag ∧ q.op = .read ∧ q.dpa = dpa ∧
        q.ten = n ∧ q.key = s.keyFor n dpa ∧ q.cls = meteredClass s port link n ∧ q.enter = s.aon.now) ∧
      (t.chan (subOfLine s dpa)).writes = (s.chan (subOfLine s dpa)).writes ∧
      metered s t port link n ∧ OnlyQueue s t (subOfLine s dpa) ∧
      shadowIs t { s.shadow with heat := t.shadow.heat, heatSub := t.shadow.heatSub, dies := t.shadow.dies } ∧
      RegsBut s t [(0x5010 + port, 3), (0x5010 + port, 4), (0x5010 + port, 5)] ∧
      Keeps s t [.hosts, .dram, .shadow, .regs]

/-- 04 R86, R104; 06 R146; 07 R154, R173: a host write on its way to its channel.
It says that these commands answer a next state: cxlMemWrite, cxlMemPartialWrite. -/
def Obligations.WriteJoinsItsChannelQueueAndCompletes : Prop :=
  ∀ (s : State) (port link tag hpa dpa n : Nat) (data : Line) (be : BitVec 64), TakesRequests s port link →
    s.mediaReady = true → Admitted s port link hpa dpa true → s.hasCredit port .write = true →
    s.coverOf (dpa / driftBytes) = some n → WayOpen s port dpa → WritesSettled s dpa →
    (∀ e ∈ (s.chan (subOfLine s dpa)).writes, e.dpa ≠ dpa) →
    (s.tenHeld n = false ∧ s.waitsBehind n = false ∨ isSnow (s.firn (flakeOf dpa)) = true) →
    let joins := fun (op : ReqOp) (t : State) =>
      (∃ q ∈ (t.chan (subOfLine s dpa)).writes,
        q.id = s.hosts.nextReq ∧ q.port = port ∧ q.link = link ∧ q.tag = tag ∧ q.op = op ∧ q.dpa = dpa ∧
        q.data = data ∧ (op = .partialWrite → q.be = be) ∧ q.ten = n ∧ q.key = s.keyFor n dpa ∧
        q.cls = meteredClass s port link n ∧ q.confirmed = false) ∧
      (t.chan (subOfLine s dpa)).writes.map (·.id) =
        (s.chan (subOfLine s dpa)).writes.map (·.id) ++ [s.hosts.nextReq] ∧
      (t.chan (subOfLine s dpa)).reads = (s.chan (subOfLine s dpa)).reads ∧
      t.shadow.notices = s.shadow.notices ++
        [{ req := s.hosts.nextReq, sc := subOfLine s dpa, flake := flakeOf dpa, ten := n, applied := false }] ∧
      (s.writeThrough = false → (s.chan (subOfLine s dpa)).writes.length < 64 →
        Output.cmp port link tag ∈ t.out) ∧
      metered s t port link n ∧ OnlyQueue s t (subOfLine s dpa) ∧
      shadowIs t { s.shadow with heat := t.shadow.heat, heatSub := t.shadow.heatSub, dies := t.shadow.dies,
                                 notices := t.shadow.notices, through := t.shadow.through } ∧
      RegsBut s t [(0x5010 + port, 3), (0x5010 + port, 4), (0x5010 + port, 5), (0x5010 + port, 6)] ∧
      Keeps s t [.hosts, .dram, .shadow, .regs, .out]
    Does (.cxlMemWrite port link tag hpa data) s (joins .write) ∧
      Does (.cxlMemPartialWrite port link tag hpa data be) s
        (joins (if be = fullBe then .write else .partialWrite))

/-- 07 R173, R174: write admission.
It says that these commands answer a next state: cxlMemWrite. -/
def Obligations.HeldTenancysWriteWaits : Prop :=
  ∀ (s : State) (port link tag hpa dpa n : Nat) (data : Line), TakesRequests s port link →
    s.mediaReady = true → Admitted s port link hpa dpa true → s.hasCredit port .write = true →
    s.coverOf (dpa / driftBytes) = some n → WayOpen s port dpa →
    (s.tenHeld n = true ∨ s.waitsBehind n = true) → isSnow (s.firn (flakeOf dpa)) = false →
    Does (.cxlMemWrite port link tag hpa data) s fun t =>
      (∃ q : Req, t.shadow.held = s.shadow.held ++ [q] ∧ q.id = s.hosts.nextReq ∧ q.dpa = dpa ∧
        q.data = data ∧ q.ten = n ∧ q.enter = s.aon.now) ∧
      (t.shadow.staged = s.shadow.staged ++ [s.hosts.nextReq] ↔
        s.stageOcc (s.place dpa).die < 1024 ∧ s.ingressWaits (s.place dpa).die = false) ∧
      t.reg 0x5804 1 = min 0xFFFFFFFF (s.reg 0x5804 1 + 1) ∧ metered s t port link n ∧
      shadowIs t { s.shadow with heat := t.shadow.heat, heatSub := t.shadow.heatSub, dies := t.shadow.dies,
                                 held := t.shadow.held, staged := t.shadow.staged } ∧
      RegsBut s t [(0x5010 + port, 3), (0x5010 + port, 4), (0x5804, 1)] ∧ Keeps s t [.hosts, .shadow, .regs]

/-- 03 R73, 02 R54, Table 02.9: violations, and accesses before the media are ready.
It says that these commands answer a next state: cxlMemRead, cxlMemWrite, cxlMemPartialWrite. -/
def Obligations.RefusedRequestsAreAnswered : Prop :=
  (∀ (s : State) (port link tag hpa dpa n : Nat) (data : Line) (be : BitVec 64), TakesRequests s port link →
    s.mediaReady = true →
    let counted := fun (t : State) =>
      t.reg (ixPort port + 2) 1 = min 0xFFFFFFFF (s.reg (ixPort port + 2) 1 + 1) ∧
      t.reg (ixPort port + 2) 2 = dpa ∧ t.reg (ixPort port + 2) 3 = n ∧ t.reg (ixPort port + 2) 4 = link ∧
      RegsBut s t [(ixPort port + 2, 1), (ixPort port + 2, 2), (ixPort port + 2, 3), (ixPort port + 2, 4)] ∧
      Keeps s t [.regs, .out]
    (Refused s port link hpa dpa n false →
      Does (.cxlMemRead port link tag hpa) s fun t => t.out = [.memData port link tag 0 true] ∧ counted t) ∧
    (Refused s port link hpa dpa n true → s.hasCredit port .write = true →
      Does (.cxlMemWrite port link tag hpa data) s (fun t => t.out = [.cmp port link tag] ∧ counted t) ∧
      Does (.cxlMemPartialWrite port link tag hpa data be) s fun t =>
        t.out = [.cmp port link tag] ∧ counted t)) ∧
  ∀ (s : State) (port link tag hpa : Nat) (data : Line) (be : BitVec 64), TakesRequests s port link →
    s.mediaReady = false →
    Does (.cxlMemRead port link tag hpa) s (fun t => t.out = [.memData port link tag 0 true] ∧ Keeps s t [.out]) ∧
    (s.hasCredit port .write = true →
      Does (.cxlMemWrite port link tag hpa data) s (fun t => t.out = [.cmp port link tag] ∧ Keeps s t [.out]) ∧
      Does (.cxlMemPartialWrite port link tag hpa data be) s fun t =>
        t.out = [.cmp port link tag] ∧ Keeps s t [.out])

/-- 02 R34, R36, R53; 06 R137: host links.
It says that these commands answer a next state: class0TokenRefill, linkTrainingDone, ideCheckFail. -/
def Obligations.LinksTrainAndMeter : Prop :=
  ∀ (s : State) (port link : Nat) (p : Partner), s.aon.on = true → port < 2 * s.n →
    let only := fun (t : State) (l : HLink) => LinkIs s t port link l ∧ Keeps s t [.hosts]
    let v := linkSpeed (speedLimit (s.reg (ixPort port) 2)) p.maxGts
    (s.linkUsable port link = true → (s.hlink port link).st ≤ 1 → p.flit256 = true → 0 < v →
      Does (.linkTrainingDone port link p) s fun t =>
        only t { s.hlink port link with
          st := 2, speed := v, width := lanesOf (s.bifOf port)
          latOpt := p.latOpt && decide (s.reg (ixPort port) 6 = 1), tokens := s.reg 0x5000 1 }) ∧
    (s.linkUsable port link = true → (s.hlink port link).st ≤ 1 → p.flit256 = false → 0 < v →
      Does (.linkTrainingDone port link p) s fun t =>
        only t { s.hlink port link with st := 3, speed := v, width := lanesOf (s.bifOf port) }) ∧
    ((s.hlink port link).st = 2 →
      Does (.class0TokenRefill port link) s fun t =>
        only t { s.hlink port link with tokens := min (s.reg 0x5000 1) ((s.hlink port link).tokens + 1) }) ∧
    ((s.hlink port link).st = 2 → (s.hlink port link).ideUp = true →
      Does (.ideCheckFail port link) s fun t => only t { s.hlink port link with
        st := 4, ideUp := false, ideKeyed := false, rekeyDue := true })

/-- 02 R34, R35; 14 Table 14.3, R330: resets of the host side.
It says that these commands answer a next state: perstNFall, perstNRise, linkReset, hostLinkDown. -/
def Obligations.ResetsClearLinksAndTheirReads : Prop :=
  ∀ (s : State) (port link : Nat), s.aon.on = true → port < 2 * s.n →
    let gone := fun (t : State) (g : Req → Prop) (more : List Part) =>
      (∀ sc, ∀ q ∈ (t.chan sc).reads, q.op = .read → ¬ g q) ∧ t.dram.lines = s.dram.lines ∧
      t.shadow.firn = s.shadow.firn ∧ Keeps s t ([.hosts, .dram, .shadow, .freeze, .sparing] ++ more)
    let cleared := fun (t : State) (st : Nat) =>
      t.hlink port link = { s.hlink port link with
        st := st, speed := 0, width := 0, latOpt := false, ideUp := false, ideKeyed := false, tokens := 0 } ∧
      (∀ a b, linkKey a b ≠ linkKey port link → t.hlink a b = s.hlink a b)
    (s.perst port = false →
      Does (.perstNFall port) s fun t =>
        t.perst port = true ∧ (∀ l < 4, t.hlink port l = { noLink with rekeyDue := (s.hlink port l).rekeyDue }) ∧ t.bifOf port = s.reg (ixPort port) 1 ∧
        (∀ a b, b < 4 → a ≠ port → t.hlink a b = s.hlink a b) ∧ gone t (fun q => q.port = port) [.ten, .seq] ∧
        (∀ e ∈ t.hosts.gpf, e.port ≠ port) ∧ t.ten.table = s.ten.table ∧ t.ten.keys = s.ten.keys ∧
        { t.seq with drains := s.seq.drains } = s.seq ∧
        ∀ x ∈ t.ten.waiting, ∀ l, x.caller.origin = .mailbox port l → x.caller.gone = true) ∧
    (2 ≤ (s.hlink port link).st →
      Does (.linkReset port link) s (fun t => cleared t 1 ∧
        (∀ e ∈ t.hosts.gpf, e.port = port → e.link ≠ link) ∧ gone t (fun q => q.port = port ∧ q.link = link) []) ∧
      Does (.hostLinkDown port link) s fun t => cleared t 0 ∧
        (∀ e ∈ t.hosts.gpf, e.port = port → e.link ≠ link) ∧ gone t (fun q => q.port = port ∧ q.link = link) []) ∧
    (s.perst port = true →
      Does (.perstNRise port) s fun t =>
        t.perst port = false ∧
        (s.portPowered port = true → s.portPads port = true → s.dieOut (dieOfPort port) = false → s.portStopped port = false → s.hosts.stopped = false → 8 ≤ s.seq.st →
          ∀ l < linksOf (s.bifOf port), (s.hlink port l).st = 0 →
            t.hlink port l = { s.hlink port l with st := 1 }) ∧
        (∀ a b, b < 4 → a ≠ port → t.hlink a b = s.hlink a b) ∧
        t.aon = { s.aon with
          wakeStored := if s.seq.st = 14 ∧ bitOf (s.reg 0x7101 3) 2 = true then s.aon.wakeStored ++ [4]
                        else s.aon.wakeStored } ∧
        hostsAre t { s.hosts with links := t.hosts.links, perstLow := t.hosts.perstLow } ∧
        Keeps s t [.hosts, .aon])

/-- 02 R37, R44, R54.
It says that these commands answer a next state: cxlIoRequest, globalPersistentFlush, gpfDrainComplete. -/
def Obligations.GpfAndCxlIo : Prop :=
  (∀ (s : State) (port link : Nat), s.aon.on = true → (s.hlink port link).st = 2 → s.hosts.stopped = false →
    Does (.globalPersistentFlush port link) s fun t =>
      hostsAre t { s.hosts with
        gpf := s.hosts.gpf ++ [{ port := port, link := link, upTo := s.hosts.nextReq }] } ∧ Keeps s t [.hosts]) ∧
  (∀ s : State, s.aon.on = true →
    Does .gpfDrainComplete s fun t =>
      (∀ f ∈ s.hosts.gpf, (∀ q ∈ s.writesUnderWay, f.upTo ≤ q.id) →
        (∀ e ∈ s.dram.chans, ∀ q ∈ e.2.writes, f.upTo ≤ q.id) →
        f ∉ t.hosts.gpf ∧ Output.gpfDone f.port f.link ∈ t.out) ∧
      t.out = (s.hosts.gpf.filter fun f => !s.flushHeld f).map (fun f => Output.gpfDone f.port f.link) ∧
      hostsAre t { s.hosts with gpf := s.hosts.gpf.filter s.flushHeld } ∧ Keeps s t [.hosts, .out]) ∧
  (∀ (s : State) (port link : Nat) (tgt : IoTarget), s.aon.on = true → (s.hlink port link).st = 2 →
    s.hosts.stopped = false → ioImplemented tgt = true →
    Does (.cxlIoRequest port link tgt none) s fun t =>
      t.out = [.ioData port link (s.ioValue port link tgt)] ∧ Keeps s t [.out]) ∧
  (∀ (s : State) (port link v : Nat) (tgt : IoTarget), s.aon.on = true → (s.hlink port link).st = 2 →
    s.hosts.stopped = false → ioImplemented tgt = true →
    Does (.cxlIoRequest port link tgt (some v)) s fun t =>
      t.out = [.ioData port link 0] ∧ LinkIs s t port link ((s.hlink port link).ioWrite v tgt) ∧
      ((∃ d f, tgt = .hdm d f ∧ hdmTakes f v = true) ∨ (∃ k, tgt = .msix k) → t.ioValue port link tgt = v) ∧
      ((∃ d f, tgt = .hdm d f ∧ hdmTakes f v = false) → t.hlink port link = s.hlink port link) ∧
      Keeps s t [.hosts, .out]) ∧
  (∀ (s : State) (port link : Nat) (tgt : IoTarget) (wr : Option Nat), s.aon.on = true →
    (s.hlink port link).st = 2 → s.hosts.stopped = false → ioImplemented tgt = false →
    Does (.cxlIoRequest port link tgt wr) s fun t =>
      t.out = [.ioUnsupported port link] ∧
      LinkIs s t port link { s.hlink port link with aer := (s.hlink port link).aer + 1 } ∧
      Keeps s t [.hosts, .out]) ∧
  ∀ (s : State) (port link : Nat) (tgt : IoTarget) (wr : Option Nat), s.aon.on = true →
    ((s.hlink port link).st ≠ 2 ∨ s.hosts.stopped = true) →
    Does (.globalPersistentFlush port link) s (fun t => Keeps s t []) ∧
      Does (.cxlIoRequest port link tgt wr) s fun t => Keeps s t []

/-- 01 R18, R19, Table 01.4.
It says that these commands answer a next state: flitCrcFailure, linkRetrain, linkRetrainEnd, routeHoldEnd. -/
def Obligations.DieLinksRetrainAndFail : Prop :=
  ∀ (s : State) (die lk owner : Nat) (l : List Nat), s.aon.on = true → s.bonded die lk = true →
    let x := s.dieLink die lk
    (x.st = 1 → s.aon.now - x.since < 1000000 → 0 < x.replays →
      Does (.flitCrcFailure die lk) s fun t =>
        t.dieLink die lk = { x with replays := x.replays + 1 } ∧ Keeps s t [.hosts]) ∧
    (x.st = 1 → (1000000 ≤ s.aon.now - x.since ∨ x.replays = 0) →
      Does (.flitCrcFailure die lk) s fun t =>
        t.dieLink die lk = { x with replays := 1, since := s.aon.now } ∧ Keeps s t [.hosts]) ∧
    (x.st = 1 → 16 < x.replays →
      Does (.linkRetrain die lk) s fun t =>
        (t.dieLink die lk).st = 2 ∧
        t.reg (0x1010 + die) 4 = min 0xFFFFFFFF (s.reg (0x1010 + die) 4 + 1) ∧
        t.reg (0x1010 + across die lk) 4 = min 0xFFFFFFFF (s.reg (0x1010 + across die lk) 4 + 1) ∧
        RegsBut s t [(0x1010 + die, 4), (0x1010 + across die lk, 4)] ∧ Keeps s t [.hosts, .regs]) ∧
    (x.st = 2 →
      ((∀ f ∈ s.hosts.flits, f.key ≠ dieLinkKey die lk) → Does (.linkRetrainEnd die lk true l) s fun t =>
        t.dieLink die lk = { x with st := 1, replays := 0, fails := 0 } ∧ Keeps s t [.hosts]) ∧
      (x.fails < 2 → Does (.linkRetrainEnd die lk false l) s fun t =>
        t.dieLink die lk = { x with fails := x.fails + 1 } ∧ Keeps s t [.hosts]) ∧
      (2 ≤ x.fails → Does (.linkRetrainEnd die lk false l) s fun t => (t.dieLink die lk).st = 3)) ∧
    ((∀ h ∈ s.hosts.routeHolds, h.ingress = die ∧ h.owner = owner → h.held = []) →
      Does (.routeHoldEnd die owner) s fun t =>
        hostsAre t { s.hosts with
          routeHolds := s.hosts.routeHolds.filter fun h => !(decide (h.ingress = die) && decide (h.owner = owner)) } ∧
        Keeps s t [.hosts])

/-- 02 R39, R45, R48, Tables 02.2 and 02.3.
It says that these commands answer a next state: identify, getEventRecords, getEventInterruptPolicy,
getFwInfo, getSupportedLogs, getLog, identifyMemoryDevice, getPartitionInfo, setPartitionInfo, getLsa,
getHealthInfo, getAlertConfig, getShutdownState, getPoisonList, unsupportedOpcode. -/
def Obligations.InformationCommandsAnswer : Prop :=
  ∀ (s : State) (port link log off len opcode dpa n : Nat), MailboxOpen s port link →
    (s.realm (.mailbox port link) = .hostOwner →
      (∃ a b, Completes (.getFwInfo port link) s port link rcSuccess [2, a, b, s.slotView 0, s.slotView 1]) ∧
      (off + len ≤ 131072 → len ≤ 4096 →
        Completes (.getLsa port link off len) s port link rcSuccess
          ((Memory.bytes s.hosts.lsa off len).map (·.toNat))) ∧
      (let l := s.poisonEntries.filter fun e =>
          decide (64 * e.line < dpa + n) && decide (dpa < 64 * (e.line + e.len));
        l.length ≤ 254 →
          Completes (.getPoisonList port link dpa n) s port link rcSuccess
            ([s.hosts.poisonOverflow.toNat, s.hosts.overflowTime, 0, l.length] ++
              l.flatMap fun e => [64 * e.line, e.len, e.injected.toNat]))) ∧
    Completes (.identify port link) s port link rcSuccess
      [0x1F3A, s.build.variant.deviceId, s.build.serial, 4096] ∧
    Completes (.getSupportedLogs port link) s port link rcSuccess [1, (s.celOf port link).length] ∧
    (off + len ≤ (s.celOf port link).length → len ≤ 4096 →
      Completes (.getLog port link true off len) s port link rcSuccess
        ((((s.celOf port link).drop off).take len).map (·.toNat))) ∧
    Completes (.identifyMemoryDevice port link) s port link rcSuccess
      [s.hostVisible / 2 ^ 28, 0, s.hostVisible / 2 ^ 28, 0, 131072] ∧
    Completes (.getPartitionInfo port link) s port link rcSuccess [0, s.hostVisible / 2 ^ 28, 0, 0] ∧
    Completes (.setPartitionInfo port link) s port link rcUnsupported [] ∧
    Completes (.unsupportedOpcode port link opcode) s port link rcUnsupported [] ∧
    Completes (.getHealthInfo port link) s port link rcSuccess
      [s.mediaReady.toNat, (s.dieList.map s.wear).foldl max 0, raw32 s.hottest, s.needsMaintenance.toNat,
        s.isDegraded.toNat, s.hosts.dirtyShutdowns] ∧
    Completes (.getAlertConfig port link) s port link rcSuccess [s.hosts.alert] ∧
    Completes (.getShutdownState port link) s port link rcSuccess [look 0 s.hosts.shutdown port] ∧
    Completes (.getEventInterruptPolicy port link) s port link rcSuccess [(s.hlink port link).policy] ∧
    (log ≤ 3 → ((s.hlink port link).log log).recs.length ≤ 31 →
      Completes (.getEventRecords port link log) s port link rcSuccess
        ([((s.hlink port link).log log).overflow.toNat, 0, ((s.hlink port link).log log).recs.length] ++
          ((s.hlink port link).log log).recs.flatMap LogRec.fields))

/-- 02 R39: the tenant realm.
It says that these commands answer a next state: dictionaryAccessWrite. -/
def Obligations.TenantRealmGetsUnsupported : Prop :=
  ∀ (s : State) (port link a b : Nat) (data : Bytes) (l : Line), MailboxOpen s port link →
    s.reg (ixPort port) 3 ≠ 1 →
    (leAt data 0 1 = 1 → Completes (.dictionaryAccessWrite port link data) s port link rcUnsupported []) ∧
    ∀ c ∈ [Instr.getFwInfo port link, .transferFwInitiate port link data, .transferFwContinue port link a data,
        .transferFwEnd port link a b data, .activateFwOnline port link a, .activateFwOffline port link a,
        .getLsa port link a b, .setLsa port link a data, .setAlertConfig port link a,
        .setShutdownState port link a, .getPoisonList port link a b, .injectPoison port link a,
        .clearPoison port link a l, .recorderStream port link data],
      Completes c s port link rcUnsupported []

/-- 02 R41.
It says that these commands answer a next state: getTimestamp, setTimestamp. -/
def Obligations.SetTimestampYieldsToTimeSync : Prop :=
  ∀ (s : State) (port link ns at_ : Nat), MailboxOpen s port link →
    (s.aon.rackSyncAt = some at_ → s.aon.now - at_ ≤ 10000000000 →
      Does (.setTimestamp port link ns) s fun t =>
        t.out = [.mbox port link rcSuccess []] ∧ t.aon = s.aon ∧ Keeps s t [.out]) ∧
    Does (.getTimestamp port link) s fun t =>
      t.out = [.mbox port link rcSuccess [s.aon.deviceTime * 1000]] ∧ Keeps s t [.out]

/-- 02 R45, R48, Table 02.3; 14 R323.
It says that these commands answer a next state: clearEventRecords, setEventInterruptPolicy, setTimestamp,
setLsa, setAlertConfig, setShutdownState. -/
def Obligations.MailboxSettingsAreKept : Prop :=
  ∀ (s : State) (port link v log : Nat) (data : Bytes) (handles : List Nat), MailboxOpen s port link →
    let ok := fun (t : State) => t.out = [.mbox port link rcSuccess []]
    let linkOnly := fun (t : State) (l : HLink) => LinkIs s t port link l ∧ Keeps s t [.hosts, .out]
    Does (.setEventInterruptPolicy port link v) s (fun t => ok t ∧ linkOnly t { s.hlink port link with policy := v }) ∧
    (log ≤ 3 → Does (.clearEventRecords port link log true handles) s fun t =>
      ok t ∧ linkOnly t ((s.hlink port link).setLog log noLog)) ∧
    (log ≤ 3 → (∀ h ∈ handles, ∃ r ∈ ((s.hlink port link).log log).recs, r.handle = h) →
      Does (.clearEventRecords port link log false handles) s fun t =>
        ok t ∧ linkOnly t ((s.hlink port link).setLog log { (s.hlink port link).log log with
          recs := ((s.hlink port link).log log).recs.filter fun r => !handles.elem r.handle })) ∧
    (s.aon.rackSyncAt = none → Does (.setTimestamp port link v) s fun t =>
      ok t ∧ t.aon = { s.aon with deviceTime := v / 1000 % 2 ^ 48, slewLeft := 0, slewPhase := 0 } ∧
      t.timeValid = true ∧ RegsBut s t [(0x7300, 6)] ∧ Keeps s t [.aon, .regs, .out]) ∧
    (s.realm (.mailbox port link) = .hostOwner →
      Does (.setAlertConfig port link v) s (fun t =>
        ok t ∧ hostsAre t { s.hosts with alert := v } ∧ Keeps s t [.hosts, .out]) ∧
      Does (.setShutdownState port link v) s (fun t =>
        ok t ∧ look 0 t.hosts.shutdown port = v ∧ (∀ p, p ≠ port → look 0 t.hosts.shutdown p = look 0 s.hosts.shutdown p) ∧
        hostsAre t { s.hosts with shutdown := t.hosts.shutdown } ∧ Keeps s t [.hosts, .out]) ∧
      (v + data.length ≤ 131072 → data.length ≤ 4096 →
        Does (.setLsa port link v data) s fun t =>
          ok t ∧ Memory.bytes t.hosts.lsa v data.length = data ∧
          (∀ a, (a < v ∨ v + data.length ≤ a) → Memory.byte t.hosts.lsa a = Memory.byte s.hosts.lsa a) ∧
          hostsAre t { s.hosts with lsa := t.hosts.lsa } ∧ Keeps s t [.hosts, .out]))

/-- 02 R46, R47.
It says that these commands answer a next state: injectPoison, clearPoison. -/
def Obligations.PoisonWritesJoinTheWriteQueue : Prop :=
  ∀ (s : State) (port link dpa : Nat) (data : Line), MailboxOpen s port link → port < 2 * s.n →
    s.realm (.mailbox port link) = .hostOwner →
    (s.mayPoison port dpa = false →
      Completes (.injectPoison port link dpa) s port link rcInvalidInput [] ∧
      Completes (.clearPoison port link dpa data) s port link rcInvalidInput []) ∧
    (s.mayPoison port dpa = true → s.mediaReady = true → WayOpen s port dpa → WritesSettled s dpa →
      isSnow (s.firn (flakeOf dpa)) = true → (∀ e ∈ (s.chan (subOfLine s dpa)).writes, e.dpa ≠ dpa) →
      let joins : State → ReqOp → Line → Prop := fun t op x =>
        (∃ q ∈ (t.chan (subOfLine s dpa)).writes, q.id = s.hosts.nextReq ∧ q.op = op ∧ q.dpa = dpa ∧ q.data = x ∧
          q.answered = true) ∧
        (t.chan (subOfLine s dpa)).reads = (s.chan (subOfLine s dpa)).reads ∧
        Output.mbox port link rcSuccess [] ∈ t.out ∧ OnlyQueue s t (subOfLine s dpa) ∧
        t.shadow.firn = s.shadow.firn ∧ Keeps s t [.hosts, .dram, .shadow, .out]
      (Does (.injectPoison port link dpa) s fun t => joins t .injectPoison 0) ∧
      Does (.clearPoison port link dpa data) s fun t => joins t .clearPoison data)

/-- 02 Table 02.5, R43; 15 R341 to R343.
It says that these commands answer a next state: dictionaryAccessRead, dictionaryAccessWrite. -/
def Obligations.DictionaryAccessReadsAndWrites : Prop :=
  ∀ (s : State) (port link : Nat) (p : Bytes) (c : Cls) (r : ObjRow),
    (p.length = 12 → leAt p 0 1 = 0 → leAt p 1 1 = r.sub → leAt p 4 4 = 0 →
      MayRead s (.mailbox port link) c r (leAt p 2 2) (leAt p 8 4) →
      Does (.dictionaryAccessRead port link p) s fun t =>
        t.out = [.dict port link stOk r.ty.size r.ty.size
          (leBytes r.ty.size (s.valueOf (s.realm (.mailbox port link)) (leAt p 2 2) r.sub))] ∧
        Keeps s t [.out]) ∧
    (s.realm (.mailbox port link) = .hostOwner → p.length = 12 + leAt p 8 4 → leAt p 8 4 ≤ 4084 → leAt p 0 1 = 1 → leAt p 1 1 = r.sub →
      MayWrite s (.mailbox port link) c r (leAt p 2 2) (leAt p 4 4) (p.drop 12) → plainObject c r.sub = true →
      s.barred c r.sub (s.legal c r.sub (clampRaw r (leNat (p.drop 12)))) = false →
      Does (.dictionaryAccessWrite port link p) s fun t =>
        t.out = [.dict port link stOk r.ty.size r.ty.size []] ∧
        t.reg (leAt p 2 2) r.sub = s.legal c r.sub (clampRaw r (leNat (p.drop 12))) ∧
        RegsBut s t [(leAt p 2 2, r.sub)] ∧ Keeps s t [.regs, .out])

/-- 02 Table 02.6; 19 R411.
It says that these commands answer a next state: recorderStream. -/
def Obligations.RecorderStreamReturnsWholeRecords : Prop :=
  ∀ (s : State) (port link : Nat) (p : Bytes), MailboxOpen s port link →
    s.realm (.mailbox port link) = .hostOwner → p.length = 10 → leAt p 0 1 < s.n → leAt p 8 2 ≤ 4088 →
    let r := s.recorder (leAt p 0 1)
    let y := r.readFrom .hostOwner (if bitOf (leAt p 1 1) 0 then r.oldest else leAt p 4 4) (leAt p 8 2)
    Does (.recorderStream port link p) s fun t =>
      t.out = [.stream port link stOk y.count (y.gap.toNat + 2 * y.more.toNat) y.next y.data] ∧ Keeps s t [.out]

/-- 18 R398, R399, Table 18.7.
It says that these commands answer a next state: getVersion, getCapabilities, negotiateAlgorithms,
getDigests, keyExchange, finish, heartbeat, keyUpdate, endSession. -/
def Obligations.SpdmConnectsAndHoldsSessions : Prop :=
  ∀ (s : State) (port link algs nonce : Nat), s.aon.on = true → s.doeOn port link = true →
    let x := (s.hlink port link).spdm
    Moves (.getVersion port link) s port link spVersion [0x11, 0x12] { noSpdm with stage := 1 } ∧
    (1 ≤ x.stage → Moves (.getCapabilities port link) s port link spCapabilities [1, 1, 1, 1, 1, 1, 1, 1]
      { x with stage := max 2 x.stage }) ∧
    (x.stage = 0 → Answers (.getCapabilities port link) s port link spError [seUnexpected]) ∧
    (2 ≤ x.stage → algs % 16 = 15 →
      Moves (.negotiateAlgorithms port link algs) s port link spAlgorithms [15] { x with stage := 3 }) ∧
    (x.stage < 3 → Answers (.getDigests port link) s port link spError [seUnexpected]) ∧
    (3 ≤ x.stage →
      Moves (.keyExchange port link 0 nonce) s port link spKeyExchange
        [nonce, leNat (Config.attest (Config.sha384 (leBytes 32 nonce)))]
        { x with handshake := true, session := false, updates := 0 } ∧
      (x.handshake = true →
        Moves (.finish port link true) s port link spFinish [] { x with handshake := false, session := true } ∧
        Moves (.finish port link false) s port link spError [seDecrypt] { x with handshake := false }) ∧
      (x.session = true →
        Answers (.heartbeat port link) s port link spHeartbeat [] ∧
        Moves (.keyUpdate port link) s port link spKeyUpdate [] { x with updates := x.updates + 1 } ∧
        Moves (.endSession port link) s port link spEndSession [] { x with session := false, updates := 0 }) ∧
      (x.session = false → Answers (.heartbeat port link) s port link spError [seUnexpected]))

/-- 18 R398, R399: attestation over SPDM.
It says that these commands answer a next state: getDigests, getCertificate, challenge, getMeasurements. -/
def Obligations.SpdmAttestsTheDevice : Prop :=
  ∀ (s : State) (port link off len nonce index : Nat) (raw : Bool), SpdmAt s port link 3 →
    let chain := Config.certChain
    let part := (chain.drop off).take len
    Answers (.getDigests port link) s port link spDigests [1, (Config.sha384 chain).toNat] ∧
    (off ≤ chain.length → Answers (.getCertificate port link 0 off len) s port link spCertificate
      ([part.length, chain.length - off - part.length] ++ part.map (·.toNat))) ∧
    Answers (.getCertificate port link 1 off len) s port link spError [seInvalid] ∧
    Answers (.challenge port link 0 nonce) s port link spChallengeAuth
      [(Config.sha384 chain).toNat, nonce,
        leNat (Config.attest (Config.sha384 (digestBytes (Config.sha384 chain) ++
          ((List.range 10).map s.measurement).flatMap digestBytes ++ leBytes 32 nonce)))] ∧
    (1 ≤ index → index ≤ 10 → Answers (.getMeasurements port link index nonce raw) s port link spMeasurements
      [1, (s.measurement (index - 1)).toNat, nonce,
        leNat (Config.attest (Config.sha384 (digestBytes (s.measurement (index - 1)) ++ leBytes 32 nonce)))])

/-- 02 R49, R52; 18 Table 18.7.
It says that these commands answer a next state: tableAccess, ideKm. -/
def Obligations.IdeKeysEstablishTheStream : Prop :=
  ∀ (s : State) (port link : Nat), SpdmAt s port link 3 → port < 2 * s.n →
    (s.hlink port link).spdm.session = true →
    let k := s.hlink port link
    let goes := fun (t : State) (l : HLink) =>
      t.out = [.doe port link spVendor [1, l.ideKeyed.toNat, l.ideUp.toNat]] ∧ LinkIs s t port link l ∧
        Keeps s t [.hosts, .out]
    Does (.ideKm port link .query) s (fun t => goes t k) ∧
    Does (.ideKm port link .keyProg) s (fun t => goes t { k with ideKeyed := true }) ∧
    (k.ideKeyed = true → k.ideUp = false →
      Does (.ideKm port link .kSetGo) s fun t => goes t { k with ideUp := true, rekeyDue := false }) ∧
    (k.ideKeyed = false ∨ k.ideUp = true → Does (.ideKm port link .kSetGo) s fun t => goes t k) ∧
    Does (.ideKm port link .kSetStop) s (fun t => goes t { k with ideUp := false, ideKeyed := false }) ∧
    Does (.tableAccess port link 0) s (fun t =>
      t.out = [.cdat port link [(s.cdatTens port).length]] ∧ Keeps s t [.out])

/-- 19 R407, R409: the staging queue.
It says that these commands answer a next state: eventReport. -/
def Obligations.ReportsQueueForTheirRing : Prop :=
  ∀ (s : State) (die : Nat) (r : Report), s.aon.on = true → Settled s → die < s.n → s.seq.st ≠ 14 →
    let x : Staged :=
      { typ := r.typ, cause := none, args := [], sev := r.sev, vis := 0, payload := r.payload.take 56,
        time := s.aon.deviceTime, tv := s.timeValid, count := 1, single := r.single }
    (coalesce x (s.recorder die).queue = none → (s.recorder die).queue.length < 63 →
      Does (.eventReport die r) s fun t =>
        t.recorder die = { s.recorder die with queue := (s.recorder die).queue ++ [x] } ∧
        (∀ e, e ≠ die → t.recorder e = s.recorder e) ∧ Keeps s t []) ∧
    (∀ q, coalesce x (s.recorder die).queue = some q →
      Does (.eventReport die r) s fun t =>
        t.recorder die = { s.recorder die with queue := q } ∧
        t.reg (0x1210 + die) 5 = min 0xFFFFFFFF (s.reg (0x1210 + die) 5 + 1) ∧ Keeps s t [])

/-- 19 R404, R405, R408, R410; 02 R48.
It says that these commands answer a next state: recordWrite. -/
def Obligations.RecordsAreWrittenInOrder : Prop :=
  ∀ (s : State) (die : Nat) (x : Staged) (q : List Staged), s.aon.on = true → Settled s → die < s.n →
    let r := s.recorder die
    (r.lost = 0 → r.queue = x :: q → oneToken ≤ s.tokenLevel die →
      Does (.recordWrite die) s fun t =>
        (∀ i, i < (recordWords r.nextSeq x).length →
          look 0 (t.recorder die).ring (r.nextOff + i) = (recordWords r.nextSeq x).getD i 0) ∧
        (∀ a, (a < r.nextOff ∨ r.nextOff + (recordWords r.nextSeq x).length ≤ a) →
          look 0 (t.recorder die).ring a = look 0 r.ring a) ∧
        (t.recorder die).nextSeq = (r.nextSeq + 1) % 2 ^ 32 ∧ (t.recorder die).queue = q ∧
        (t.recorder die).tokens = s.tokenLevel die - oneToken ∧ (t.recorder die).tokenAt = s.aon.now ∧
        t.reg (0x1210 + die) 3 = min 0xFFFFFFFF (s.reg (0x1210 + die) 3 + 1) ∧
        (∀ k, x.kind = some k → x.vis ≤ 1 → ∀ p ∈ s.ownerLinks, ((s.hlink p.1 p.2).log x.sev).recs.length < 256 →
          ∃ g, ((t.hlink p.1 p.2).log x.sev).recs = ((s.hlink p.1 p.2).log x.sev).recs ++ [g] ∧
            g.kind = k ∧ g.words = bodyWords r.nextSeq x) ∧
        (∀ e, e ≠ die → t.recorder e = s.recorder e) ∧ RegsBut s t [(0x1210 + die, 3)] ∧
        Keeps s t [.rings, .regs, .hosts, .bus, .wire, .out]) ∧
    (r.waits = false ∨ s.tokenLevel die < oneToken → Does (.recordWrite die) s fun t => t.recorder die = r ∧ Keeps s t [])

/-- 19 R411, R413.
It says that these commands answer a next state: recordRead. -/
def Obligations.RecordReadMovesTheRealmsCursor : Prop :=
  ∀ (s : State) (port link die len : Nat), Settled s → MailboxOpen s port link → die < s.n →
    s.realm (.mailbox port link) = .hostOwner →
    let r := s.recorder die
    let y := r.readFrom .hostOwner (r.cursorOf .hostOwner) (min len 4084)
    Does (.recordRead (.mailbox port link) die len) s fun t =>
      (∃ ol, t.out = [.dict port link stOk y.data.length ol y.data]) ∧
      (t.recorder die).cursorOf .hostOwner = y.next ∧ (t.recorder die).cursorOf .rack = r.cursorOf .rack ∧
      (t.recorder die).cursorOf .board = r.cursorOf .board ∧ (t.recorder die).queue = r.queue ∧ Keeps s t [.out]

/-- 03 R69 to R71, R77, R80, R81, R431, Table 03.5.
It says that these commands answer a next state: create, resize, fence, unfence, retire, rekey,
tenancyFieldWrite. -/
def Obligations.TenancyCommandsFollowTheirTable : Prop :=
  ∀ (s : State) (o : Origin) (n v : Nat), TakesNow s o → n < 1024 →
    let x := s.tenancy n
    let later := fun (t : State) (value : Nat) =>
      t.ten = { s.ten with
        filling := some { caller := callerOf o, idx := 0x3000 + n, sub := 9, value := value, data := [] } } ∧
      Keeps s t [.ten]
    let refused := fun (t : State) =>
      t.ten = { s.ten with refused := s.ten.refused ++ [{ caller := callerOf o, status := stRefused }] } ∧
      Keeps s t [.ten]
    let becomes := fun (t : State) (y : Tenancy) (len : Nat) =>
      t.tenancy n = y ∧ OnlyTenancy s t n 0xFFFFF ∧ SaysWrite s t o stOk len ∧ Keeps s t [.ten, .bus, .out]
    let changes := fun (sub value : Nat) (y : Tenancy) (len : Nat) (t : State) =>
      (s.unsettled n s.hosts.nextReq = [] → becomes t y len) ∧
      (s.unsettled n s.hosts.nextReq ≠ [] →
        t.tenancy n = y ∧ (∀ m, m ≠ n → t.tenancy m = s.tenancy m) ∧ Keeps s t [.ten] ∧
        t.ten = { s.ten with
          table := t.ten.table
          settling := some {
            op := { caller := callerOf o, idx := 0x3000 + n, sub := sub, value := value, data := [] }
            ten := n, was := x, upTo := s.hosts.nextReq } })
    (s.noEntry = false → s.createReason n = none → Does (.create o n) s fun t => later t 1) ∧
    (s.noEntry = false → (s.createReason n).isSome = true → Does (.create o n) s refused) ∧
    (s.resizeReason n = none → Does (.resize o n) s fun t => later t 2) ∧
    (x.st = 1 → Does (.fence o n) s (changes 9 3 { x with st := 2 } 1)) ∧
    (x.st ≠ 1 → Does (.fence o n) s refused) ∧
    (x.st = 2 → Does (.unfence o n) s (changes 9 4 { x with st := 1 } 1)) ∧
    ((x.st = 1 ∨ x.st = 2) → Does (.retire o n) s fun t =>
      t.tenancy n = { x with st := 3 } ∧ (∀ m, m ≠ n → t.tenancy m = s.tenancy m) ∧ t.ten.keys = s.ten.keys ∧
      t.ten.retiring = s.ten.retiring ++ [{ ten := n, was := x.st, caller := callerOf o, answered := false }] ∧
      (∀ q ∈ t.shadow.held ++ t.shadow.through ++ t.freeze.fetchWait, q.ten ≠ n) ∧ (∀ p l, t.hlink p l = s.hlink p l) ∧
      Keeps s t [.ten, .hosts, .shadow, .freeze, .sparing, .regs, .out]) ∧
    (s.noTransit = false → s.rekeyReason n = none → Does (.rekey o n) s fun t =>
      t.tenancy n = { x with watermark := x.base * driftBytes } ∧
      t.keySlot (1024 + x.transit) = { s.keySlot (1024 + x.transit) with st := 4, ten := n } ∧
      OnlyTenancy s t n (1024 + x.transit) ∧ SaysWrite s t o stOk 1 ∧ Keeps s t [.ten, .bus, .out]) ∧
    (x.st = 0 → v < 2 ^ 27 →
      Does (.tenancyFieldWrite o n 2 v) s (fun t => becomes t { x with base := v } 4) ∧
      Does (.tenancyFieldWrite o n 3 v) s (fun t => becomes t { x with limit := v } 4)) ∧
    (v ≤ 2 → x.st = 0 → Does (.tenancyFieldWrite o n 4 v) s fun t => becomes t { x with mode := v } 1) ∧
    (x.st ≠ 3 →
      (v < 2 ^ 32 → s.classBars x (s.portMask v) = false →
        Does (.tenancyFieldWrite o n 6 v) s (changes 6 v { x with cls := s.portMask v } 4)) ∧
      (v < 2 ^ 32 → s.grantBars n (s.portMask v) = false →
        Does (.tenancyFieldWrite o n 7 v) s (changes 7 v { x with rights := s.portMask v } 4)) ∧
      (v < 2 ^ 64 → v ≤ s.hardwareCap → s.shareBars x (wholeFlakes v) = false →
        Does (.tenancyFieldWrite o n 8 v) s (changes 8 v { x with share := wholeFlakes v } 8))) ∧
    (v < 64 → Does (.tenancyFieldWrite o n 0x0A v) s fun t => becomes t { x with transit := v } 1)

/-- 03 R69 to R71, R76, R77, R81, Table 03.8; 07 R153, R177.
It says that these commands answer a next state: zeroFillComplete, retireDrainEnd, retireTrimEnd,
refusalAnswer, keyLoad, keyZeroise, rekeySweepLine, checkpointStart. -/
def Obligations.TenancyHardwareStepsComplete : Prop :=
  ∀ (s : State) (n : Nat) (errs : List Nat), s.aon.on = true → s.ten.waiting = [] → n < 1024 →
    let x := s.tenancy n
    let trimmed := fun (t : State) (a b : Nat) => ∀ m, 128 * a ≤ m → m < 128 * b → t.firn m = fTrimmed
    (∀ op, s.ten.filling = some op → op.idx = 0x3000 + n → op.value = 1 → s.fillSleeps = false →
      Does .zeroFillComplete s fun t =>
        t.tenancy n = { x with st := 1, created := s.progSeqs } ∧ t.keySlot n = { s.keySlot n with st := 2 } ∧
        (∀ m, m ≠ n → t.tenancy m = s.tenancy m) ∧ trimmed t x.base x.limit ∧ t.ten.filling = none ∧
        Keeps s t [.ten, .dram, .shadow, .hosts, .freeze, .bus, .wire, .out]) ∧
    (∀ op, s.ten.filling = some op → op.idx = 0x3000 + n → op.value = 2 → (∀ m, s.firn m ≠ fRestoring) →
      s.leavers op = false → s.fillSleeps = false →
      Does .zeroFillComplete s fun t =>
        t.tenancy n = { x with base := x.newBase, limit := x.newLimit, created := s.progSeqs } ∧
        (∀ m, m ≠ n → t.tenancy m = s.tenancy m) ∧ trimmed t x.base (min x.limit x.newBase) ∧
        trimmed t (max x.base x.newLimit) x.limit ∧ trimmed t x.newBase (min x.newLimit x.base) ∧
        trimmed t (max x.newBase x.limit) x.newLimit ∧ t.ten.filling = none) ∧
    (∀ e, s.ten.retiring.find? (fun e => decide (e.ten = n)) = some e →
      Does (.retireDrainEnd n) s fun t =>
        t.keySlot n = (s.keySlot n).cleared ∧ (∀ r ∈ t.ten.retiring, r.ten ≠ n) ∧
        t.tenancy n = { x with watermark := u64max } ∧ Keeps s t [.ten, .bus, .wire, .out]) ∧
    (∀ y port link, s.ten.settling = some y → y.ten = n → y.op.caller = callerOf (.mailbox port link) →
      (∀ e ∈ s.ten.retiring, e.ten ≠ n) → s.unsettled n y.upTo = [] →
      Does (.retireDrainEnd n) s fun t =>
        t.ten = { s.ten with settling := none } ∧ (∃ len, t.out = [.dict port link stOk len len []]) ∧
        Keeps s t [.ten, .out]) ∧
    (x.st = 3 → s.hosts.stopped = false → (∀ e ∈ s.ten.retiring, e.ten ≠ n) → (∀ e ∈ s.shadow.firn, s.firn e.1 ≠ fRestoring) →
      Does (.retireTrimEnd n) s fun t =>
        t.tenancy n = noTen ∧ (∀ m, m ≠ n → t.tenancy m = s.tenancy m) ∧ trimmed t x.base x.limit ∧
        t.ten.keys = s.ten.keys) ∧
    (∀ port link st l, s.ten.refused =
        { caller := callerOf (.mailbox port link), status := st } :: l →
      Does .refusalAnswer s fun t =>
        t.ten = { s.ten with refused := l } ∧ t.out = [.dict port link st 0 0 []] ∧ Keeps s t [.ten, .out]) ∧
    (∀ port link data, TakesNow s (.mailbox port link) → s.realm (.mailbox port link) = .hostOwner →
      (s.hlink port link).ideUp = true → data.length = 64 → data.take 32 ≠ data.drop 32 →
      (s.keySlot n).st ≤ 1 → Does (.keyLoad (.mailbox port link) (0x3400 + n) data) s fun t =>
        t.keySlot n = { s.keySlot n with
          st := 1, material := BitVec.ofNat 512 (leNat data), gen := min 0xFFFFFFFF ((s.keySlot n).gen + 1) } ∧
        OnlyTenancy s t 0xFFFFF n ∧ SaysWrite s t (.mailbox port link) stOk 64 ∧ Keeps s t [.ten, .bus, .out]) ∧
    (∀ o, TakesNow s o → (s.keySlot n).st ≤ 1 →
      Does (.keyZeroise o (0x3400 + n) 1) s fun t =>
        t.keySlot n = (s.keySlot n).cleared ∧ OnlyTenancy s t 0xFFFFF n ∧ SaysWrite s t o stOk 1 ∧
        Keeps s t [.ten, .bus, .out]) ∧
    (∀ k, s.transitOf n = some k → s.seq.st = 12 → s.freeze.active = false → s.thawing = false →
      (s.keySlot k).st = 4 → s.tenHeld n = false → errs.length ≤ 1 →
      s.awaitsRetry (.sweep n) = false → s.isLost (s.place x.watermark).rank = false →
      s.turnOf (s.physOf x.watermark) (s.place x.watermark).off x.watermark 7 = true →
      s.needsRebuild (s.place x.watermark).rank (s.place x.watermark).off = false →
      s.untrusted (s.physOf x.watermark) x.watermark = false →
      Does (.rekeySweepLine ⟨n, errs⟩) s fun t =>
        t.tenancy n = { x with watermark := x.watermark + 64 } ∧
        (x.limit * driftBytes ≤ x.watermark + 64 → (t.keySlot k).st = 5) ∧
        (x.watermark + 64 < x.limit * driftBytes → t.keySlot k = s.keySlot k)) ∧
    (∀ o, TakesNow s o → (x.st = 1 ∨ x.st = 2) → x.mode = 1 → s.reg (ixPer 0x5820 n) (subPer n) ≠ 1 →
      Does (.checkpointStart o n) s fun t =>
        t.reg (ixPer 0x5820 n) (subPer n) =
          (if ∃ e ∈ s.shadow.firn, isSnow e.2 = true ∧ 128 * x.base ≤ e.1 ∧ e.1 < 128 * x.limit then 1 else 2) ∧
        RegsBut s t [(ixPer 0x5820 n, subPer n)] ∧ t.shadow.firn = s.shadow.firn ∧
        SaysWrite s t o stOk 2 ∧ Keeps s t [.regs, .shadow, .bus, .out])

/-- 04 R87 to R89, R99 to R104; 06 R135, R136; 03 R72, R74.
It says that these commands answer a next state: commandSlot, pageIdleTimeout, dramReadComplete,
retryReadComplete, partialWriteMerge, class3Promotion. -/
def Obligations.CommandSlotsAndBurstsServeRequests : Prop :=
  ∀ (s : State) (sc : Nat) (q : Req), s.aon.on = true → q.src = .host →
    let c := s.chan sc
    let p := s.place q.dpa
    let b := s.bankOfReq q
    let read : Issued := { req := q, rank := s.readRank p.rank p.off, off := p.off, retry := false }
    let lines := fun (t : State) (o : Nat) =>
      ∀ k, k ≠ lineKey (s.place o).rank (s.place o).off → look? t.dram.lines k = look? s.dram.lines k
    let back := (s.route p.die (dieOfPort q.port)).isSome = true ∧ s.waitsAt p.die (dieOfPort q.port) = none
    let plain := fun (o : Nat) => s.redirectOf (s.place o).rank = none ∧ s.isLost (s.place o).rank = false
    (s.quadRuns sc = true → c.slice = none → s.urgentBank sc = none →
      (c.writes = [] → c.reads = [q] → s.readReady sc q = true →
        (s.rowHit sc q = true → s.mayColumn sc (s.prioOf q) = true → Does (.commandSlot sc) s fun t =>
          (t.chan sc).reads = [] ∧ (t.chan sc).issued = c.issued ++ [read] ∧ t.dram.lines = s.dram.lines ∧
          Keeps s t [.dram]) ∧
        (s.rowHit sc q = false → s.mayActivate sc (s.prioOf q) = true → Does (.commandSlot sc) s fun t =>
          (t.bank sc b.1 b.2.1).openRow = some b.2.2 ∧ (t.chan sc).reads = [q] ∧
          t.dram.lines = s.dram.lines ∧ Keeps s t [.dram])) ∧
      (c.reads = [] → c.writes = [q] → (c.batch = true → c.deep = false) → s.writeReady sc q = true →
        s.rowHit sc q = true → s.mayColumn sc (s.prioOf q) = true →
        (q.op = .write → s.keyLive q.key = true → plain q.dpa → Does (.commandSlot sc) s fun t =>
          (t.chan sc).writes = [] ∧ t.cell q.dpa = .data q.data (s.material q.dpa) ∧ lines t q.dpa ∧
          Keeps s t [.dram, .hosts]) ∧
        (q.op = .partialWrite → Does (.commandSlot sc) s fun t =>
          (t.chan sc).writes = [{ q with locked := true }] ∧
          (t.chan sc).issued = c.issued ++ [{ read with req := { q with locked := true } }] ∧
          t.dram.lines = s.dram.lines ∧ Keeps s t [.dram]))) ∧
    (∀ (i : Issued) (l : List Issued) (x : Line) (k : Option (BitVec 512)) (e f : Nat),
      c.issued = i :: l → i.req = q → s.cellOf i = .data x k → q.silent = false → s.hosts.stopped = false →
      (q.op = .read → i.retry = false →
        (s.keyLive q.key = true → back → Does (.dramReadComplete sc []) s fun t =>
          t.out = [.memData q.port q.link q.tag (s.decrypt q.dpa x k) false] ∧
          t.chan sc = { c with issued := l } ∧ RegsBut s t [(0x5010 + q.port, 6)] ∧
          t.dram.lines = s.dram.lines ∧ Keeps s t [.dram, .regs, .out]) ∧
        Does (.dramReadComplete sc [e, f]) s fun t =>
          t.chan sc = { c with issued := { i with retry := true } :: l } ∧
          t.dram.lines = s.dram.lines ∧ Keeps s t [.dram]) ∧
      (q.op = .read → i.retry = true → s.keyLive q.key = true → back → Does (.retryReadComplete sc []) s fun t =>
          t.out = [.memData q.port q.link q.tag (s.decrypt q.dpa x k) false] ∧
          (t.chan sc).issued = l ∧ t.reg (ixRank i.rank) 4 = min 0xFFFFFFFF (s.reg (ixRank i.rank) 4 + 1) ∧
          t.dram.lines = s.dram.lines ∧ Keeps s t [.dram, .regs, .out]) ∧
      (q.op = .partialWrite → i.retry = false → s.keyLive q.key = true → plain q.dpa →
        (∀ w ∈ c.writes, w.answered = true) → Does (.partialWriteMerge sc []) s fun t =>
          t.cell q.dpa = .data (mergeBytes (s.decrypt q.dpa x k) q.data q.be) (s.material q.dpa) ∧
          (∀ w ∈ (t.chan sc).writes, w.id ≠ q.id) ∧ (t.chan sc).issued = l ∧ lines t q.dpa ∧
          Keeps s t [.dram, .out])) ∧
    (c.reads = [q] → c.writes = [] → q.cls = 3 → q.promoted = false →
      s.reg 0x5000 2 * 1000 ≤ s.aon.now - q.enter →
      Does (.class3Promotion sc q.id) s fun t =>
        (t.chan sc).reads = [{ q with promoted := true }] ∧
        t.reg (0x5010 + q.port) 7 = min 0xFFFFFFFF (s.reg (0x5010 + q.port) 7 + 1) ∧
        RegsBut s t [(0x5010 + q.port, 7)] ∧ Keeps s t [.dram, .regs]) ∧
    (∀ r k, (s.bank sc r k).openRow.isSome = true → Does (.pageIdleTimeout sc r k) s fun t =>
      (t.bank sc r k).openRow = none ∧ (∀ j, t.chan j = s.chan j) ∧ Keeps s t [.dram])

/-- 04 R92 to R95, R106 to R109, Table 04.3.
It says that these commands answer a next state: refreshDue, refreshComplete, rfmCountMax, mr4Poll,
caParityError, scrubReadDue, scrubReadResult, scrubInitPass. -/
def Obligations.RefreshAndCareOfRanks : Prop :=
  ∀ (s : State) (sc r chip bk ch field : Nat), s.aon.on = true → r < 16 * s.n →
    let bs := s.refBanks r chip bk
    let rfm := (List.range 8).map fun g => (bk / 32 * 8 + g) * 4 + bk % 4
    let blocked := fun (t : State) (k : Nat) (l : List Nat) =>
      (∀ x ∈ l, (t.bank sc k x).refreshing = true ∧ (t.bank sc k x).openRow = none) ∧
      t.dram.lines = s.dram.lines ∧ (∀ j, t.chan j = s.chan j) ∧ Keeps s t [.dram]
    (s.quadRuns sc = true → s.capOf r ≠ 0 → (s.rank r).selfRefresh = false →
      ((s.chan sc).slice = none → s.banksIdle sc (r % 2) bs = true →
        Does (.refreshDue sc r chip bk) s fun t => blocked t (r % 2) bs) ∧
      (((s.chan sc).slice.isSome = true ∨ s.banksIdle sc (r % 2) bs = false) →
        (s.bank sc (r % 2) (bs.headD 0)).postponed < s.reg (ixChan (sc / 2)) 6 →
        Does (.refreshDue sc r chip bk) s fun t =>
          (∀ x ∈ bs, t.bank sc (r % 2) x =
            { s.bank sc (r % 2) x with postponed := (s.bank sc (r % 2) x).postponed + 1 }) ∧ Keeps s t [.dram])) ∧
    (Does (.refreshComplete sc r chip bk) s fun t =>
      (∀ x ∈ s.runningBanks sc r chip bk, t.bank sc (r % 2) x =
        (if (s.bank sc (r % 2) x).refreshing = true then
          { s.bank sc (r % 2) x with
            refreshing := false, p1 := false, whole := false
            raa := (s.bank sc (r % 2) x).raa - ((s.rfmOf r).map (·.1)).getD 0
            waiting := s.class0On sc (r % 2) x }
         else s.bank sc (r % 2) x)) ∧ Keeps s t [.dram]) ∧
    (∀ least top, s.quadRuns sc = true → (s.chan sc).slice = none → s.rfmOf (sc / 2 * 2 + r) = some (least, top) →
      top ≤ (s.bank sc r bk).raa → s.p1Barred sc r rfm = false → (∀ x ∈ rfm, s.class0On sc r x = []) →
      Does (.rfmCountMax sc r bk) s fun t => blocked t r rfm) ∧
    (s.capOf r ≠ 0 →
      (s.mayMr4 r = true → (s.rank r).refresh ≠ 2 → Does (.mr4Poll r .beyond field) s fun t =>
        t.rank r = { s.rank r with refresh := 2, mr4At := s.aon.now } ∧ t.reg (ixRank r) 8 = field ∧
        t.throttled (dieOfRank r) = true) ∧
      (s.mayMr4 r = true → (s.rank r).refresh = 0 → Does (.mr4Poll r .double field) s fun t =>
        t.rank r = { s.rank r with refresh := 1, normalCount := 0, mr4At := s.aon.now } ∧ t.reg (ixRank r) 8 = field ∧
        RegsBut s t [(ixRank r, 8)] ∧ Keeps s t [.dram, .regs]) ∧
      (s.mayMr4 r = true → (s.rank r).refresh = 1 → 15 ≤ (s.rank r).normalCount → Does (.mr4Poll r .single field) s fun t =>
        t.rank r = { s.rank r with refresh := 0, normalCount := 0, mr4At := s.aon.now } ∧ t.reg (ixRank r) 8 = field ∧
        RegsBut s t [(ixRank r, 8)] ∧ Keeps s t [.dram, .regs]) ∧
      (ch < 8 * s.n → Does (.caParityError ch (some r)) s fun t =>
        t.reg (ixRank r) 6 = min 0xFFFFFFFF (s.reg (ixRank r) 6 + 1) ∧
        (t.rank r).parity.head? = some s.aon.now ∧ RegsBut s t [(ixRank r, 6)] ∧ Keeps s t [.dram, .regs])) ∧
    (let x := s.scrubOf ch;
      (x.inFlight = false → (s.quad (ch / 8) (ch % 8 / 2)).st ≤ 1 → s.freeze.active = false →
        s.scrubMay (2 * ch + x.k) = true →
        (∀ e ∈ (s.chan (subOf (2 * ch + x.k) (x.line * 64))).writes,
          e.dpa ≠ s.dpaOfPhys (2 * ch + x.k) (x.line * 64)) → Does (.scrubReadDue ch) s fun t =>
          let at_ := subOf (2 * ch + x.k) (x.line * 64);
          t.scrubOf ch = { x with inFlight := true } ∧
          (∃ q, (t.chan at_).reads = (s.chan at_).reads ++ [q] ∧ q.src = .scrub (2 * ch + x.k) (x.line * 64) ∧
            q.op = .read ∧ q.id = s.hosts.nextReq) ∧
          hostsAre t { s.hosts with nextReq := s.hosts.nextReq + 1 } ∧ Keeps s t [.dram, .hosts]) ∧
      (∀ (i : Issued) (l : List Issued) (w : Line) (k : Option (BitVec 512)), (s.chan (2 * ch)).issued = i :: l →
        i.retry = false → i.req.src = .scrub i.rank i.off → x.k < 2 → i.rank = 2 * ch + x.k → i.off = x.line * 64 →
        (x.line + 1) * 64 < s.capOf i.rank → s.cellAt i.req.dpa i.rank i.off = .data w k →
        Does (.scrubReadResult ch []) s fun t =>
          t.scrubOf ch = { x with line := x.line + 1, inFlight := false } ∧ (t.chan (2 * ch)).issued = l ∧
          t.dram.lines = s.dram.lines ∧ Keeps s t [.dram])) ∧
    ((s.rank r).st = 3 → (s.rank r).initPass = false → s.freeze.active = false →
      s.slotFree (2 * (r / 2)) 10 = true → s.slotFree (2 * (r / 2) + 1) 10 = true → Does (.scrubInitPass r) s fun t =>
      t.rank r = { s.rank r with initPass := true } ∧ (∀ off, look? t.dram.lines (lineKey r (64 * (off % 2 ^ 40))) = none) ∧
      Keeps s t [.dram])

/-- 05 R116, R119, Table 05.3; 04 R82; log 129.
It says that these commands answer a next state: trainingTimeLimit, trainingDone. -/
def Obligations.TrainingSettlesEveryRank : Prop :=
  ∀ (s : State) (die q i : Nat) (res : List RankTrain) (late : List (Option RankTrain)) (x y : RankTrain),
    s.aon.on = true → s.seq.st = 9 → s.quadDone die q = false → die < s.n → q < 4 → i < 4 →
    let r := 16 * die + 4 * q + i
    let recorded := (look? s.dram.population r).isSome
    let done := fun (t : State) => (t.quad die q).trained = true ∧ (t.quad die q).st = 0 ∧ t.ten = s.ten
    let failsFor := fun (t : State) (reason : Nat) =>
      (t.rank r).train = 3 ∧ t.reg (ixTrainRank r) 8 = reason ∧ done t
    let absent := fun (t : State) => (t.rank r).train = 0 ∧ t.capOf r = 0 ∧ done t
    (s.pllOut die (6 + q) = false → s.fallsBack die q (s.barMixed res) = false → res[i]? = some x → (s.barMixed res)[i]? = some y →
      (x = y → (startsSilent x = false ∨ recorded = true) →
        (∀ d, trainOutcome x = .ok d → s.anyOpen = false → Does (.trainingDone die q res) s fun t =>
          (t.rank r).train = 1 ∧ (t.rank r).density = d.dev.density ∧ (t.rank r).stack = d.dev.stack ∧ done t) ∧
        (∀ reason, trainOutcome x = .error reason → Does (.trainingDone die q res) s fun t =>
          failsFor t reason)) ∧
      (x = y → startsSilent x = true → recorded = false → Does (.trainingDone die q res) s absent) ∧
      (x ≠ y → Does (.trainingDone die q res) s absent)) ∧
    (late[i]? = some none →
      ((look? s.build.ranks r).isSome = true → Does (.trainingTimeLimit (4 * die + q) late) s fun t => failsFor t 8) ∧
      (look? s.build.ranks r = none → recorded = false → Does (.trainingTimeLimit (4 * die + q) late) s absent))

/-- 05 R121 to R127, R129; 04 R111, R112, Table 04.5.
It says that these commands answer a next state: quadrantIdle, idleDeepEntry, idleDeepExit, oscillatorCheck,
edgeProbe, checkForced, recalSlice, recalSliceEnd. -/
def Obligations.DriftIsTrackedAndRecalibrated : Prop :=
  ∀ (s : State) (r sc die q i : Nat) (l bursts osc : List Nat) (checks : List WakeCheck) (w : WakeCheck)
      (recals : List WakeRecal) (v : WakeRecal),
    s.aon.on = true →
    let k := s.rank r
    let g := ixTrain (r / 2)
    let stamped := fun (t : State) (scs : List Nat) =>
      (∀ c ∈ scs, (t.chan c).lastSlice = some s.aon.now) ∧ t.dram.lines = s.dram.lines ∧ Keeps s t [.dram, .regs]
    let noted := fun (t : State) => RegsBut s t [(ixTrainRank r, 6)] ∧ t.reg (ixTrainRank r) 6 =
      raw32 ((s.drifts r l).foldl (fun (m : Int) x => if m.natAbs < x.natAbs then x else m)
        (signed32 (s.reg (ixTrainRank r) 6))) ∧ stamped t (subsOfRank r)
    let checkedOsc := { k with oscAt := s.aon.now, oscDue := none }
    let checkedEdge := { k with probeAt := s.aon.now, probeDue := none }
    (s.measured r = true →
      (s.passed k.oscAt 1 (s.reg g 3) = true →
        (s.mayCheck r = true → s.driftsFar r l = false → Does (.oscillatorCheck r l) s fun t =>
          noted t ∧ t.rank r = checkedOsc) ∧
        (s.mayCheck r = true → s.driftsFar r l = true → k.train = 1 → Does (.oscillatorCheck r l) s fun t =>
          noted t ∧ t.rank r = { checkedOsc with
            wantWrite := true, train := 4, recalWrite := true, meas0 := [], meas1 := [] }) ∧
        (s.mayCheck r = false → Does (.oscillatorCheck r l) s fun t =>
          t.rank r = { k with oscDue := some (k.oscDue.getD s.aon.now) } ∧ Keeps s t [.dram])) ∧
      (s.passed k.probeAt 1 (s.reg g 4) = true →
        (s.mayCheck r = true → s.probesMatch r l = true → Does (.edgeProbe r l) s fun t =>
          t.rank r = checkedEdge ∧ stamped t (subsOfRank r) ∧ RegsBut s t []) ∧
        (s.mayCheck r = true → s.probesMatch r l = false → k.train = 1 → Does (.edgeProbe r l) s fun t =>
          t.rank r = { checkedEdge with
            wantRead := true, train := 4, recalWrite := false, meas0 := [], meas1 := [] } ∧
          stamped t (subsOfRank r) ∧ RegsBut s t []) ∧
        (s.mayCheck r = false → Does (.edgeProbe r l) s fun t =>
          t.rank r = { k with probeDue := some (k.probeDue.getD s.aon.now) } ∧ Keeps s t [.dram])) ∧
      (s.mayForce r = true →
        (s.overdue k.oscDue (s.reg g 3) = true → s.driftsFar r l = false → Does (.checkForced ⟨r, .osc l⟩) s fun t =>
          noted t ∧ t.rank r = checkedOsc) ∧
        (s.overdue k.probeDue (s.reg g 4) = true → s.probesMatch r l = true →
          Does (.checkForced ⟨r, .probe l⟩) s fun t =>
            t.rank r = checkedEdge ∧ stamped t (subsOfRank r) ∧ RegsBut s t []))) ∧
    (r / 2 = sc / 2 → k.train = 4 → 0 < k.slices sc → s.maySlice sc = true → s.slotFree sc 4 = true →
      Does (.recalSlice sc r) s fun t =>
        t.chan sc = { s.chan sc with slice := some r } ∧ (∀ c, c ≠ sc → t.chan c = s.chan c) ∧
        (∀ b, b < 256 → (t.bank sc (r % 2) b).openRow = none) ∧ t.rank r = k ∧ Keeps s t [.dram]) ∧
    ((s.chan sc).slice = some r → k.train = 4 →
      let m0 := if sc % 2 = 0 then k.meas0 ++ [bursts] else k.meas0
      let m1 := if sc % 2 = 0 then k.meas1 else k.meas1 ++ [bursts]
      let eyes := s.recalEyes r k.recalWrite (sweepsOf (m0.take 49) (m1.take 49)) (sweepsOf (m0.drop 49) (m1.drop 49))
      (1 < k.slices sc ∨ 0 < k.slices (sc + 1) → Does (.recalSliceEnd sc r bursts osc) s fun t =>
        t.rank r = { k with meas0 := m0, meas1 := m1 } ∧ (t.chan sc).slice = none ∧ stamped t [sc] ∧
        RegsBut s t []) ∧
      (k.slices sc ≤ 1 → k.slices (sc + 1) = 0 → (if k.recalWrite then k.wantRead else k.wantWrite) = false →
        (∀ e, eyes = .ok e → Does (.recalSliceEnd sc r bursts osc) s fun t =>
          (t.rank r).train = 1 ∧ (t.rank r).wantRead = false ∧ (t.rank r).wantWrite = false ∧
          (t.chan sc).slice = none ∧ t.reg g 7 = min 0xFFFFFFFF (s.reg g 7 + 1) ∧
          t.dom (ixTrainRank r) 2 = putHalf (s.dom (ixTrainRank r) 2) k.recalWrite (e.map (·.delay)) ∧
          t.dom (ixTrainRank r) 3 = putHalf (s.dom (ixTrainRank r) 3) k.recalWrite (e.map (·.ref))) ∧
        (∀ n, eyes = .error n → Does (.recalSliceEnd sc r bursts osc) s fun t =>
          (t.rank r).train = 1 ∧ (t.rank r).wantRead = false ∧ (t.rank r).wantWrite = false ∧
          (t.chan sc).slice = none ∧ t.reg g 8 = min 0xFFFFFFFF (s.reg g 8 + 1) ∧ t.doms = s.doms))) ∧
    ((s.quad die q).st = 0 → s.quadEmpty die q = true → Does (.quadrantIdle die q) s fun t =>
      t.quad die q = { s.quad die q with st := 1 } ∧ Keeps s t [.dram]) ∧
    (s.reg (ixQuad die q) 2 = 1 → (s.quad die q).st ≤ 1 → s.quadEmpty die q = true →
      s.engineNeeds die q = false → s.recalRuns die q = false → Does (.idleDeepEntry die q) s fun t =>
        t.quad die q = { s.quad die q with st := 2, deepAt := s.aon.now } ∧
        t.reg (ixQuad die q) 4 = min 0xFFFFFFFF (s.reg (ixQuad die q) 4 + 1) ∧ t.dram.lines = s.dram.lines ∧
        RegsBut s t [(ixQuad die q, 4)] ∧ Keeps s t [.dram, .regs]) ∧
    ((s.quad die q).st = 2 →
      ((s.quad die q).hibEntry = false → Does (.idleDeepExit die q [] []) s fun t =>
        t.quad die q = { s.quad die q with st := 0 } ∧ t.dram.lines = s.dram.lines ∧ Keeps s t [.dram]) ∧
      (i < 4 → checks[i]? = some w → recals[i]? = some v →
        let x := 16 * die + 4 * q + i
        (s.rank x).train = 1 → s.driftsFar x w.osc = false →
        (s.probesMatch x w.probe = true → Does (.idleDeepExit die q checks recals) s fun t =>
          (t.quad die q).st = 0 ∧ (t.rank x).train = 1) ∧
        (s.probesMatch x w.probe = false → ∀ n, s.recalEyes x false v.delay v.ref = .error n →
          Does (.idleDeepExit die q checks recals) s fun t => (t.quad die q).st = 0 ∧ (t.rank x).train = 3)))

/-- 07 R151, R154 to R156, R174, Table 07.2.
It says that these commands answer a next state: dirtyNotice, noticeConfirmed, admissionStageEntry,
writeAdmitted, snowCountMessage. -/
def Obligations.NoticesAndAdmission : Prop :=
  ∀ (s : State) (die : Nat), s.aon.on = true → die < s.n → s.coreStopped die = false →
    let due := fun e : Notice =>
      decide (s.homeDie e.flake = die) && !e.applied && s.linkOpen (dieOfSub e.sc) die
    let seen := fun e : Notice => decide (s.homeDie e.flake = die) && e.applied && s.linkOpen die (dieOfSub e.sc)
    (∀ x, s.shadow.notices.find? due = some x →
      let c := s.firn x.flake
      let mode := s.flakeMode x.flake
      let blank := c = fClean ∨ c = fPoisoned ∨ c = fTrimmed
      let line := s.firnLine (s.driftOf x.flake)
      c < 9 → Does (.dirtyNotice die) s fun t =>
        (c = fPumping → t.firn x.flake = fStale) ∧
        (blank → mode = 2 → t.firn x.flake = fVolatile) ∧
        (blank → mode ≤ 1 → t.firn x.flake = fDirty) ∧
        (∀ k, blank → s.tenOf (x.flake * flakeBytes) = some k → mode = 0 →
          look 0 (t.die die).unsent k = look 0 (s.die die).unsent k + 1) ∧
        (c = fDirty ∨ c = fStale ∨ c = fVolatile ∨ c = fUnrestored ∨ c = fRestoring → t.firn x.flake = c) ∧
        (∀ m, m ≠ x.flake → t.firn m = s.firn m) ∧ t.shadow.fmap = s.shadow.fmap ∧
        t.shadow.notices = changeFirst due (fun e => { e with applied := true }) s.shadow.notices ∧
        (s.firnHit (s.driftOf x.flake) = true → Keeps s t [.shadow, .freeze]) ∧
        (s.firnHit (s.driftOf x.flake) = false → s.firnAsked (s.driftOf x.flake) = false →
          s.isLost (s.place line).rank = false →
          ∃ q : Req, (t.chan (subOfLine s line)).reads = (s.chan (subOfLine s line)).reads ++ [q] ∧
            q.src = .firn (s.driftOf x.flake)) ∧
        t.dram.lines = s.dram.lines ∧ hostsAre t { s.hosts with nextReq := t.hosts.nextReq } ∧
        Keeps s t [.shadow, .freeze, .dram, .hosts]) ∧
    (∀ x l, takeNotice (fun e => seen e && s.firnHit (s.driftOf e.flake)) s.shadow.notices = some (x, l) →
      Does (.noticeConfirmed die) s fun t =>
        t.shadow.notices = l ∧
        ((∀ e ∈ l, e.req ≠ x.req) → (t.chan x.sc).writes =
          (s.chan x.sc).writes.map (fun q => if q.id = x.req then { q with confirmed := true } else q)) ∧
        ((∃ e ∈ l, e.req = x.req) → (t.chan x.sc).writes = (s.chan x.sc).writes) ∧
        (t.chan x.sc).reads = (s.chan x.sc).reads ∧ OnlyQueue s t x.sc ∧
        (look [] t.shadow.cache (dieOfDrift (s.driftOf x.flake))).head? = some (s.driftOf x.flake) ∧
        shadowIs t { s.shadow with notices := l, cache := t.shadow.cache } ∧ Keeps s t [.dram, .shadow]) ∧
    (∀ q, (s.shadow.held.find? fun e => decide ((s.place e.dpa).die = die) && !(s.shadow.staged.elem e.id)) = some q →
      (s.stageOcc die < 1024 → Does (.admissionStageEntry die) s fun t =>
        shadowIs t { s.shadow with staged := s.shadow.staged ++ [q.id] } ∧ Keeps s t [.shadow]) ∧
      (1024 ≤ s.stageOcc die → Does (.admissionStageEntry die) s fun t => Keeps s t [])) ∧
    (∀ q, s.nextAdmitted die = some q → q.op = .write → (∀ e ∈ (s.chan (s.subOfReq q)).writes, e.dpa ≠ q.dpa) →
      s.isLost (s.place q.dpa).rank = false → s.waitsAt (s.place q.dpa).die (dieOfPort q.port) = none →
      (∀ e ∈ (s.chan (s.subOfReq q)).writes.take 64, e.answered = true) →
      (∀ x ∈ s.shadow.notices, x.req ≠ q.id) →
      Does (.writeAdmitted die) s fun t =>
        t.shadow.held = s.shadow.held.filter (fun e => !decide (e.id = q.id)) ∧
        t.shadow.staged = without q.id s.shadow.staged ∧
        t.reg 0x5804 2 = max (s.reg 0x5804 2) (min 0xFFFFFFFF ((s.aon.now - q.enter) / 1000)) ∧
        (t.chan (s.subOfReq q)).writes.map (·.id) = (s.chan (s.subOfReq q)).writes.map (·.id) ++ [q.id] ∧
        t.shadow.notices = s.shadow.notices ++
          [{ req := q.id, sc := s.subOfReq q, flake := flakeOf q.dpa, ten := q.ten, applied := false }] ∧
        OnlyQueue s t (s.subOfReq q) ∧ t.shadow.firn = s.shadow.firn ∧
        RegsBut s t [(0x5804, 2), (0x5010 + q.port, 5), (0x5010 + q.port, 6)] ∧
        Keeps s t [.dram, .shadow, .regs, .out]) ∧
    (Sparse.wf 0 (s.die die).unsent = true → Does (.snowCountMessage die) s fun t =>
      (∀ k, look 0 t.shadow.lead k = (((look 0 s.shadow.lead k : Nat) : Int) + look 0 (s.die die).unsent k).toNat) ∧
      t.die die = { s.die die with unsent := [] } ∧ (∀ d, d ≠ die → t.die d = s.die d) ∧
      shadowIs t { s.shadow with lead := t.shadow.lead, dies := t.shadow.dies } ∧ Keeps s t [.shadow])

/-- 07 R163 to R167, R179, R182, Table 07.5; 08 R192.
It says that these commands answer a next state: epochBoundary, epochSealWrite, persistenceArm,
wearHorizonUpdate. -/
def Obligations.EpochsCloseAndPersistenceArms : Prop :=
  ∀ (s : State) (die e : Nat) (c : Seal), s.aon.on = true → die < s.n → s.freeze.active = false →
    (s.shadow.arming = false → s.shadow.counter = some e → s.seq.st = 12 →
      (s.closingAny = false → Does .epochBoundary s fun t =>
        t.shadow.epoch = s.shadow.epoch + 1 ∧ t.shadow.counter = some (s.shadow.epoch + 1) ∧
        (∀ d, d < s.n → s.dieOut d = false → (t.die d).closing = some (s.draftSeal d s.shadow.epoch) ∧
          (t.die d).mapPages = (s.die d).mapChanged ∧ (t.die d).mapChanged = [] ∧ (t.die d).phase ≠ 0 ∧
          (t.die d).sealA = (s.die d).sealA ∧ (t.die d).sealB = (s.die d).sealB) ∧
        t.shadow.firn = s.shadow.firn ∧ t.shadow.fmap = s.shadow.fmap ∧ Keeps s t [.shadow]) ∧
      (s.closingAny = true → s.shadow.boundaryDue = false → Does .epochBoundary s fun t =>
        shadowIs t { s.shadow with boundaryDue := true } ∧
        t.reg 0x5801 4 = min 0xFFFFFFFF (s.reg 0x5801 4 + 1) ∧ RegsBut s t [(0x5801, 4)] ∧
        Keeps s t [.shadow, .regs])) ∧
    ((s.die die).closing = some c → (s.die die).phase = 4 → s.dieOut die = false → s.shadow.boundaryDue = false →
      let sl : Seal := { c with root := (s.die die).rootAddr, openBlocks := (s.die die).openSince }
      (Does (.epochSealWrite die false) s fun t =>
        t.die die = (s.die die).writeSeal { sl with whole := false } ∧
        (∀ old, (s.die die).newest = some old → (t.die die).newest = some old) ∧
        (∀ d, d ≠ die → t.die d = s.die d) ∧ shadowIs t { s.shadow with dies := t.shadow.dies } ∧ Keeps s t [.shadow]) ∧
      Does (.epochSealWrite die true) s fun t =>
        (t.die die).closing = none ∧ (t.die die).phase = 0 ∧
        ((t.die die).sealA = some sl ∨ (t.die die).sealB = some sl) ∧
        (∀ old, (s.die die).newest = some old → (t.die die).sealA = some old ∨ (t.die die).sealB = some old) ∧
        (t.die die).pages = (s.die die).pages ∧ (∀ d, d ≠ die → t.die d = s.die d) ∧
        t.shadow.firn = s.shadow.firn ∧ t.shadow.fmap = s.shadow.fmap ∧
        (c.whole = true → (∀ d, d < s.n → d ≠ die → s.dieOut d = false →
          sealIs c.epoch (s.die d).sealA = true ∨ sealIs c.epoch (s.die d).sealB = true) →
          t.shadow.sealedAll = some c.epoch) ∧ Keeps s t [.shadow, .ten, .regs]) ∧
    (s.shadow.armed = false → s.shadow.arming = false → s.seq.st = 12 →
      (s.shadow.counter = some e → s.armable (gib 2) = true → Does .persistenceArm s fun t =>
        t.shadow.armed = true ∧ shadowIs t { s.shadow with armed := true, forceThrough := false } ∧
        Keeps s t [.shadow]) ∧
      (s.shadow.counter = none → s.armable (gib 1) = true → Does .persistenceArm s fun t =>
        t.shadow.arming = true ∧ t.shadow.armed = false ∧ t.shadow.counter = none ∧
        (∀ d, d < s.n → s.dieOut d = false → (t.die d).closing = some (s.draftSeal d 0) ∧
          (t.die d).mapPages = List.range (s.mapTotal d)) ∧ t.shadow.firn = s.shadow.firn ∧
        Keeps s t [.shadow]) ∧
      (s.shadow.counter = some e → s.armable (gib 2) = false → Does .persistenceArm s fun t => Keeps s t [])) ∧
    Does .wearHorizonUpdate s fun t =>
      t.reg 0x5803 6 = s.horizon ∧
      shadowIs t { s.shadow with
        dayBuckets := (0 :: s.shadow.dayBuckets).take 24, wearWarned := t.shadow.wearWarned } ∧
      RegsBut s t [(0x5803, 6)] ∧ Keeps s t [.shadow, .regs]

/-- 07 R158, R160 to R162, Table 07.3; 08 R188, R193.
It says that these commands answer a next state: pumpDispatch, pumpReadDone, pumpTransfer, unitFillTimeout,
programStatus. -/
def Obligations.PumpsMoveSnowToFlash : Prop :=
  ∀ (s : State) (die k : Nat), s.aon.on = true → die < s.n →
    (∀ j p, freePump (s.die die).pumps = some j →
      (if s.freeze.active then s.pickFreeze die else s.pickFlake die) = some p → s.pumpsRun die = true →
      s.homeIn die (fun c => decide (9 ≤ c)) = [] →
      Does (.pumpDispatch die) s fun t =>
        t.firn p.flake = fPumping ∧ (∀ m, m ≠ p.flake → t.firn m = s.firn m) ∧
        (∃ bm ls, (t.die die).pumps = (s.die die).pumps ++ [
          { num := j, flake := p.flake, ready := false, prio := p.prio,
            bitmap := bm, lines := ls, moving := none, stale := false }] ∧
          ((∀ o ∈ flakeLines p.flake, ∀ e ∈ (s.chan (subOfLine s o)).writes, e.dpa ≠ o) → bm = 0 ∧ ls = [])) ∧
        t.shadow.fmap = s.shadow.fmap ∧ t.shadow.lead = s.shadow.lead ∧ t.dram.lines = s.dram.lines ∧
        hostsAre t { s.hosts with nextReq := t.hosts.nextReq } ∧ Keeps s t [.shadow, .dram, .hosts]) ∧
    (∀ (p : Pump) (res : FlakeRead), (s.die die).pumps.find? (fun p => decide (p.num = k) && !p.ready) = some p →
      s.linesCut die p.flake = false → s.pumpReads die k = false → p.moving = none →
      (p.flake + 1) * flakeBytes ≤ s.assignable →
      let g := (s.countReads p res).gather p
      Does (.pumpReadDone die k res) s fun t =>
        (t.die die).pumps = (s.die die).pumps.map (fun x => if x.num = k then
          { p with ready := true, bitmap := g.1, lines := g.2 } else x) ∧
        (∀ i, i < 256 → i ∈ res.bad → s.pumpedDram p i = true →
          s.redirectOf (s.place (p.flake * flakeBytes + 64 * i)).rank = none → g.1.getLsbD i = true) ∧
        (∀ i, i < 256 → p.bitmap.getLsbD i = true → g.1.getLsbD i = true) ∧
        (res.bad = [] → t.dram.lines = s.dram.lines ∧ Keeps s t [.shadow, .dram, .regs, .doms]) ∧
        t.shadow.firn = s.shadow.firn ∧ Keeps s t [.shadow, .dram, .regs, .doms, .hosts]) ∧
    (∀ p f u pg fresh, (s.die die).pumps.find? (fun p => decide (p.num = k) && p.ready) = some p →
      s.nextChannel die false = some f → s.openUnit die f = some u → s.nextPage die u = some pg →
      s.flashHalted die = false → (s.metered p.prio = false ∨ s.shadow.wearNext ≤ s.aon.now) →
      ((s.lunOf die u.lun).erasing = none ∨ (s.lunOf die u.lun).suspends < 32) →
      let a := pageAddr u.blk pg
      Does (.pumpTransfer die k fresh) s fun t =>
        t.page die a =
          { typ := 1, format := 1, ten := (s.tenOf (p.flake * flakeBytes)).getD 0xFFFF, mapNum := 0xFFFFFFFF
            flake := p.flake, epoch := s.shadow.epoch, progSeq := (s.die die).progSeq + 1
            body := .data p.bitmap p.lines, tweak := a, unreadable := true } ∧
        (∃ v ∈ (t.die die).units, v.num = u.num ∧ v.pages = u.pages ++ [a]) ∧
        (t.die die).progSeq = (s.die die).progSeq + 1 ∧ (t.die die).rotation = (f + 1) % 16 ∧
        (t.die die).pumps = (s.die die).pumps.filter (fun x => !decide (x.num = k)) ∧
        (∀ b, b ≠ a → t.page die b = s.page die b) ∧ t.dram.lines = s.dram.lines ∧
        t.shadow.firn = s.shadow.firn ∧ t.shadow.fmap = s.shadow.fmap ∧ Keeps s t [.shadow, .dram]) ∧
    (∀ u, (s.die die).units.find? (fun u => decide (u.num = k)) = some u → u.running = false → u.pages ≠ [] →
      s.flashHalted die = false →
      ((s.lunOf die u.lun).erasing = none ∨ (s.lunOf die u.lun).suspends < 32) →
      (∀ nd, s.nandOf die (u.lun / 32) = some nd → nd.supported = true ∧ (s.unitFull die u = true ∨
        ∃ pg, s.nextPage die u = some pg ∧ pg < nd.pagesPerBlock)) →
      Does (.unitFillTimeout die k) s fun t =>
        (∃ v ∈ (t.die die).units, v.num = k ∧ v.lun = u.lun ∧ v.moves = u.moves ∧ s.unitFull die v = true ∧
          u.pages <+: v.pages) ∧
        ((s.lunOf die u.lun).erasing = none → s.readsFor die u.lun = false → s.programs die u.lun = false →
          ∃ v ∈ (t.die die).units, v.lun = u.lun ∧ v.running = true) ∧
        t.shadow.firn = s.shadow.firn ∧ t.shadow.fmap = s.shadow.fmap ∧ Keeps s t [.shadow]) ∧
    (∀ u, (s.die die).units.find? (fun u => decide (u.num = k) && u.running) = some u → s.flashHalted die = false →
      u.jobs = [] → u.moves.length ≤ u.pages.length → (u.moves.map (·.flake)).Nodup →
      (∀ v ∈ u.moves, v.old = none ∧ v.inFreeze = false ∧ s.firn v.flake = fPumping ∧ v.stale = false ∧
        (s.flakeTen v.flake).isSome = true) →
      (Does (.programStatus die k true) s fun t =>
        (∀ e ∈ u.pages.zip u.moves, t.firn e.2.flake = fClean ∧ t.fmapOf e.2.flake = e.1 ∧
          ((s.die die).phase = 0 → (s.die die).jobs = [] → (s.lunOf die u.lun).erasing = none →
            (t.page die e.1).unreadable = false ∧ (t.page die e.1).body = (s.page die e.1).body ∧
            (∀ v ∈ (t.die die).units, v.num ≠ k ∨ v.running = false))) ∧
        (∀ m, m ∉ u.moves.map (·.flake) → t.firn m = s.firn m ∧ t.fmapOf m = s.fmapOf m) ∧
        t.shadow.pagesProgrammed = s.shadow.pagesProgrammed + u.pages.length ∧
        t.dram.lines = s.dram.lines ∧ Keeps s t [.shadow, .freeze, .dram, .hosts, .regs, .out]) ∧
      ((s.die die).moraine.length < moraineTop →
        Does (.programStatus die k false) s fun t =>
          (∀ v ∈ u.moves, t.firn v.flake = fDirty ∧ v.flake ∈ (t.die die).first) ∧
          (∀ m, (∀ v ∈ (s.die die).units, v.blk = u.blk → m ∉ v.moves.map (·.flake)) → t.firn m = s.firn m) ∧
          t.shadow.fmap = s.shadow.fmap ∧ (∃ x ∈ (t.die die).moraine, x.blk = u.blk) ∧
          t.reg (ixFlash die (u.lun / 32)) 4 = min 0xFFFFFFFF (s.reg (ixFlash die (u.lun / 32)) 4 + 1) ∧
          t.dram.lines = s.dram.lines ∧ Keeps s t [.shadow, .dram, .regs]))

/-- 08 R194 to R210: the glacier's upkeep.
It says that these commands answer a next state: operationTimeout, eraseStart, eraseSuspended, eraseStatus,
pageReadResult, gcTrigger, relocatePage, verifyRead, lunFail. -/
def Obligations.GlacierIsKept : Prop :=
  ∀ (s : State) (die lun b a levels : Nat) (res : List PageDecode), s.aon.on = true → die < s.n →
    s.flashHalted die = false →
    let k := s.lunOf die lun
    let quiet := fun (t : State) => t.shadow.firn = s.shadow.firn ∧ t.shadow.fmap = s.shadow.fmap
    (lunOfBlk b = lun → (s.allLuns die).elem lun = true → k.erasing = none → s.mayStartErase die = true →
      s.readsFor die lun = false → s.programs die lun = false → s.mayErase die b = true →
      Does (.eraseStart die lun b) s fun t =>
        t.lunOf die lun = { k with erasing := some b, suspends := 0, susp := 0 } ∧
        look 0 (t.die die).intents lun = b ∧ (∀ x, t.page die x = s.page die x) ∧ quiet t ∧
        Keeps s t [.shadow]) ∧
    (k.erasing = some b →
      (k.susp = 1 → s.readsFor die lun = true → Does (.eraseSuspended die lun) s fun t =>
        t.lunOf die lun = { k with susp := 3 } ∧ quiet t ∧ Keeps s t [.shadow]) ∧
      (k.susp = 2 → s.readyUnits die lun ≠ [] → Does (.eraseSuspended die lun) s fun t =>
        t.lunOf die lun = { k with susp := 3 } ∧ t.programs die lun = true ∧ quiet t ∧ Keeps s t [.shadow]) ∧
      (k.susp = 1 → s.readsFor die lun = false → s.programs die lun = false → s.readyUnits die lun = [] →
        Does (.eraseSuspended die lun) s fun t =>
          (t.lunOf die lun).erasing = some b ∧ ((t.lunOf die lun).susp = 0 ∨ (t.lunOf die lun).susp = 2) ∧ quiet t ∧ Keeps s t [.shadow]) ∧
      (k.susp < 3 →
        let ended := fun (t : State) => (t.lunOf die lun).erasing = none ∧ (t.lunOf die lun).susp = 0 ∧
          look 0 (t.die die).intents lun = 0 ∧
          t.fw = { s.fw with bootErase := if die = 0 then without b s.fw.bootErase else s.fw.bootErase } ∧
          ((s.die die).phase = 0 → (s.die die).jobs = [] → ∀ x, blkOfPage x = b → t.page die x = noPage) ∧ quiet t;
        (Does (.eraseStatus die lun true) s fun t =>
          ended t ∧
          t.reg (ixGlacier die) 0x0C = (if isBootBlk die b = true then s.reg (ixGlacier die) 0x0C
            else min 0xFFFFFFFF (s.reg (ixGlacier die) 0x0C + 1)) ∧
          ((s.die die).phase = 0 → (s.die die).jobs = [] → look 0 (t.die die).blocks b = 0 ∧
            (∀ x, blkOfPage x ≠ b → t.page die x = s.page die x)) ∧
          RegsBut s t [(ixGlacier die, 0x0C)] ∧ Keeps s t [.shadow, .fw, .regs]) ∧
        ((s.die die).moraine.length < moraineTop →
          let failed := fun (t : State) => (∃ x ∈ (t.die die).moraine, x.blk = b) ∧
            t.reg (ixFlash die (lun / 32)) 5 = min 0xFFFFFFFF (s.reg (ixFlash die (lun / 32)) 5 + 1) ∧ ended t ∧
            RegsBut s t [(ixFlash die (lun / 32), 5)] ∧ Keeps s t [.shadow, .fw, .regs];
          Does (.eraseStatus die lun false) s failed ∧
          ((s.die die).units.find? (fun u => decide (u.lun = lun) && u.running) = none →
            let times := k.notReady.filter fun t => decide (s.aon.now - t < 3600000000000);
            (times.length < 3 → Does (.operationTimeout die lun) s fun t =>
              failed t ∧ (t.lunOf die lun).notReady = s.aon.now :: times) ∧
            (3 ≤ times.length → k.failed = false → (s.allLuns die).elem lun = true →
              Does (.operationTimeout die lun) s fun t => (t.lunOf die lun).failed = true))))) ∧
    (let ran := (s.die die).units.filter fun u => decide (u.lun = lun) && u.running;
      ran ≠ [] → (∀ u ∈ ran, u.num < (s.die die).nextUnit) →
      (k.notReady.filter fun t => decide (s.aon.now - t < 3600000000000)).length < 3 →
      Does (.operationTimeout die lun) s fun t =>
        t.reg (ixFlash die (lun / 32)) 4 = min 0xFFFFFFFF (s.reg (ixFlash die (lun / 32)) 4 + ran.length) ∧
        s.aon.now ∈ (t.lunOf die lun).notReady ∧
        (∀ u ∈ ran, ∀ v ∈ (t.die die).units, v.num ≠ u.num ∨ v.running = false) ∧
        Keeps s t [.shadow, .freeze, .regs]) ∧
    (∀ r l, takeRead (fun r => decide (r.page = a) && r.res.isNone) (s.die die).reads = some (r, l) →
      r.purpose ≤ 1 → s.lunReads die (lunOfBlk (blkOfPage a)) = true →
      let ok := decodes res && s.pageReads die a
      (ok = true → Does (.pageReadResult die a res) s fun t =>
        (t.die die).reads = { r with res := some true } :: l ∧
        (0 < r.level → (s.cleanAt die a).isSome = true → a ∈ (t.die die).relocate) ∧ quiet t ∧
        RegsBut s t [(ixGlacier die, 0x0A)] ∧ Keeps s t [.shadow, .regs]) ∧
      (ok = false → Does (.pageReadResult die a res) s fun t =>
        (t.die die).reads =
          (if r.level < 8 then { r with level := r.level + 1 } else { r with res := some false }) :: l ∧
        (r.level = 0 → t.reg (ixGlacier die) 0x0A = min 0xFFFFFFFF (s.reg (ixGlacier die) 0x0A + 1)) ∧ quiet t ∧
        RegsBut s t [(ixGlacier die, 0x0A)] ∧ Keeps s t [.shadow, .regs])) ∧
    (s.flashWorks die = true →
      (s.thawing = false → (s.allLuns die).elem lun = true → s.lowOn die lun 1 = true → s.gcVictim die = some b →
        Does (.gcTrigger die lun) s fun t =>
          (t.die die).gcOn = true ∧ look 0 (t.die die).blocks b = 4 ∧
          (∀ x ∈ s.currentIn die b, x ∈ (t.die die).relocate) ∧ quiet t ∧ Keeps s t [.shadow]) ∧
      (a ∈ (s.die die).relocate →
        (∀ m j, s.isMapPage die a = false → s.cleanAt die a = some m → freePump (s.die die).pumps = some j →
          ((s.die die).pumps.filter fun p => p.moving.isSome).length < (s.gcPumps die).1 →
          Does (.relocatePage die a) s fun t =>
            (∃ p : Pump, (t.die die).pumps = (s.die die).pumps ++ [p] ∧ p.num = j ∧ p.flake = m ∧
              p.moving = some a ∧ p.ready = false) ∧ a ∉ (t.die die).relocate ∧ t.dram.lines = s.dram.lines ∧
            quiet t ∧ hostsAre t { s.hosts with nextReq := t.hosts.nextReq } ∧ Keeps s t [.shadow, .dram, .hosts]) ∧
        (s.isMapPage die a = true → Does (.relocatePage die a) s fun t =>
          a ∉ (t.die die).relocate ∧
          (∀ e, (s.die die).mapAddr.find? (fun e => decide (e.2 = a)) = some e → e.1 ∈ (t.die die).mapChanged) ∧
          quiet t ∧ Keeps s t [.shadow])) ∧
      (s.nextVerify die = some a → s.programs die (lunOfBlk (blkOfPage a)) = false →
        s.eraseSpent die (lunOfBlk (blkOfPage a)) = true → Does (.verifyRead die a ⟨levels, res⟩) s fun t =>
          t.reg (ixGlacier die) 0x0B = (if (s.die die).verifyHeld = true then s.reg (ixGlacier die) 0x0B
            else min 0xFFFFFFFF (s.reg (ixGlacier die) 0x0B + 1)) ∧ (t.die die).verifyAt = (s.die die).verifyAt ∧
          quiet t ∧ RegsBut s t [(ixGlacier die, 0x0B)] ∧ Keeps s t [.shadow, .regs]) ∧
      (s.nextVerify die = some a → s.programs die (lunOfBlk (blkOfPage a)) = false →
        s.eraseSpent die (lunOfBlk (blkOfPage a)) = false →
        let walked := fun (t : State) => (t.die die).verifyAt = a + 1 ∧
          RegsBut s t [(ixGlacier die, 0x0A), (ixGlacier die, 0x0B)] ∧ Keeps s t [.shadow, .regs];
        let ok := decodes res && s.pageReads die a;
        (ok = true → levels = 0 → res.elem .weak = false → Does (.verifyRead die a ⟨levels, res⟩) s fun t =>
          walked t ∧ quiet t) ∧
        (∀ m, s.cleanAt die a = some m →
          (ok = true → (0 < levels ∨ res.elem .weak = true) → Does (.verifyRead die a ⟨levels, res⟩) s fun t =>
            a ∈ (t.die die).relocate ∧ walked t ∧ quiet t) ∧
          (ok = false → Does (.verifyRead die a ⟨levels, res⟩) s fun t =>
            t.firn m = fDirty ∧ t.fmapOf m = 0 ∧ (∀ x, x ≠ m → t.firn x = s.firn x ∧ t.fmapOf x = s.fmapOf x) ∧
            walked t)))) ∧
    (k.failed = false → (s.allLuns die).elem lun = true → Does (.lunFail die (.lun lun)) s fun t =>
      (t.lunOf die lun).failed = true ∧
      (∀ m x, s.homeDie m = die → look? s.shadow.fmap m = some x → lunOfBlk (blkOfPage x) = lun →
        (s.firn m = fClean → t.firn m = fDirty) ∧ (s.firn m = fUnrestored → t.firn m = fPoisoned)) ∧
      (∀ d, d ≠ die → (t.die d).pages = (s.die d).pages) ∧
      Keeps s t [.shadow, .freeze, .dram, .hosts, .sparing, .regs, .out]) ∧
    (lun < 16 → Does (.lunFail die (.channel lun)) s fun t =>
      ∀ l ∈ s.activeLuns die lun, (t.lunOf die l).failed = true)

/-- 09 R213, R215, R216, R218, R228, Table 09.5.
It says that these commands answer a next state: pwrfailDetect, senseVinLow, sledFreezeSignal. -/
def Obligations.PowerFailStartsTheFreeze : Prop :=
  ∀ (s : State), s.aon.on = true →
    let point := fun (t : State) =>
      t.seq.st = (if s.seq.st = 15 then 15 else 13) ∧ t.hosts.stopped = true ∧ t.hosts.flits = [] ∧ t.hosts.routeHolds = [] ∧
      (∀ sc, (t.chan sc).writes = [] ∧ (t.chan sc).issued = [] ∧
        ∀ q ∈ (t.chan sc).reads, ∃ d k p, q.src = .pump d k p) ∧
      t.shadow.notices = [] ∧ t.shadow.held = [] ∧ t.shadow.through = [] ∧ t.freeze.fetchWait = [] ∧
      t.sparing.heals = [] ∧ t.ten.waiting = [] ∧ t.ten.retiring = [] ∧ t.mgmt.ready = false ∧
      (∀ d, d < s.n → (t.die d).reads = [] ∧ (t.die d).closing = none ∧ (t.die d).gcOn = false ∧
        (t.die d).units = (s.die d).units ∧ (t.die d).pages = (s.die d).pages ∧
        (∀ p ∈ (t.die d).pumps, p.moving = none) ∧ (t.die d).sealA = (s.die d).sealA ∧
        (t.die d).sealB = (s.die d).sealB ∧ (t.die d).freezeSeal = (s.die d).freezeSeal) ∧
      (∀ e ∈ s.shadow.notices, e.applied = false → s.firn e.flake = fClean → s.flakeMode e.flake = 0 →
        t.firn e.flake ≠ fClean ∧ ((∀ sc, ∀ q ∈ (s.chan sc).writes, q.op ≠ .partialWrite) →
          s.writesUnderWay = [] → t.firn e.flake = fDirty)) ∧
      Keeps s t [.aon, .seq, .hosts, .ten, .dram, .shadow, .freeze, .sparing, .bat, .mgmt, .regs, .freeCount]
    let starts := fun (c : Instr) (source : Nat) =>
      (s.mayFreeze = true → s.freezesPlainly = false → Does c s fun t =>
        point t ∧ t.freeze.active = true ∧ t.freeze.source = source ∧ t.freeze.detect = s.aon.deviceTime ∧
        t.freeze.drained = [] ∧ t.freeze.sealedBy = [] ∧ t.seq.release = []) ∧
      (s.mayFreeze = true → s.freezesPlainly = true → Does c s fun t =>
        point t ∧ t.freeze.active = false ∧ t.seq.release = s.workingDies)
    starts .pwrfailDetect 1 ∧ starts .senseVinLow 2 ∧ (s.seq.st = 12 → starts .sledFreezeSignal 3) ∧
    (s.mayFreeze = false →
      (Does .pwrfailDetect s fun t =>
        t.aon = { s.aon with pwrfailLow := true, holdRunning := false } ∧ Keeps s t [.aon]) ∧
      (Does .senseVinLow s fun t =>
        t.aon = { s.aon with senseLow := true, holdRunning := false } ∧ Keeps s t [.aon]) ∧
      Does .sledFreezeSignal s fun t => Keeps s t [])

/-- 09 R220, R225 to R227, Tables 09.1 and 09.3.
It says that these commands answer a next state: freezeSnowDrained, freezeSeal, freezeAllSealed,
freezeHoldExit, inputPowerReturn. -/
def Obligations.FreezeSealsAndEnds : Prop :=
  ∀ (s : State) (die : Nat), s.aon.on = true → die < s.n →
    (s.freeze.active = true → s.freezeDies.elem die = true → s.freeze.drained.elem die = false →
      s.pickFreeze die = none → (s.die die).pumps = [] → (s.die die).units = [] →
      Does (.freezeSnowDrained die) s fun t =>
        t.freeze = { s.freeze with drained := s.freeze.drained ++ [die] } ∧ look [] t.shadow.cache die = [] ∧
        (t.die die).mapPages = (s.die die).heatChanged.foldl (fun l p => addOnce p l) (s.die die).mapChanged ∧
        (t.die die).mapChanged = [] ∧ (t.die die).phase ≠ 0 ∧ (∀ d, d ≠ die → t.die d = s.die d) ∧
        t.shadow.firn = s.shadow.firn ∧ t.shadow.fmap = s.shadow.fmap ∧ Keeps s t [.shadow, .freeze]) ∧
    (s.freeze.active = true → s.freezeSeals = true → s.freeze.drained.elem die = true →
      s.freeze.sealedBy.elem die = false → (s.die die).phase = 4 →
      (Does (.freezeSeal die false) s fun t =>
        (∃ sl, t.die die = { s.die die with freezeSeal := some sl } ∧ sl.whole = false) ∧
        (∀ d, d ≠ die → t.die d = s.die d) ∧ t.shadow.firn = s.shadow.firn ∧ Keeps s t [.shadow]) ∧
      Does (.freezeSeal die true) s fun t =>
        (∃ sl, t.die die = { s.die die with freezeSeal := some sl, phase := 0, mapPages := [] } ∧
          sl.epoch = s.shadow.epoch ∧ sl.root = (s.die die).rootAddr ∧ sl.openBlocks = (s.die die).openSince ∧
          sl.source = s.freeze.source ∧ sl.time = s.freeze.detect ∧
          sl.snowline = look 0 s.freeze.snowAtStart die ∧ sl.saved = look 0 s.freeze.saved die ∧
          sl.lost = look 0 s.freeze.lost die ∧ sl.sweeps = s.sweepList ∧ (∀ n, n ∈ sl.checkpoints ↔ n ∈ s.shadow.ckptDone ∨ n ∈ s.shadow.ckptSealing) ∧
          sl.swept = s.sweptHome die ∧
          sl.duration = s.aon.deviceTime - s.freeze.detect ∧ sl.whole = true) ∧
        (∀ d, d ≠ die → t.die d = s.die d) ∧ t.freeze = { s.freeze with sealedBy := s.freeze.sealedBy ++ [die] } ∧
        t.seq = { s.seq with holds := without die s.seq.holds } ∧ t.shadow.firn = s.shadow.firn ∧
        t.shadow.fmap = s.shadow.fmap ∧ Keeps s t [.shadow, .freeze, .seq]) ∧
    (s.freeze.active = true → (∀ d ∈ s.freezeDies, d ∈ s.freeze.sealedBy) → Does .freezeAllSealed s fun t =>
      t.freeze = { s.freeze with active := false } ∧ t.seq.release = s.workingDies ∧ t.seq.st = s.seq.st ∧
      t.aon.savedTime = s.aon.deviceTime ∧ t.reg 0x6800 0x11 = s.freeze.source ∧
      t.reg 0x6800 0x12 = min 0xFFFFFFFF (s.reg 0x6800 0x12 + 1) ∧
      t.bus.st = 0 ∧
      (∀ d ∈ s.workingDies, ∀ q, q < 4 → 3 ≤ (t.quad d q).st) ∧ t.dram.lines = s.dram.lines ∧
      Keeps s t [.aon, .seq, .hosts, .dram, .freeze, .bat, .bus, .wire, .rings, .regs, .out, .freeCount]) ∧
    (Does .inputPowerReturn s fun t =>
      t.aon = { s.aon with pwrfailLow := false, senseLow := false, holdRunning := decide (s.seq.st = 14) } ∧
      Keeps s t [.aon]) ∧
    (s.seq.st = 14 → s.aon.pwrfailLow = false → s.aon.senseLow = false → s.aon.holdRunning = true →
      s.seq.release = [] → (s.reg 0x7101 2 = 1 → s.aon.wakeStored ≠ []) → Does .freezeHoldExit s fun t =>
        t.seq = { s.seq with holds := [] } ∧ t.aon = { s.aon with holdRunning := false } ∧
        Keeps s t [.aon, .seq])

/-- 12 R284, R285, Table 12.1.
It says that these commands answer a next state: seqsyncRise. -/
def Obligations.SequencerStatesAdvance : Prop :=
  ∀ (s : State) (st : Nat), s.aon.on = true →
    (s.riseTo = some st → s.seq.holds = [] → Does .seqsyncRise s fun t =>
      t.seq.st = st ∧ t.reg 0x7100 4 = min 0xFFFFFFFF (s.reg 0x7100 4 + 1) ∧ (st = 12 → t.seq.holds = [])) ∧
    (s.riseTo = none ∨ s.seq.holds ≠ [] → Does .seqsyncRise s fun t => Keeps s t []) ∧
    (s.seq.st ≤ 11 → s.riseTo = some (s.seq.st + 1)) ∧ (s.seq.st = 14 → s.riseTo = some 1) ∧
    (s.seq.st = 13 → s.freeze.active = false → s.riseTo = some 14) ∧
    (s.seq.st = 13 → s.freeze.active = true → s.riseTo = none) ∧
    (s.seq.st = 13 → s.freeze.active = false → s.seq.holds = [] → s.freeze.sealedBy ≠ [] → Does .seqsyncRise s fun t =>
      t.reg 0x6800 0x0D = time48 (s.aon.deviceTime - s.freeze.detect)) ∧
    (s.seq.st = 12 ∨ s.seq.st = 15 → s.riseTo = none)

/-- 08 R202; 09 R229, R231, R232, R235, Table 09.6.
It says that these commands answer a next state: intentReerase, mapRestoreDone, recoverySeal. -/
def Obligations.ThawResolvesEveryFlake : Prop :=
  ∀ (s : State) (die lun b m a n bits : Nat) (sl : Seal) (i : MapImage) (bad retried : List Nat), s.aon.on = true → die < s.n →
    (look 0 (s.die die).intents lun = b → b ≠ 0 → s.seq.st = 10 → (s.allLuns die).elem lun = true →
      (bits ≤ 8 → Does (.intentReerase die lun true bits) s fun t =>
        look 0 (t.die die).intents lun = 0 ∧ look 0 (t.die die).blocks b = 0 ∧
        (∀ x, blkOfPage x = b → t.page die x = noPage) ∧ (∀ x, blkOfPage x ≠ b → t.page die x = s.page die x) ∧
        t.reg (ixGlacier die) 0x0C = min 0xFFFFFFFF (s.reg (ixGlacier die) 0x0C + 1) ∧
        t.reg (ixFlash die (lun / 32)) 6 = min 0xFFFFFFFF (s.reg (ixFlash die (lun / 32)) 6 + 1) ∧
        RegsBut s t [(ixGlacier die, 0x0C), (ixFlash die (lun / 32), 6)] ∧ Keeps s t [.shadow, .seq, .fw, .regs]) ∧
      ((s.die die).moraine.length < moraineTop → ∀ erased, (erased = false ∨ 8 < bits) →
        Does (.intentReerase die lun erased bits) s fun t =>
          look 0 (t.die die).intents lun = 0 ∧ (∃ x ∈ (t.die die).moraine, x.blk = b) ∧
          (∀ x, blkOfPage x = b → t.page die x = noPage) ∧ (∀ x, blkOfPage x ≠ b → t.page die x = s.page die x) ∧
          RegsBut s t [(ixFlash die (lun / 32), if erased then 6 else 5)] ∧ Keeps s t [.shadow, .seq, .fw, .regs])) ∧
    (s.seq.st = 11 → s.freeze.thaw = 2 → s.workingDies.elem die = true → s.freeze.restored.elem die = false →
      s.freeze.recovery = 1 → s.usedSeal die = some sl → s.imageOf die sl bad = some i → s.lostRanks = [] →
      s.homeDie m = die → i.lost.elem (s.homeIdx m / 2048) = false → Does (.mapRestoreDone ⟨die, bad, retried⟩) s fun t =>
        (s.flakeTen m = none → t.firn m = fTrimmed ∧ t.fmapOf m = 0) ∧
        (s.flakeTen m = some n → (s.tenancy n).mode = 2 → t.firn m = fTrimmed ∧ t.fmapOf m = 0) ∧
        (s.flakeTen m = some n → (s.tenancy n).mode = 0 → look fTrimmed i.firn m = fClean →
          look 0 i.fmap m = a → a ≠ 0 → t.firn m = fUnrestored ∧ t.fmapOf m = a) ∧
        (s.flakeTen m = some n → (s.tenancy n).mode ≤ 1 → look fTrimmed i.firn m = fPoisoned →
          t.firn m = fPoisoned ∧ m ∈ t.freeze.poisoned) ∧
        (∀ x, s.homeDie x ≠ die → t.firn x = s.firn x ∧ t.fmapOf x = s.fmapOf x) ∧
        die ∈ t.freeze.restored ∧ Keeps s t [.shadow, .freeze, .hosts, .regs]) ∧
    (s.seq.st = 11 → s.freeze.thaw = 2 → s.workingDies.elem die = true → s.freeze.restored.elem die = false →
      s.freeze.recovery ≠ 0 → ∀ l, (s.usedSeal die = none ∧ l = (if s.anySeal then s.homeFlakes die else s.coveredHome die)) ∨
        (l = s.coveredHome die ∧ ∃ x, s.usedSeal die = some x ∧ s.imageOf die x bad = none) →
      Does (.mapRestoreDone ⟨die, bad, retried⟩) s fun t =>
        (∀ x ∈ l, t.firn x = fPoisoned ∧ x ∈ t.freeze.poisoned) ∧ die ∈ t.freeze.restored) ∧
    (s.seq.st = 11 → s.freeze.thaw = 2 → (∀ d ∈ s.workingDies, d ∈ s.freeze.restored ∧
        (s.freeze.recovery ≠ 2 ∨ (s.die d).phase = 4)) →
      (∀ torn, torn ≠ [] → s.freeze.recovery ≠ 0 → Does (.recoverySeal torn) s fun t =>
        t.freeze = s.freeze ∧ (∀ d, d ∉ torn → t.die d = s.die d) ∧
        (∀ d ∈ s.workingDies, d ∈ torn → (t.die d).freezeSeal = (s.die d).freezeSeal) ∧
        t.shadow.firn = s.shadow.firn ∧ Keeps s t [.shadow]) ∧
      Does (.recoverySeal []) s fun t =>
        let e := if s.freeze.recovery = 2 then s.freeze.topEpoch + 1 else s.freeze.epoch
        (∀ d ∈ s.workingDies, (t.die d).freezeSeal = none ∧ (t.die d).openSince = []) ∧
        (s.freeze.recovery = 0 → t.shadow.counter = s.shadow.counter ∧
          ∀ d ∈ s.workingDies, (t.die d).sealA = none ∧ (t.die d).sealB = none) ∧
        (s.freeze.recovery ≠ 0 → t.shadow.counter = some (e + 1) ∧ t.shadow.epoch = e + 1 ∧
          t.shadow.sealedAll = some e ∧
          ∀ d ∈ s.workingDies, ∃ x, ((t.die d).sealA = some x ∨ (t.die d).sealB = some x) ∧ x.epoch = e ∧ x.whole = true ∧
            (s.freeze.recovery = 2 → x.root = (s.die d).rootAddr)) ∧
        (s.freeze.mode = 0 → t.freeze.thaw = 3 ∧ t.seq.holds = s.seq.holds) ∧
        (s.freeze.mode ≠ 0 → t.freeze.thaw = 4 ∧ t.seq.holds = []) ∧ t.shadow.firn = s.shadow.firn ∧
        t.shadow.fmap = s.shadow.fmap ∧ Keeps s t [.seq, .ten, .shadow, .freeze, .regs])

/-- 09 R233, R236, R240, Table 09.7.
It says that these commands answer a next state: restoreFetch, fetchComplete, restoreFill, thawComplete,
heatHalving. -/
def Obligations.ThawRestoresDram : Prop :=
  ∀ (s : State) (die m i : Nat), s.aon.on = true → die < s.n → i < 256 →
    let o := m * flakeBytes + 64 * i
    let quiet := s.freeze.fetchWait.filter (fun q => decide (flakeOf q.dpa = m)) = []
    (s.restores die = true → s.homeDie m = die → s.firn m = fUnrestored → s.flakeAwake m = true →
      s.nextDrift die = some (s.driftOf m) → Does (.restoreFetch die m) s fun t =>
        t.firn m = fRestoring ∧ (∀ x, x ≠ m → t.firn x = s.firn x) ∧ t.shadow.fmap = s.shadow.fmap ∧
        (t.die die).reads = (s.die die).reads ++
          [{ page := s.fmapOf m, flake := m, purpose := 0, host := false, level := 0, res := none }] ∧
        RegsBut s t [(ixGlacier die, 0x0B)] ∧ Keeps s t [.shadow, .regs]) ∧
    (∀ r l bm ls, takeRead (fun r => decide (r.flake = m) && decide (r.purpose = 0) && r.res.isSome)
        (s.die die).reads = some (r, l) → s.restoreTurn m = true → s.firn m = fRestoring → quiet →
      ((s.page die r.page).body = .data bm ls → r.res = some true → Does (.fetchComplete die m) s fun t =>
        t.firn m = (if s.shadow.swept.elem m = false ∨ s.flakeMode m = 3 then fClean else
          if s.flakeMode m = 2 then fVolatile else fDirty) ∧
        (∀ x, x ≠ m → t.firn x = s.firn x) ∧ t.shadow.fmap = s.shadow.fmap ∧
        (0 < r.level → r.page ∈ (t.die die).relocate) ∧
        (t.die die).reads = l ∧ (OwnLine s m i → t.cell o = pageCell o s bm ls i) ∧
        Keeps s t [.shadow, .freeze, .dram, .hosts, .regs]) ∧
      (r.res = some false → Does (.fetchComplete die m) s fun t =>
        t.firn m = fPoisoned ∧ t.fmapOf m = 0 ∧ (∀ x, x ≠ m → t.firn x = s.firn x) ∧
        (OwnLine s m i → t.cell o = .poison) ∧ (s.thawing = true → m ∈ t.freeze.poisoned) ∧
        Keeps s t [.shadow, .freeze, .dram, .hosts, .regs])) ∧
    (s.restores die = true → s.homeDie m = die → s.mark (s.driftOf m) = false → s.freeze.filled.elem m = false →
      s.flakeAwake m = true → s.restoreTurn m = true → s.nextDrift die = some (s.driftOf m) → quiet →
      (s.firn m = fTrimmed → Does (.restoreFill die m) s fun t =>
        (OwnLine s m i → t.cell o = .data 0 (s.material o)) ∧ shadowIs t s.shadow ∧
        (m ∈ t.freeze.filled ∨ t.mark (s.driftOf m) = true) ∧ Keeps s t [.dram, .freeze]) ∧
      (s.firn m = fPoisoned → Does (.restoreFill die m) s fun t =>
        (OwnLine s m i → t.cell o = .poison) ∧ shadowIs t s.shadow ∧
        (m ∈ t.freeze.filled ∨ t.mark (s.driftOf m) = true) ∧ Keeps s t [.dram, .freeze])) ∧
    (s.freeze.thaw = 3 ∨ s.freeze.thaw = 4 → s.freeze.active = false → s.seq.st ≠ 13 → s.seq.st ≠ 14 →
      s.allMarked = true → Does .thawComplete s fun t =>
        t.freeze.thaw = 5 ∧ (∀ j, t.mark j = true) ∧
        t.reg 0x6800 0x0F = time48 ((s.aon.now - s.freeze.started) / 1000) ∧
        t.seq = { s.seq with holds := if s.freeze.thaw = 4 then s.seq.holds else [] } ∧
        t.dram.lines = s.dram.lines ∧ RegsBut s t [(0x6800, 0x0F)] ∧ Keeps s t [.seq, .dram, .freeze, .regs]) ∧
    (s.seq.st = 12 → s.freeze.active = false → Sparse.wf 0 s.shadow.heat = true → Does .heatHalving s fun t =>
      (∀ j, look 0 t.shadow.heat j = look 0 s.shadow.heat j / 2) ∧ t.shadow.firn = s.shadow.firn ∧
      t.shadow.heatSub = s.shadow.heatSub ∧ Keeps s t [.shadow])

/-- 10 R242 to R253, Tables 10.1, 10.3, 10.4.
It says that these commands answer a next state: retryReadComplete, pageReadResult, retireBucketRoll,
rankRetireTrigger, migrationLine, rebuildLine, healPageArrived. -/
def Obligations.RanksAreSparedAndHealed : Prop :=
  ∀ (s : State) (die r reason x m i : Nat) (e : Nat × Redirect) (p q : Nat), s.aon.on = true → die < s.n → r < 16 * s.n →
    (Does .retireBucketRoll s fun t =>
      (∀ k ∈ s.rankList, (s.rank k).ueBuckets ≠ [] ∨ (s.rank k).ceBuckets ≠ [] → t.rank k = { s.rank k with
        ueBuckets := (0 :: (s.rank k).ueBuckets).take 24, ceBuckets := (0 :: (s.rank k).ceBuckets).take 24 }) ∧
      t.dram.lines = s.dram.lines ∧ Keeps s t [.dram]) ∧
    (s.reached r reason = true → (s.rank r).st = 1 → s.logicalOf r = r → s.redirectOf r = none →
      (∀ late, s.pickSpare r = some x → (s.rank x).st = 3 → late = s.migrating (dieOfRank r) →
        (reason ≤ 3 ∨ late = true ∨ ∀ y ∈ s.sparing.redirect, y.2.queued = false) →
        Does (.rankRetireTrigger r reason) s fun t =>
          (t.rank x).st = 4 ∧ t.reg (0x6920 + r) 6 = reason ∧
          t.redirectOf r = some
            { carrier := x, source := r, watermark := 0, complete := false, rebuild := decide (3 < reason),
              reason := reason, queued := decide (reason ≤ 3) && late, order := s.nextOrder, early := [] } ∧
          (t.rank r).st = (if 3 < reason then 7 else if late then 1 else 6) ∧ t.dram.lines = s.dram.lines ∧
          RegsBut s t [(0x6920 + r, 6), (0x6920 + r, 7), (0x6920 + x, 7)] ∧ Keeps s t [.dram, .sparing, .regs]) ∧
      (s.pickSpare r = none → s.freeze.thaw ≠ 1 →
        (∀ y ∈ s.sparing.redirect, y.2.queued = true → (s.rank y.2.source).st ≠ 9) →
        Does (.rankRetireTrigger r reason) s fun t =>
        (t.rank r).st = 9 ∧ (∀ k ∈ s.flakesOn r, t.firn k = fPoisoned) ∧
        t.reg 0x6900 7 = t.degradedBytes ∧ Keeps s t [.dram, .shadow, .sparing, .hosts, .regs, .out])) ∧
    (s.reached r reason = true → (s.rank r).st = 3 → Does (.rankRetireTrigger r reason) s fun t =>
      t.rank r = { s.rank r with st := 10 } ∧ t.reg (0x6920 + r) 6 = reason ∧
      RegsBut s t [(0x6920 + r, 6), (0x6920 + r, 7)] ∧ Keeps s t [.dram, .regs]) ∧
    (s.freeze.active = false →
      let off := e.2.watermark
      let o := s.dpaOfRank e.1 off
      let moved := fun (t : State) =>
        (off + 64 < s.crank → t.redirectOf e.1 = some { e.2 with
          watermark := off + 64, early := without (off / 64) e.2.early }) ∧
        (s.crank ≤ off + 64 → e.2.source ≠ e.2.carrier → (∀ y ∈ s.sparing.redirect, y.2.queued = false) →
          t.redirectOf e.1 = some { e.2 with watermark := s.crank, complete := true, early := [] } ∧
          (t.rank e.2.source).st = 8 ∧ (t.rank e.2.carrier).st = 5);
      (s.runningCopy die = some e → s.awaitsRetry (.migrate e.2.source off) = false →
        s.turnOf e.2.source off o 7 = true → s.turnOf e.2.carrier off o 7 = true →
        (Does (.migrationLine die []) s fun t =>
          t.cellAt o e.2.carrier off = s.cellAt o e.2.source off ∧
          moved t ∧ Keeps s t [.dram, .sparing, .regs]) ∧
        Does (.migrationLine die [p, q]) s fun t =>
          (∃ y l, (t.chan (subOf e.2.source off)).issued = y :: l ∧ y.req.src = .migrate e.2.source off ∧
            y.retry = true ∧ y.rank = e.2.source ∧ y.off = off ∧ y.req.dpa = o) ∧
          t.dram.lines = s.dram.lines ∧ Keeps s t [.dram, .hosts]) ∧
      (∀ sc y l off', takeIssued (fun i => i.retry) (s.chan sc).issued = some (y, l) →
        y.req.src = .migrate y.rank off' → y.req.dpa < s.assignable → s.firn (flakeOf y.req.dpa) = fClean →
        let n := flakeOf y.req.dpa
        Does (.retryReadComplete sc [p, q]) s fun t =>
          (t.die (s.homeDie n)).reads = (s.die (s.homeDie n)).reads ++
            [{ page := s.fmapOf n, flake := n, purpose := 3, host := false, level := 0, res := none }] ∧
          (t.rank y.rank).ueBuckets = bump (s.rank y.rank).ueBuckets ∧ t.dram.lines = s.dram.lines ∧
          Keeps s t [.dram, .shadow, .regs]) ∧
      (∀ sc y a rd l c res, y ∈ (s.chan sc).issued → y.waitsPage (flakeOf o) = true →
        (s.dram.chans.flatMap fun x => x.2.issued.filter fun j => j.waitsPage (flakeOf o)) = [y] →
        y.req.dpa = o → y.rank = e.2.source → y.off = off → s.runningCopy (dieOfRank y.rank) = some e →
        takeRead (fun r => decide (r.page = a) && r.res.isNone) (s.die die).reads = some (rd, l) →
        rd.purpose = 3 → rd.flake = flakeOf o → s.flashHalted die = false →
        s.lunReads die (lunOfBlk (blkOfPage a)) = true → decodes res = true → s.pageReads die a = true →
        o < s.assignable → (s.coverOf (o / driftBytes)).isSome = true → s.firn (flakeOf o) = fClean →
        s.fmapOf (flakeOf o) = a → s.pageLine (flakeOf o) o true = some c → Does (.pageReadResult die a res) s fun t =>
          t.cellAt o e.2.carrier off = c ∧ moved t ∧ t.firn (flakeOf o) = fClean ∧
          Keeps s t [.dram, .shadow, .sparing, .regs]) ∧
      (s.sparing.redirect.find? (fun e => decide (dieOfRank e.1 = die) && decide (e.2.source = r) &&
          !e.2.complete && e.2.rebuild) = some e → s.rebuildDue e.1 r = none →
        e.2.early.elem (off / 64) = false → o < s.assignable →
        (s.coverOf (o / driftBytes)).isSome = true →
        (s.firn (flakeOf o) = fClean → s.rebuildTurn (flakeOf o) 7 = true → s.dieOut (s.homeDie (flakeOf o)) = false →
          let n := flakeOf o
          let h := s.homeDie n
          (∀ y ∈ (s.die h).reads, y.rebuilds n = false) → n * flakeBytes < s.assignable →
          Does (.rebuildLine die r) s fun t =>
            (t.die h).reads = (s.die h).reads ++
              [{ page := s.fmapOf n, flake := n, purpose := 4, host := false, level := 0, res := none }] ∧
            t.dram.lines = s.dram.lines ∧ t.sparing = s.sparing ∧ Keeps s t [.dram, .shadow, .regs]) ∧
        (s.slotTurn e.2.carrier off 7 = true →
        (s.firn (flakeOf o) = fTrimmed → Does (.rebuildLine die r) s fun t =>
          t.cellAt o e.2.carrier off = .data 0 (s.material o) ∧ moved t ∧ t.shadow.firn = s.shadow.firn ∧
          Keeps s t [.dram, .shadow, .sparing, .regs]) ∧
        (isSnow (s.firn (flakeOf o)) = true ∨ s.firn (flakeOf o) = fVolatile → Does (.rebuildLine die r) s fun t =>
          t.cellAt o e.2.carrier off = .poison ∧ t.firn (flakeOf o) = s.firn (flakeOf o) ∧
          moved t ∧ Keeps s t [.dram, .shadow, .sparing, .hosts, .regs])))) ∧
    (∀ rd l h, s.healTurn h = true → (s.tenOf (m * flakeBytes) = none ∨ (s.flakeTen m).isSome = true) →
      takeRead (fun r => decide (r.flake = m) && decide (r.purpose = 1) && r.res.isSome)
        (s.die die).reads = some (rd, l) → (s.healsOf die).find? (fun h => decide (h.flake = m)) = some h →
      let done := fun (t : State) (sub : Nat) =>
        t.reg 0x6900 sub = min 0xFFFFFFFF (s.reg 0x6900 sub + 1) ∧ (t.die die).reads = l ∧
        t.healsOf die = (s.healsOf die).filter (fun x => !decide (x.flake = m)) ∧
        Keeps s t [.dram, .shadow, .sparing, .hosts, .regs, .out];
      (s.firn m ≠ fClean ∨ s.fmapOf m ≠ h.page → Does (.healPageArrived die m) s fun t =>
        done t 9 ∧ t.dram = s.dram ∧ t.shadow.firn = s.shadow.firn) ∧
      (s.firn m = fClean → s.fmapOf m = h.page →
        (∀ bm ls, rd.res = some true → (s.page die rd.page).body = .data bm ls → i < 256 → OwnLine s m i →
          Does (.healPageArrived die m) s fun t =>
            done t 8 ∧ t.shadow.firn = s.shadow.firn ∧
            t.cell (m * flakeBytes + 64 * i) = (if h.lines.getLsbD i = true then
              pageCell (m * flakeBytes + 64 * i) s bm ls i else s.cell (m * flakeBytes + 64 * i))) ∧
        (rd.res = some false → Does (.healPageArrived die m) s fun t =>
          done t 9 ∧ t.firn m = fDirty ∧ t.fmapOf m = 0 ∧ t.dram = s.dram)))

/-- 10 R256, R257, R259, Table 10.5.
It says that these commands answer a next state: hibernateEntry, hibernateRailsOff, hibernateReturn. -/
def Obligations.QuadrantsHibernateAndReturn : Prop :=
  ∀ (s : State) (die q : Nat), s.aon.on = true → die < s.n → q < 4 →
    let x := s.quad die q
    (s.mayHibernate die q = true → Does (.hibernateEntry die q) s fun t =>
      t.quad die q = { x with hibEntry := true, unmarked := s.quadDrifts die q } ∧
      (∀ m ∈ s.quadFlakes die q, s.firn m = fClean → t.firn m = fUnrestored) ∧
      (∀ m, m ∉ s.quadFlakes die q → t.firn m = s.firn m) ∧ (∀ j ∈ s.quadDrifts die q, t.mark j = false) ∧
      (∀ j, j ∉ s.quadDrifts die q → t.mark j = s.mark j) ∧ t.shadow.fmap = s.shadow.fmap ∧
      t.dram.lines = s.dram.lines ∧ Keeps s t [.dram, .shadow, .freeze]) ∧
    (s.mayHibernate die q = false → Does (.hibernateEntry die q) s fun t => Keeps s t []) ∧
    (x.st = 2 → x.hibEntry = true → x.returning = false → s.seq.st = 12 → Does (.hibernateRailsOff die q) s fun t =>
      t.quad die q = { x with st := 3, hibEntry := false } ∧ t.nextOff die (s.quadRails die q) = none ∧
      (∀ i, i < 24 → t.reg (ixRail die i) 0x0B = s.reg (ixRail die i) 0x0B ∧
        (i ∉ s.quadRails die q → t.railSt die i = s.railSt die i) ∧
        (i ∈ s.quadRails die q → t.railSt die i = 1 ∨ t.railSt die i = s.railSt die i) ∧
        (i ∈ s.quadRails die q → s.railOn die i = true → (∀ j, j < 24 → s.dependsOn die j i = false) →
          t.railSt die i = 1)) ∧
      t.domainOn die (13 + q) = false ∧ t.dram.lines = s.dram.lines ∧ Keeps s t [.seq, .dram, .regs]) ∧
    (x.st = 3 → x.returning = false → s.seq.st = 12 → s.freeze.active = false →
      Does (.hibernateReturn die q) s fun t =>
        t.quad die q = { x with returning := true } ∧ t.dram.lines = s.dram.lines ∧ Keeps s t [.dram])

/-- 11 R268, R269, R273, R274, R279, R282.
It says that these commands answer a next state: fullAnchor, endOfDischarge, energyLimitLoad,
limitDecayStart, limitDecayFloor, learnedRecordWrite, packRemoved, packInserted. -/
def Obligations.BatteryAccountFollowsItsEvents : Prop :=
  ∀ (s : State), s.aon.on = true →
    let written := fun (t : State) (r : Learned) => t.bat.newest = some r ∧
      (t.bat.recA = s.bat.recA ∨ t.bat.recB = s.bat.recB)
    (s.fullNow = true → Does .fullAnchor s fun t =>
      t.bat.q = s.bat.fcc ∧ t.bat.fcc = s.bat.fcc ∧ t.bat.anchor = s.aon.deviceTime ∧ t.bat.anchored = true ∧
      t.bat.anchorReady = false ∧ t.bat.anchorAcc = s.bat.acc ∧ t.bat.timeLost = false ∧ t.bat.acc = s.bat.acc ∧ t.bat.limit = s.bat.limit ∧
      t.bat.learn = (if s.bat.learn = 1 then 2 else s.bat.learn) ∧
      (s.bat.learn = 1 → t.bat.learnBase = s.bat.acc) ∧
      (∃ r, written t r ∧ r.q = s.bat.fcc ∧ r.fcc = s.bat.fcc ∧ r.anchor = s.aon.deviceTime) ∧
      Keeps s t [.bat]) ∧
    (s.bat.counting = true → s.bat.present = true → 100 * (s.charge - s.allowance) ≤ s.reg 0x7000 4 * s.bat.fcc →
      Does .endOfDischarge s fun t => batIs t { s.bat with warned := true } ∧ Keeps s t [.bat]) ∧
    (s.mgmt.ready = true → s.dieOut 0 = false → Does .energyLimitLoad s fun t =>
      batIs t { s.bat with limit := s.limitOf s.cistern, loadAt := some s.aon.now, decayAt := none,
                           atFloor := false, decayNote := false } ∧ Keeps s t [.bat]) ∧
    (s.mgmt.ready = false ∨ s.dieOut 0 = true → Does .energyLimitLoad s fun t => Keeps s t []) ∧
    (s.loadLate = true → s.bat.decayAt = none → s.bat.atFloor = false → Does .limitDecayStart s fun t =>
      batIs t { s.bat with decayAt := some s.aon.now, decayNote := true, learn := 0 } ∧
      t.reg 0x7003 6 = min 0xFFFFFFFF (s.reg 0x7003 6 + 1) ∧ (s.bat.learn ≠ 0 → t.reg 0x7001 6 = 10) ∧
      RegsBut s t [(0x7003, 6), (0x7001, 6)] ∧ Keeps s t [.bat, .regs]) ∧
    (∀ since, s.bat.decayAt = some since → 30000000000 ≤ s.aon.now - since → Does .limitDecayFloor s fun t =>
      batIs t { s.bat with decayAt := none, atFloor := true } ∧
      t.energyLimit = min s.bat.limit (s.reg 0x7003 4) ∧ Keeps s t [.bat]) ∧
    (s.bat.counting = true → Does .learnedRecordWrite s fun t =>
      written t s.learnedNow ∧
      batIs t { s.bat with recA := t.bat.recA, recB := t.bat.recB, nextB := !s.bat.nextB } ∧ Keeps s t [.bat]) ∧
    (s.bat.present = true → Does .packRemoved s fun t =>
      t.bat.present = false ∧ t.bat.anchored = false ∧ t.bat.learn = 0 ∧ t.bat.fcc = s.bat.fcc ∧ t.cistern = 0 ∧
      t.bat.chgEn = false ∧ (s.bat.learn ≠ 0 → t.reg 0x7001 6 = 5) ∧
      (s.bat.counting = true → ∃ r, written t r ∧ r.present = false) ∧
      RegsBut s t [(0x7001, 6)] ∧ Keeps s t [.bat, .regs]) ∧
    (s.bat.present = false → s.bat.counting = true → Does .packInserted s fun t =>
      t.bat.present = true ∧ t.bat.fcc = s.reg 0x7000 1 / 2 ∧ t.bat.anchored = false ∧ t.bat.required = true ∧
      t.cistern = 0 ∧ (∃ r, written t r ∧ r.present = true ∧ r.q = 0 ∧ r.required = true) ∧ Keeps s t [.bat]) ∧
    (s.bat.present = false → s.bat.counting = false → Does .packInserted s fun t =>
      batIs t { s.bat with present := true } ∧ Keeps s t [.bat])

/-- 11 R275 to R278, R281, Table 11.3.
It says that these commands answer a next state: learnStart, learnAbort, learnScheduledStart, learnTail,
learnTailResume, learnCutoff, learnAbortEvent, learnedValueRestore. -/
def Obligations.LearnCyclesRunTheirSteps : Prop :=
  ∀ (s : State) (o : Origin) (data : Bytes) (ev : LearnEvent), s.aon.on = true →
    let begun := fun (t : State) =>
      let main := s.bat.anchored = true ∧ s.bat.chgHeld = true ∧ s.aon.deviceTime - s.bat.anchor < 600000000
      (main → batIs t { s.bat with learn := 2, learnBase := s.bat.anchorAcc, learnAt := s.aon.now }) ∧
        (¬ main → batIs t { s.bat with learn := 1, learnAt := s.aon.now })
    let ended := fun (t : State) (outcome : Nat) =>
      batIs t { s.bat with learn := 0 } ∧ (s.bat.learn ≠ 0 → t.reg 0x7001 6 = outcome) ∧
        RegsBut s t [(0x7001, 6)]
    (MayUse s o 0x7001 1 true →
      (s.mayLearn = true → Does (.learnStart o) s fun t =>
        begun t ∧ SaysNow s t o stOk 1 ∧ Keeps s t [.bat, .bus, .out]) ∧
      (s.mayLearn = false → Does (.learnStart o) s fun t =>
        SaysNow s t o stState 0 ∧ Keeps s t [.bus, .out]) ∧
      Does (.learnAbort o) s fun t =>
        ended t 9 ∧ SaysNow s t o stOk 1 ∧ Keeps s t [.bat, .regs, .bus, .out]) ∧
    (MayUse s o 0x7004 1 true →
      (data.length = 16 → s.bat.lost = true → s.bat.restored = false → Does (.learnedValueRestore o data) s fun t =>
        batIs t { s.bat with
          fcc := min (s.reg 0x7000 1) (max (s.reg 0x7000 1 / 2) (leNat (data.take 4)))
          learns := leNat ((data.drop 4).take 4), lastLearn := leNat ((data.drop 8).take 6), restored := true } ∧
        okey 0x7004 1 ∈ t.usedW1 ∧ SaysNow s t o stOk 16 ∧ Keeps s t [.bat, .usedW1, .bus, .out]) ∧
      (data.length = 16 → s.bat.lost = false ∨ s.bat.restored = true → Does (.learnedValueRestore o data) s fun t =>
        SaysNow s t o stState 0 ∧ Keeps s t [.bus, .out]) ∧
      (data.length ≠ 16 → Does (.learnedValueRestore o data) s fun t =>
        SaysNow s t o stLength 0 ∧ Keeps s t [.bus, .out])) ∧
    (s.timeValid = true → s.reg 0x7001 2 ≠ 0 → s.reg 0x7001 2 ≤ s.aon.deviceTime →
      (s.mayLearn = true → Does .learnScheduledStart s fun t =>
        begun t ∧ t.reg 0x7001 2 = 0 ∧ RegsBut s t [(0x7001, 2)] ∧ Keeps s t [.bat, .regs]) ∧
      (s.mayLearn = false → Does .learnScheduledStart s fun t =>
        t.reg 0x7001 2 = 0 ∧ t.reg 0x7001 6 = 3 ∧ RegsBut s t [(0x7001, 2), (0x7001, 6)] ∧ Keeps s t [.regs])) ∧
    (s.bat.learn = 2 → (100 - s.reg 0x7000 4) * s.bat.fcc ≤ 100 * s.countedOut → Does .learnTail s fun t =>
      batIs t { s.bat with learn := 3, limit := 0, loadAt := some s.aon.now, decayAt := none, atFloor := false,
                           decayNote := false } ∧
      t.shadow.forceThrough = true ∧ shadowIs t { s.shadow with forceThrough := true } ∧
      Keeps s t [.bat, .shadow]) ∧
    (s.bat.learn = 3 → s.snowline < gib 1 → Does .learnTailResume s fun t =>
      batIs t { s.bat with learn := 4 } ∧ Keeps s t [.bat]) ∧
    (s.bat.learn = 2 ∨ s.bat.learn = 4 → s.bat.volts < s.reg 0x7000 0x0B → Does .learnCutoff s fun t =>
      t.bat.fcc = s.countedOut ∧ t.bat.q = 0 ∧ t.bat.learn = 0 ∧ t.bat.required = false ∧
      t.bat.learns = min 0xFFFFFFFF (s.bat.learns + 1) ∧ t.bat.lastLearn = s.aon.deviceTime ∧
      (∃ r, t.bat.newest = some r ∧ r.fcc = s.countedOut ∧ r.required = false) ∧ t.bat.acc = s.bat.acc ∧
      t.reg 0x7001 6 = (if s.bat.learn = 2 then 2 else 1) ∧ RegsBut s t [(0x7001, 6)] ∧ Keeps s t [.bat, .regs]) ∧
    ((s.learnEvent ev).1 = true → Does (.learnAbortEvent ev) s fun t =>
      ended t (s.learnEvent ev).2 ∧ Keeps s t [.bat, .regs])

/-- 12 R286, R291 to R303; 13 R308.
It says that these commands answer a next state: stateTimeLimit, railEnable, railPowerGood, railFail,
railRetry, railRelease, domainSwitchOff, domainDrainEnd, domainDrainTimeout, padRelease, wakeAlarm, wake,
corePllLock. -/
def Obligations.RailsAndDomainsAreSupervised : Prop :=
  ∀ (s : State) (o : Origin) (die rail reason mask dom : Nat), s.aon.on = true → die < s.n →
    let R := ixRail die rail
    let port := portOfDomain die dom
    (s.nextRail die = some rail → s.railsRun die = true → Does (.railEnable die) s fun t =>
      t.railSt die rail = 2 ∧ t.reg R 0x0B = 1 ∧ RegsBut s t [(R, 9), (R, 0x0A), (R, 0x0B)] ∧
      Keeps s t [.regs, .adc]) ∧
    (rail < 24 → s.railSt die rail = 2 → Does (.railPowerGood die rail) s fun t =>
      t.railSt die rail = 3 ∧ t.reg R 0x0A = 0 ∧
      (∀ i, i < 24 → i ≠ rail →
        t.railSt die i = s.railSt die i ∨ (s.railSt die i = 5 ∧ t.railSt die i = 1)) ∧
      t.dram.lines = s.dram.lines ∧ Keeps s t [.seq, .hosts, .dram, .regs]) ∧
    (rail < 24 → s.mayFail die rail reason = true → Does (.railFail die rail reason) s fun t =>
      t.railSt die rail = 4 ∧ t.reg R 0x0A = reason ∧
      (∀ i ∈ s.dependents die 24 [rail], i ≠ rail → s.railSt die i ≤ 3 →
        t.railSt die i = 5 ∧ t.reg (ixRail die i) 0x0A = 5) ∧
      (s.railSt die rail = 2 → s.lastAttempt die rail = false → Keeps s t [.seq, .hosts, .regs])) ∧
    (s.railsRun die = true → rail < 24 → s.railSt die rail = 4 → s.lastAttempt die rail = false →
      s.parentsGood die rail = true → Does (.railRetry die rail) s fun t =>
        t.railSt die rail = 2 ∧ t.reg R 0x0B = s.reg R 0x0B + 1 ∧ RegsBut s t [(R, 9), (R, 0x0A), (R, 0x0B)] ∧
        Keeps s t [.regs, .adc]) ∧
    (s.seq.release.elem die = true →
      (s.nextRelease die = some rail → Does (.railRelease die) s fun t =>
        t.railSt die rail = 1 ∧ RegsBut s t [(R, 9)] ∧ t.dram.lines = s.dram.lines ∧
        Keeps s t [.seq, .hosts, .dram, .shadow, .freeze, .sparing, .regs]) ∧
      (s.nextRelease die = none → s.freeze.active = false → Does (.railRelease die) s fun t =>
        t.seq = { s.seq with release := without die s.seq.release, holds := without die s.seq.holds } ∧
        (∀ p l, p < 2 → l < 4 → (t.hlink (2 * die + p) l).st = 0) ∧ t.dram.lines = s.dram.lines ∧
        Keeps s t [.seq, .hosts, .dram, .shadow, .freeze, .sparing])) ∧
    (1 ≤ s.seq.st → s.seq.st ≤ 11 → s.seq.holds ≠ [] →
      (0 ∈ s.seq.holds → Does .stateTimeLimit s fun t =>
        t.seq = { s.seq with st := 15, holds := [], reached := s.seq.st } ∧ t.reg 0x7100 2 = 1 ∧ RegsBut s t [(0x7100, 2)] ∧
        Keeps s t [.seq, .regs]) ∧
      (0 ∉ s.seq.holds → Does .stateTimeLimit s fun t =>
        t.seq.st = s.seq.st ∧ ∀ d ∈ s.seq.holds, t.dieOut d = true)) ∧
    (MayUse s o (0x7110 + die) 2 true → mask < 2 ^ 30 →
      (s.portBusy (2 * die) = false → s.portBusy (2 * die + 1) = false → Does (.domainSwitchOff o die mask) s fun t =>
        SaysNow s t o stOk 4 ∧
        (∀ k, 1 ≤ k → k ≤ 30 → bitOf (t.reg (0x7110 + die) 2) (k - 1) =
          (if s.switchable die k then bitOf mask (k - 1) else bitOf (s.reg (0x7110 + die) 2) (k - 1))) ∧
        RegsBut s t [(0x7110 + die, 2)]) ∧
      (9 ≤ dom → dom ≤ 12 → bitOf mask (dom - 1) = true → bitOf (s.reg (0x7110 + die) 2) (dom - 1) = false →
        s.portBusy port = true → Does (.domainSwitchOff o die mask) s fun t =>
          { die := die, dom := dom, caller := callerOf o, held := false } ∈ t.seq.drains ∧ t.out = [] ∧
          bitOf (t.reg (0x7110 + die) 2) (dom - 1) = false)) ∧
    (∀ x, let here := fun y : Drain => decide (y.die = die) && decide (y.dom = dom) && !y.held
      let rest := s.seq.drains.filter fun y => decide (y ≠ x)
      let entries := fun l : List Drain => l.map fun y => (y.die, y.dom, y.held, y.caller.origin)
      let cut := fun t : State => bitOf (t.reg (0x7110 + die) 2) (dom - 1) = true ∧
        ∀ l, l < 4 → (t.hlink port l).st = 0
      (s.seq.drains.filter here = [x] → 9 ≤ dom → dom ≤ 12 → s.portBusy port = false →
        ((∀ y ∈ rest, x.sameWrite y = true → y.held = true) → Does (.domainDrainEnd die dom) s fun t =>
          cut t ∧ entries t.seq.drains = entries (rest.filter fun y => !x.sameWrite y) ∧
          ∀ p l, x.caller.origin = .mailbox p l → x.caller.gone = false → t.out = [.dict p l stOk 4 4 []]) ∧
        ((∃ y ∈ rest, x.sameWrite y = true ∧ y.held = false) →
          (x.caller.arrivedBy port = true → Does (.domainDrainEnd die dom) s fun t =>
            t.seq.drains = s.seq.drains.map (fun y => if y = x then { y with held := true } else y) ∧
            Keeps s t [.seq]) ∧
          (x.caller.arrivedBy port = false → Does (.domainDrainEnd die dom) s fun t =>
            cut t ∧ entries t.seq.drains = entries rest ∧ t.out = []))) ∧
      (s.seq.drains.find? here = some x → Does (.domainDrainTimeout die dom) s fun t =>
        t.reg (0x7110 + die) 6 = min 0xFFFFFFFF (s.reg (0x7110 + die) 6 + 1) ∧
        t.seq.drains = s.seq.drains.filter (fun y => !x.sameWrite y) ∧
        (∀ p l, x.caller.origin = .mailbox p l →
          t.out = if x.caller.gone then [] else [.dict p l stBusy 0 0 []]) ∧
        RegsBut s t [(0x7110 + die, 6)] ∧ Keeps s t [.seq, .regs, .bus, .wire, .out])) ∧
    (MayUse s o (0x7110 + die) 4 true → mask < 2 ^ 30 → Does (.padRelease o die mask) s fun t =>
      SaysNow s t o stOk 4 ∧
      (∀ k, k < 30 → bitOf (t.padsOf die) k = (bitOf (s.padsOf die) k && !(bitOf mask k && s.domainOn die (k + 1)))) ∧
      t.dram.lines = s.dram.lines ∧ Keeps s t [.seq, .hosts, .dram, .bus, .out]) ∧
    (s.reg 0x7101 1 ≠ 0 → s.reg 0x7101 1 ≤ s.aon.deviceTime → s.timeValid = true → Does .wakeAlarm s fun t =>
      t.reg 0x7101 1 = 0 ∧ t.aon.wakeStored = s.aon.wakeStored ++
        (if s.seq.st = 14 ∧ bitOf (s.reg 0x7101 3) 0 = true then [2] else []) ∧
      RegsBut s t [(0x7101, 1)] ∧ Keeps s t [.aon, .regs]) ∧
    (Does (.wake mask) s fun t => t.aon = { s.aon with wakeStored := s.aon.wakeStored ++
        (if (mask = s.build.node ∨ mask = 0) ∧ s.seq.st = 14 ∧ bitOf (s.reg 0x7101 3) 1 = true then [3] else []) } ∧
      Keeps s t [.aon]) ∧
    (3 ≤ s.seq.st → s.seq.st ≤ 12 → Does (.corePllLock die) s fun t =>
      die ∈ t.seq.locked ∧ t.adcOf die = { s.adcOf die with running := true } ∧ Keeps s t [.seq, .hosts, .adc])

/-- 13 R306, R309 to R316; 20 R423.
It says that these commands answer a next state: adcTimerFire, learnPwmEdge, entryPending,
conversionComplete, injectedRequest, captureArm, dataRegisterRead, sliceCalibration, sliceSwap. -/
def Obligations.ConverterServesItsEntries : Prop :=
  ∀ (s : State) (o : Origin) (die e code w cycles : Nat) (l : List Int), s.aon.on = true → die < s.n →
    let a := s.adcOf die
    let A := ixAdc die
    let reached := fun (c : Instr) (d code : Nat) =>
      let a := s.adcOf d
      (Listens s d code e → code ≠ 3 → s.entryRuns d e = true →
        (a.pending.elem e = true ∨ a.delayed.elem e = true ∨ a.current = some e → Does c s fun t =>
          t.reg (ixAdc d + 5 + e) 0x0B = min 0xFFFFFFFF (s.reg (ixAdc d + 5 + e) 0x0B + 1) ∧
          RegsBut s t [(ixAdc d + 5 + e, 0x0B)] ∧ Keeps s t [.regs]) ∧
        (e ∉ a.pending → e ∉ a.delayed → a.current ≠ some e →
          (0 < s.entryReg d e 7 → Does c s fun t =>
            t.adcOf d = { a with delayed := a.delayed ++ [e] } ∧ Keeps s t [.adc]) ∧
          (s.entryReg d e 7 = 0 → a.current = none → a.pending = [] → Does c s fun t =>
            t.adcOf d = { a with current := some e } ∧ Keeps s t [.adc]) ∧
          (s.entryReg d e 7 = 0 → a.current ≠ none → Does c s fun t =>
            t.adcOf d = { a with pending := a.pending ++ [e] } ∧ Keeps s t [.adc])))
    (code < 4 → s.timerRuns die code = true → reached (.adcTimerFire die code) die code) ∧
    (code < 4 → s.timerRuns die code = false → Does (.adcTimerFire die code) s fun t => Keeps s t []) ∧
    (reached (.learnPwmEdge true) 0 4 ∧ reached (.learnPwmEdge false) 0 5) ∧
    (a.delayed.elem e = true → s.entryRuns die e = true → a.current = none → a.pending = [] →
      Does (.entryPending die e) s fun t =>
        t.adcOf die = { a with delayed := without e a.delayed, current := some e } ∧ Keeps s t [.adc]) ∧
    (a.current = some e → s.adcRuns die = true → a.pending = [] → a.swapDue = false →
      let stored := fun (t : State) (src ch : Nat) (r : Int × Bool) =>
        t.reg A 6 = dataWord (bitOf (s.reg A 6) 31) r.2 src ch r.1 ∧
        t.reg A 7 = (if bitOf (s.reg A 6) 31 then min 0xFFFFFFFF (s.reg A 7 + 1) else s.reg A 7) ∧
        t.adcOf die = { a with current := none } ∧ RegsBut s t [(A, 6), (A, 7)] ∧ Keeps s t [.adc, .regs]
      let ch := s.entryChannel die e
      let r := resultOf ch (s.entryGain die e ch) (s.keptSamples die e l);
      (l.length < (if e = 31 then 1 else s.burstLength die e) →
        Does (.conversionComplete die l cycles) s fun t => Keeps s t []) ∧
      ((if e = 31 then 1 else s.burstLength die e) ≤ l.length →
      (e = 31 → Does (.conversionComplete die l cycles) s fun t =>
        stored t 31 a.injCh (resultOf a.injCh a.injGain (l.take 1))) ∧
      (e < 16 → ¬ (die = 0 ∧ e ≤ 2) → s.entryReg die e 0x0A = 1 → Does (.conversionComplete die l cycles) s fun t =>
        stored t e ch r) ∧
      (e = 0 → die = 0 → s.entryReg 0 0 0x0A = 2 → Does (.conversionComplete 0 l cycles) s fun t =>
        t.bat.acc = s.bat.acc + r.1 * cycles ∧ t.bat.amps = s.packAmps r.1 ∧ t.bat.fcc = s.bat.fcc ∧
        t.adcOf 0 = { a with current := none } ∧ Keeps s t [.bat, .adc]) ∧
      (e < 16 → ¬ (die = 0 ∧ e ≤ 2) → s.entryReg die e 0x0A = 16 → Does (.conversionComplete die l cycles) s fun t =>
        t.bat.learnAmps = s.packAmps r.1 ∧ t.bat.acc = s.bat.acc ∧ t.bat.learn = s.bat.learn ∧
        t.adcOf die = { a with current := none } ∧ Keeps s t [.bat, .adc]) ∧
      (e < 16 → ¬ (die = 0 ∧ e ≤ 2) → s.entryReg die e 0x0A = 32 → -800 ≤ dieTemp20 r.1 → dieTemp20 r.1 ≤ 3000 →
        Does (.conversionComplete die l cycles) s fun t =>
          t.reg (0x1010 + die) 5 = raw32 (dieTemp20 r.1 / 2) ∧
          (s.throttled die = false → 2000 ≤ dieTemp20 r.1 → s.throttleDwelt die = true →
            t.reg (0x1010 + die) 6 = 1 ∧ t.reg (0x1010 + die) 7 = min 0xFFFFFFFF (s.reg (0x1010 + die) 7 + 1)) ∧
          (s.throttled die = false → dieTemp20 r.1 < 2000 → t.reg (0x1010 + die) 6 = 0) ∧
          RegsBut s t [(0x1010 + die, 5), (0x1010 + die, 6), (0x1010 + die, 7), (0x1010 + die, 8)] ∧
          Keeps s t [.adc, .regs]))) ∧
    (MayUse s o A 8 true → w < 2 ^ 32 →
      (s.adcRuns die = true → s.adcFrozen = false → a.current = none → Does (.injectedRequest o die w) s fun t =>
        t.adcOf die = { a with
          current := some 31, injCh := injChannel die w
          injGain := if injChannel die w = 29 then 1 else 2 ^ (w / 2 ^ 8 % 4) } ∧
        SaysNow s t o stOk 4 ∧ Keeps s t [.adc, .bus, .out]) ∧
      (a.current ≠ none → Does (.injectedRequest o die w) s fun t =>
        t.reg A 9 = min 0xFFFFFFFF (s.reg A 9 + 1) ∧ SaysNow s t o stOk 4 ∧ RegsBut s t [(A, 9)] ∧
        Keeps s t [.regs, .bus, .out])) ∧
    (MayUse s o A 0x0C true → w < 256 → Does (.captureArm o die w) s fun t =>
      t.adcOf die = { a with capture := 1 } ∧ SaysNow s t o stOk 1 ∧ Keeps s t [.adc, .bus, .out]) ∧
    (MayUse s o A 6 false → Does (.dataRegisterRead o die) s fun t =>
      t.reg A 6 = s.reg A 6 % 2 ^ 30 ∧ SaysRead s t o stOk 4 (leBytes 4 (s.reg A 6)) ∧ RegsBut s t [(A, 6)] ∧
      Keeps s t [.regs, .bus, .out]) ∧
    (s.entryRuns die 1 = true → a.stopped = false →
      (Does (.sliceCalibration die true) s fun t =>
        t.adcOf die = { a with calibrated := true } ∧ Keeps s t [.adc]) ∧
      (Does (.sliceCalibration die false) s fun t =>
        t.adcOf die = { a with stopped := true, calibrated := false, deferred := false, swapDue := false } ∧
        t.reg A 2 = setBitOf (s.reg A 2) a.spare true ∧ RegsBut s t [(A, 2)] ∧ Keeps s t [.adc, .regs]) ∧
      (a.calibrated = true →
        (a.current = none → Does (.sliceSwap die) s fun t => t.adcOf die = a.rotate ∧ Keeps s t [.adc]) ∧
        (a.current ≠ none → a.deferred = false → Does (.sliceSwap die) s fun t =>
          t.adcOf die = { a with deferred := true } ∧ t.reg A 5 = min 0xFFFFFFFF (s.reg A 5 + 1) ∧
          RegsBut s t [(A, 5)] ∧ Keeps s t [.adc, .regs]) ∧
        (a.current ≠ none → a.deferred = true → Does (.sliceSwap die) s fun t =>
          t.adcOf die = { a with swapDue := true } ∧ Keeps s t [.adc])))

/-- 15 R356.
It says that these commands answer a next state: odpClose, sread, swrite, flow, segmentFrame,
chunkProgressPoll, macFailure. -/
def Obligations.SessionCountersFollowTheirRule : Prop :=
  ∀ (s : State) (h : OdpHead) (sid ctr idx sub off : Nat) (mac : BitVec 64), HearsFrom s h.src → sid < 4 →
    let x := s.session sid
    let missed := fun (c : Instr) => Does c s fun t =>
      t.bus.tx = s.bus.tx ∧ t.bus.slotted = s.bus.slotted ∧
      t.reg 0x1100 7 = min 0xFFFFFFFF (s.reg 0x1100 7 + 1) ∧
      t.session sid = (if 8 ≤ x.fails + 1 then noSession else { x with fails := x.fails + 1 }) ∧
      (∀ k, k ≠ sid → t.session k = s.session k) ∧
      RegsBut s t [(0x1100, 4), (0x1100, 7)] ∧ Keeps s t [.bus, .regs]
    (TakesCtr s sid h.src (s.closeFrame h sid) mac ctr →
      ctr < lastCtr → x.txCtr + 1 < lastCtr → Does (.odpClose h sid mac) s fun t =>
        t.bus.tx = s.bus.tx ++ [respAt s 1 h 3 sid (leBytes 2 stOk)]) ∧
    (TakesCtr s sid h.src (s.pollFrame h sid) mac ctr →
      (ctr < lastCtr → x.txCtr + 1 < lastCtr → Does (.chunkProgressPoll h sid mac) s fun t =>
        t.session sid = { taken s sid ctr 1 with
          chunkBad := if s.sessionBusy sid = true then x.chunkBad else false } ∧
        ∃ b, t.bus.tx = s.bus.tx ++ [respAt s 1 h 7 sid b]) ∧
      (ctr = lastCtr ∨ x.txCtr + 1 = lastCtr → Does (.chunkProgressPoll h sid mac) s fun t =>
        t.session sid = noSession ∧ (∃ b, t.bus.tx = s.bus.tx ++ [respAt s 1 h 7 sid b]) ∧
        ∀ g ∈ t.bus.segments, g.sid ≠ sid)) ∧
    (x.isOpen = true → x.node = h.src →
      (NoCtr s sid (s.closeFrame h sid) mac → missed (.odpClose h sid mac)) ∧
      (NoCtr s sid (s.pollFrame h sid) mac → missed (.chunkProgressPoll h sid mac)) ∧
      (NoCtr s sid (s.sreadFrame h sid idx sub off) mac → missed (.sread h sid mac idx sub off)) ∧
      (NoCtr s sid (s.flowFrame h sid off) mac → missed (.flow h sid mac off)) ∧ missed (.macFailure h.src sid)) ∧
    (x.isOpen = false ∨ x.node ≠ h.src →
      let refused := fun (c : Instr) (svc : Nat) (payload : Bytes) => Does c s fun t =>
        t.bus.tx = s.bus.tx ++ [plainResp s h svc sid payload] ∧ (∀ k, t.session k = s.session k) ∧
        Keeps s t [.bus, .regs]
      refused (.odpClose h sid mac) 3 (leBytes 2 stSession) ∧
      refused (.flow h sid mac off) 6 (leBytes 2 stSession) ∧
      refused (.chunkProgressPoll h sid mac) 7 (s.pollBytes stSession) ∧
      refused (.sread h sid mac idx sub off) 4 (readRespBytes stSession 0 []) ∧
      refused (.swrite h sid mac idx sub off 0 [] false) 5 (writeRespBytes stSession 0) ∧
      refused (.segmentFrame h sid mac off true []) 5 (writeRespBytes stSession 0))

/-- 15 R352 to R359, Table 15.8; 18 R385 to R387.
It says that these commands answer a next state: odpRead, odpOpen, odpClose, sread, swrite, flow,
segmentFrame, segmentTimeout, chunk, chunkProgressPoll, chunkTokenRefill. -/
def Obligations.FieldBusServicesDoTheirWork : Prop :=
  ∀ (s : State) (h : OdpHead) (sid ctr idx sub off total num : Nat) (nr : BitVec 128) (mac : BitVec 64) (data : Bytes) (c : Cls)
      (r : ObjRow) (g : Segment) (x : Transfer), HearsFrom s h.src →
    let S := s.session
    let a := afterFrame s sid ctr
    let heard := fun (t : State) (l : List (Nat × Nat)) =>
      t.reg 0x1100 4 = heardCount s ∧ RegsBut s t ((0x1100, 4) :: l)
    let sends := fun (t : State) (b : Bus) (l : List TxFrame) =>
      BusIs s t sid (taken s sid ctr l.length) { b with tx := s.bus.tx ++ l }
    let v := fun (d : Bytes) => a.legal c sub (clampRaw r (leNat d))
    let plain := plainObject c sub = true ∧ slottedIndex idx sub = false ∧ r.sub = sub
    (∀ (kr : BitVec 256) (k : Nat), s.bus.rackKey = some kr → k < 4 →
      (S k).isOpen = false ∨ (S k).node = h.src →
      (∀ j, j < k → (S j).isOpen = true ∧ (S j).node ≠ h.src) → Does (.odpOpen h nr) s fun t =>
        (∃ nd, t.session k = { noSession with
            isOpen := true, node := h.src, openedAt := s.aon.deviceTime, lastAt := s.aon.now
            ks := sessionKey kr nr nd h.src s.build.node } ∧
          t.bus.slotted = s.bus.slotted ++ [TxFrame.sign (ownResp s h 2 k (openBytes stOk nd))
            (sessionKey kr nr nd h.src s.build.node) 0]) ∧
        (∀ j, j ≠ k → j < 4 → t.session j =
          (if (S j).isOpen = true ∧ (S j).node = h.src then noSession else S j)) ∧
        t.bus.tx = s.bus.tx ∧ heard t [] ∧ Keeps s t [.bus, .regs, .freeCount]) ∧
    (s.bus.rackKey = none ∨ (∀ j, j < 4 → (S j).isOpen = true ∧ (S j).node ≠ h.src) →
      Does (.odpOpen h nr) s fun t =>
        t.bus.slotted = s.bus.slotted ++ [ownResp s h 2 31 (openBytes stRefused 0)] ∧
        (∀ j, j < 4 → t.session j = S j) ∧ heard t [] ∧ Keeps s t [.bus, .regs]) ∧
    (InTurn s h sid (s.closeFrame h sid) mac ctr → Does (.odpClose h sid mac) s fun t =>
      BusIs s t sid noSession { s.bus with
        tx := s.bus.tx ++ [respAt s 1 h 3 sid (leBytes 2 stOk)]
        segments := s.bus.segments.filter fun e => decide (e.sid ≠ sid) } ∧ heard t [] ∧
      Keeps s t [.bus, .regs]) ∧
    (MayRead s.heard (.fieldBus h 31) c r idx mostBytes → r.sub = sub → Does (.odpRead h idx sub 0) s fun t =>
      t.bus.tx = s.bus.tx ++ [plainResp s h 1 31
        (readRespBytes stOk r.ty.size (leBytes r.ty.size (s.heard.valueOf .rack idx sub)))] ∧
      (∀ k, t.session k = S k) ∧ heard t [] ∧ Keeps s t [.bus, .regs]) ∧
    (s.sessionBusy sid = false →
      (InTurn s h sid (s.sreadFrame h sid idx sub 0) mac ctr → MayRead a (.fieldBus h sid) c r idx mostBytes →
        r.sub = sub → Does (.sread h sid mac idx sub 0) s fun t =>
        sends t s.bus [respAt s 1 h 4 sid
          (readRespBytes stOk r.ty.size (leBytes r.ty.size (a.valueOf .rack idx sub)))] ∧
        heard t [] ∧ Keeps s t [.bus, .regs]) ∧
      (InTurn s h sid (s.swriteFrame h sid idx sub 0 data.length data false) mac ctr →
        MayWrite a (.fieldBus h sid) c r idx 0 data → plain → a.barred c sub (v data) = false →
        Does (.swrite h sid mac idx sub 0 data.length data false) s fun t =>
          t.reg idx sub = v data ∧ sends t s.bus [respAt s 1 h 5 sid (writeRespBytes stOk r.ty.size)] ∧
          heard t [(idx, sub)] ∧ Keeps s t [.bus, .regs]) ∧
      (InTurn s h sid (s.swriteFrame h sid idx sub off total data true) mac ctr →
        data.length ≤ 40 → total ≤ 4084 → s.segmentsFull sid = false →
        Does (.swrite h sid mac idx sub off total data true) s fun t =>
          BusIs s t sid (taken s sid ctr 0) { s.bus with
            segments := s.bus.segments ++ [{ num := s.bus.nextSeg, sid := sid, head := h, rx := true, idx := idx
                                             sub := sub, off := off, total := total, data := data, next := 1
                                             paused := false, lastAt := s.aon.now }]
            nextSeg := s.bus.nextSeg + 1 } ∧
          heard t [] ∧ Keeps s t [.bus, .regs]) ∧
      (InTurn s h sid (s.swriteFrame h sid idx sub off total data false) mac ctr →
        data.length ≤ 40 → total ≠ data.length → slottedIndex idx sub = false →
        (∀ d, MayWrite a (.fieldBus h sid) c r idx 0 d → r.sub = sub →
          Does (.swrite h sid mac idx sub off total data false) s fun t =>
            sends t s.bus [respAt s 1 h 5 sid (writeRespBytes stLength 0)] ∧ heard t [] ∧ Keeps s t [.bus, .regs]) ∧
        (classify s.n idx = none → Does (.swrite h sid mac idx sub off total data false) s fun t =>
          sends t s.bus [respAt s 1 h 5 sid (writeRespBytes stNoObject 0)] ∧ heard t [] ∧
          Keeps s t [.bus, .regs]))) ∧
    (InTurn s h sid (s.swriteFrame h sid idx sub off total data false) mac ctr → s.sessionBusy sid = true → data.length ≤ 40 → slottedIndex idx sub = false →
      Does (.swrite h sid mac idx sub off total data false) s fun t =>
        sends t s.bus [respAt s 1 h 5 sid (writeRespBytes stBusy 0)] ∧ heard t [] ∧ Keeps s t [.bus, .regs]) ∧
    (s.bus.segments.find? (fun e => e.rx && decide (e.sid = sid)) = some g →
      let without := s.bus.segments.filter fun e => decide (e.num ≠ g.num)
      let flow := fun n : Nat => sentAt s 1 ((ownResp s g.head 6 sid (leBytes 2 stOk)).inSegment n false);
      let turn := fun (n : Nat) (last : Bool) => InTurn s h sid (s.segmentFrame h sid n last data) mac ctr;
      g.sid = sid → g.head.src = h.src → data.length ≤ 52 → slottedIndex g.idx g.sub = false →
      (turn g.next false → (g.next + 1) % 16 ≠ 0 → Does (.segmentFrame h sid mac g.next false data) s fun t =>
        sends t { s.bus with segments := s.bus.segments.map fun e =>
          if e.num = g.num then { g with data := g.data ++ data, next := g.next + 1, lastAt := s.aon.now } else e } [] ∧
        heard t [] ∧ Keeps s t [.bus, .regs]) ∧
      (∀ d, turn g.next true → MayWrite a (.fieldBus g.head sid) c r g.idx 0 d → r.sub = g.sub → (g.data ++ data).length ≠ g.total →
        Does (.segmentFrame h sid mac g.next true data) s fun t =>
        sends t { s.bus with segments := without }
          [flow g.next, respAt s 2 g.head 5 sid (writeRespBytes stLength 0)] ∧
        heard t [] ∧ Keeps s t [.bus, .regs]) ∧
      (turn g.next true → MayWrite a (.fieldBus g.head sid) c r idx 0 (g.data ++ data) → plain → g.idx = idx → g.sub = sub → g.off = 0 →
        g.total = (g.data ++ data).length → a.barred c sub (v (g.data ++ data)) = false →
        Does (.segmentFrame h sid mac g.next true data) s fun t =>
          t.reg idx sub = v (g.data ++ data) ∧ sends t { s.bus with segments := without }
            [flow g.next, respAt s 2 g.head 5 sid (writeRespBytes stOk r.ty.size)] ∧
          heard t [(idx, sub)] ∧ Keeps s t [.bus, .regs]) ∧
      (turn num false → num ≠ g.next → Does (.segmentFrame h sid mac num false data) s fun t =>
        sends t { s.bus with segments := without } [respAt s 1 g.head 5 sid (writeRespBytes stSequence 0)] ∧
        heard t [] ∧ Keeps s t [.bus, .regs])) ∧
    (s.bus.segments.find? (fun e => !e.rx && decide (e.sid = sid) && decide (e.head.src = h.src) &&
        decide (e.head.tag = h.tag)) = some g →
      let without := { s.bus with segments := s.bus.segments.filter fun e => decide (e.num ≠ g.num) };
      (InTurn s h sid (s.flowFrame h sid num) mac ctr → num + 1 = g.next → g.data = [] → Does (.flow h sid mac num) s fun t =>
        sends t without [] ∧ heard t [] ∧ Keeps s t [.bus, .regs]) ∧
      (InTurn s h sid (s.flowFrame h sid num) mac ctr → num + 1 = g.next → g.data ≠ [] → g.data.length ≤ 52 → Does (.flow h sid mac num) s fun t =>
        sends t { s.bus with segments := s.bus.segments.map fun e =>
            if e.num = g.num then { g with data := [], next := g.next + 1, paused := true, lastAt := s.aon.now } else e }
          [sentAt s 1 ((ownResp s g.head 4 sid g.data).inSegment g.next true)] ∧
        heard t [] ∧ Keeps s t [.bus, .regs]) ∧
      (4 ≤ sid → num + 1 = g.next → g.data = [] → Does (.flow h sid mac num) s fun t =>
        t.bus.segments = without.segments ∧ t.bus.tx = s.bus.tx ∧ heard t [] ∧ Keeps s t [.bus, .regs]) ∧
      (4 ≤ sid → num + 1 ≠ g.next → Does (.flow h sid mac num) s fun t =>
        t.bus.segments = without.segments ∧ t.reg 0x1100 9 = min 0xFFFFFFFF (s.reg 0x1100 9 + 1) ∧
        heard t [(0x1100, 9)] ∧ Keeps s t [.bus, .regs])) ∧
    (s.bus.segments.find? (fun e => decide (e.num = num)) = some g → s.segmentLate g = true → Does (.segmentTimeout num) s fun t =>
      t.bus.segments = s.bus.segments.filter (fun e => decide (e.num ≠ num)) ∧
      (g.rx = false → t.reg 0x1100 9 = min 0xFFFFFFFF (s.reg 0x1100 9 + 1) ∧ t.bus.tx = s.bus.tx) ∧
      (g.rx = true → slottedIndex g.idx g.sub = false → (S g.sid).isOpen = true → (S g.sid).node = g.head.src →
        g.sid < 4 → (S g.sid).txCtr + 1 < lastCtr →
        t.bus.tx = s.bus.tx ++ [respAt s 1 g.head 5 g.sid (writeRespBytes stSequence 0)]) ∧
      RegsBut s t [(0x1100, 9)] ∧ Keeps s t [.bus, .regs]) ∧
    (InTurn s h sid (s.chunkFrame h sid num data) mac ctr → s.busTransfer = some x → num < x.count →
      data.length = min 48 (x.len - 48 * num) →
      (s.bus.tokens = 0 → Does (.chunk h sid mac num data) s fun t =>
        t.reg 0x1301 6 = min 0xFFFFFFFF (s.reg 0x1301 6 + 1) ∧ sends t s.bus [] ∧ heard t [(0x1301, 6)] ∧
        Keeps s t [.bus, .regs]) ∧
      (0 < s.bus.tokens → x.fits (48 * num) data.length = true → Does (.chunk h sid mac num data) s fun t =>
        (∃ y, t.fw.transfer = some y ∧ ∀ k, k ∈ y.chunks ↔ k = num ∨ k ∈ x.chunks) ∧
        sends t { s.bus with tokens := s.bus.tokens - 1 } [] ∧ heard t [] ∧ Keeps s t [.bus, .regs, .fw])) ∧
    (InTurn s h sid (s.chunkFrame h sid num data) mac ctr → s.busTransfer = none → Does (.chunk h sid mac num data) s fun t =>
      BusIs s t sid { taken s sid ctr 0 with chunkBad := true } s.bus ∧
      t.reg 0x1100 6 = min 0xFFFFFFFF (s.reg 0x1100 6 + 1) ∧ heard t [(0x1100, 6)] ∧ Keeps s t [.bus, .regs]) ∧
    (InTurn s h sid (s.pollFrame h sid) mac ctr → s.sessionBusy sid = false → Does (.chunkProgressPoll h sid mac) s fun t =>
      BusIs s t sid { taken s sid ctr 1 with chunkBad := false } { s.bus with
        tx := s.bus.tx ++ [respAt s 1 h 7 sid (s.pollBytes (if (S sid).chunkBad then stState else stOk))] } ∧
      heard t [] ∧ Keeps s t [.bus, .regs]) ∧
    Does .chunkTokenRefill s fun t =>
      t.bus = { s.bus with tokens := min 16 (s.bus.tokens + 1) } ∧ Keeps s t [.bus]

/-- 15 R349, R350, R356 to R358, R360.
It says that these commands answer a next state: sync, follow, macFailure, sessionIdleTimeout, responseSlot,
txFrameTimeout, busOff, busOffRecovery, busError, frameIgnored. -/
def Obligations.BusConfinementAndTimeSync : Prop :=
  ∀ (s : State) (tx own : Bool) (amount num rack sid : Nat) (e : Nat × Nat × Nat) (h : OdpHead) (mac : BitVec 64), s.aon.on = true →
    (s.busLive = true →
      let k := if tx then 3 else 4
      (Does (.busError tx amount) s fun t =>
        t.reg 0x1100 k = min 255 (s.reg 0x1100 k + amount) ∧
        t.bus = { s.bus with st := if 127 < t.reg 0x1100 3 ∨ 127 < t.reg 0x1100 4 then 2 else 1 } ∧
        RegsBut s t [(0x1100, k)] ∧ Keeps s t [.bus, .regs]) ∧
      (Does .busOff s fun t =>
        t.bus = { s.bus with st := 3 } ∧ t.reg 0x1100 5 = min 0xFFFFFFFF (s.reg 0x1100 5 + 1) ∧
        RegsBut s t [(0x1100, 5)] ∧ Keeps s t [.bus, .regs]) ∧
      (Does (.frameIgnored own) s fun t =>
        let j := if own then 8 else 6
        t.reg 0x1100 j = min 0xFFFFFFFF (s.reg 0x1100 j + 1) ∧ t.reg 0x1100 4 = heardCount s ∧
        RegsBut s t [(0x1100, j), (0x1100, 4)] ∧ Keeps s t [.bus, .regs] ∧ t.bus.tx = s.bus.tx) ∧
      (s.mgmt.ready = true → h.src ≠ s.build.node →
        (Does (.sync num) s fun t =>
          t.bus.syncs.head? = some (num, s.aon.deviceTime, s.aon.now) ∧
          (∀ x ∈ t.bus.syncs.tail, x ∈ s.bus.syncs ∧ x.1 ≠ num ∧ s.aon.now - x.2.2 ≤ 2000000000) ∧
          t.reg 0x1100 4 = heardCount s ∧ RegsBut s t [(0x1100, 4)] ∧ Keeps s t [.bus, .regs]) ∧
        (s.bus.syncs.find? (fun x => decide (s.aon.now - x.2.2 ≤ 2000000000) && decide (x.1 = num)) = some e →
          s.followVerifies h ⟨num, rack⟩ mac = true → s.reg 0x1102 1 < rack → Does (.follow h ⟨num, rack⟩ mac) s fun t =>
            let o := (rack : Int) - e.2.1
            t.reg 0x1102 1 = rack ∧ t.reg 0x1102 2 = raw32 o ∧
            t.reg 0x1102 3 = min 0xFFFFFFFF (s.reg 0x1102 3 + 1) ∧ t.reg 0x7300 6 = 1 ∧
            (-1000 < o → o < 1000 →
              t.aon = { s.aon with slewLeft := o, rackSyncAt := some s.aon.now }) ∧
            (o ≤ -1000 ∨ 1000 ≤ o → t.aon = { s.aon with
              deviceTime := time48 ((s.aon.deviceTime : Int) + o).toNat, slewLeft := 0
              rackSyncAt := some s.aon.now }) ∧
            RegsBut s t [(0x1102, 1), (0x1102, 2), (0x1102, 3), (0x7300, 6), (0x1100, 4)] ∧
            Keeps s t [.aon, .bus, .regs]) ∧
        (s.followVerifies h ⟨num, rack⟩ mac = false → Does (.follow h ⟨num, rack⟩ mac) s fun t =>
          t.reg 0x1102 4 = min 0xFFFFFFFF (s.reg 0x1102 4 + 1) ∧ RegsBut s t [(0x1102, 4), (0x1100, 4)] ∧
          Keeps s t [.bus, .regs]))) ∧
    (s.bus.st = 3 → Does .busOffRecovery s fun t =>
      t.bus = { s.bus with st := 1 } ∧ t.reg 0x1100 3 = 0 ∧ t.reg 0x1100 4 = 0 ∧
      RegsBut s t [(0x1100, 3), (0x1100, 4)] ∧ Keeps s t [.bus, .regs]) ∧
    (∀ f ∈ s.bus.tx.head?, 1000000000 ≤ s.aon.now - f.queuedAt → Does .txFrameTimeout s fun t =>
      t.bus = { s.bus with tx := s.bus.tx.tail } ∧ t.reg 0x1100 9 = min 0xFFFFFFFF (s.reg 0x1100 9 + 1) ∧
      RegsBut s t [(0x1100, 9)] ∧ Keeps s t [.bus, .regs]) ∧
    (s.mgmt.ready = true → 1 ≤ s.bus.st → Does .responseSlot s fun t =>
      t.bus.slotted = [] ∧ t.bus.tx.map (·.payload) = (s.bus.tx ++ s.bus.slotted).map (·.payload) ∧
      Keeps s t [.bus]) ∧
    (s.sessionIdle sid = true → Does (.sessionIdleTimeout sid) s fun t =>
      t.session sid = noSession ∧ (∀ k, k ≠ sid → t.session k = s.session k) ∧
      t.bus.segments = s.bus.segments.filter (fun g => decide (g.sid ≠ sid)) ∧ t.bus.tx = s.bus.tx ∧
      Keeps s t [.bus]) ∧
    (HearsFrom s amount → (s.session sid).isOpen = true → (s.session sid).node = amount → sid < 4 →
      (s.session sid).fails < 7 → Does (.macFailure amount sid) s fun t =>
        t.session sid = { s.session sid with fails := (s.session sid).fails + 1 } ∧
        t.reg 0x1100 7 = min 0xFFFFFFFF (s.reg 0x1100 7 + 1) ∧ RegsBut s t [(0x1100, 4), (0x1100, 7)] ∧
        Keeps s t [.bus, .regs])

/-- 17 R371 to R379, Table 17.1.
It says that these commands answer a next state: twoWireWrite, twoWireRead, twoWireReadCommand,
twoWireWriteCommand, attnClear, sclStuckTimeout, hostNotifyRetry, hostNotifyAttemptEnd. -/
def Obligations.TwoWirePortDoesItsOperations : Prop :=
  ∀ (s : State) (p : Byte) (data : Bytes) (fin : WireEnd) (count sev die idx sub len : Nat) (c : Cls) (r : ObjRow)
      (res : NotifyEnd), s.aon.on = true →
    let run := fun (t : State) (size : Nat) =>
      t.wireBytes 8 2 = leBytes 2 stOk ∧ t.wireByte 0x0A = 2 ∧ t.wireBytes 0x0B 4 = leBytes 4 size ∧
      t.wire.busy = none ∧ t.wire.armed = none ∧ t.wire.ptr = s.wire.ptr
    let named := leNat (s.wireBytes 0 2) = idx ∧ leNat (s.wireBytes 2 1) = sub ∧ leNat (s.wireBytes 4 3) = 0 ∧
      len = min 240 (leNat (s.wireBytes 3 1)) ∧ r.sub = sub
    (s.wireAcks = false →
      (Does (.twoWireWrite (p :: data) fin) s fun t => t.out = [.wireNak] ∧ Keeps s t [.out]) ∧
      (Does (.twoWireRead count fin) s fun t => t.out = [.wireNak] ∧ Keeps s t [.out]) ∧
      (Does .attnClear s fun t => t.out = [.wireNak] ∧ Keeps s t [.out]) ∧
      Does .sclStuckTimeout s fun t => Keeps s t []) ∧
    (s.wireAcks = true → s.wire.armed = none →
      (s.wire.busy = none → p.toNat + data.length ≤ 256 → Does (.twoWireWrite (p :: data) fin) s fun t =>
        t.wire.ptr = (p.toNat + data.length) % 256 ∧
        (∀ a, a < p.toNat ∨ p.toNat + data.length ≤ a ∨ (8 ≤ a ∧ a ≤ 14) → t.wireByte a = s.wireByte a) ∧
        (∀ i (h : i < data.length), ¬ (8 ≤ p.toNat + i ∧ p.toNat + i ≤ 15) → t.wireByte (p.toNat + i) = data[i]) ∧
        (∀ i (h : i < data.length), p.toNat + i = 15 →
          t.wireByte 15 = (if data[i].toNat % 2 = 1 then 0 else s.wireByte 15)) ∧
        t.wire.armed = (if fin ≠ .neither ∧ p.toNat ≤ 7 ∧ data[7 - p.toNat]? = some 1 then some { isWrite := false }
          else if fin ≠ .neither ∧ p.toNat ≤ 7 ∧ data[7 - p.toNat]? = some 2 then some { isWrite := true }
          else none) ∧
        Keeps s t [.wire]) ∧
      (∀ v : Byte, s.wire.busy.isSome = true → p ≠ 15 → Does (.twoWireWrite [p, v] fin) s fun t =>
        t.wire = { s.wire with ptr := (p.toNat + 1) % 256 } ∧
        t.reg 0x7400 9 = min 0xFFFFFFFF (s.reg 0x7400 9 + 1) ∧ RegsBut s t [(0x7400, 9)] ∧
        Keeps s t [.wire, .regs]) ∧
      (0 < count → Does (.twoWireRead count fin) s fun t =>
        t.out = [.wireData ((List.range count).map fun i =>
          let a := (s.wire.ptr + i) % 256
          if a < 16 then s.wireByte a else if s.wire.busy.isSome then 0 else s.wireByte a)] ∧
        t.wire = { s.wire with ptr := (s.wire.ptr + count) % 256, snapshot := s.wireBytes 0 16 } ∧
        Keeps s t [.wire, .out]) ∧
      Does .attnClear s fun t =>
        t.wireByte 15 = 0 ∧ (∀ a, a ≠ 15 → t.wireByte a = s.wireByte a) ∧ t.wire.ptr = 16 ∧ Keeps s t [.wire]) ∧
    (s.wireAcks = true → Does .sclStuckTimeout s fun t =>
      t.reg 0x7400 8 = min 0xFFFFFFFF (s.reg 0x7400 8 + 1) ∧ RegsBut s t [(0x7400, 8)] ∧ Keeps s t [.regs]) ∧
    (s.wire.armed = some { isWrite := false } → named → MayRead s .twoWire c r idx len →
      Does .twoWireReadCommand s fun t =>
        run t r.ty.size ∧ (t.wireByte 3).toNat = r.ty.size ∧
        t.wireBytes 0x10 240 = leBytes r.ty.size (s.valueOf .board idx sub) ++ List.replicate (240 - r.ty.size) 0 ∧
        Keeps s t [.wire]) ∧
    (s.wire.armed = some { isWrite := true } → named → MayWrite s .twoWire c r idx 0 (s.wireBytes 0x10 len) →
      plainObject c sub = true →
      let v := s.legal c sub (clampRaw r (leNat (s.wireBytes 0x10 len)));
      s.barred c sub v = false → Does .twoWireWriteCommand s fun t =>
        run t r.ty.size ∧ t.reg idx sub = v ∧ RegsBut s t [(idx, sub)] ∧ Keeps s t [.wire, .regs]) ∧
    (s.wire.notify = some (sev, die) → s.wire.attempting = false → s.sidebandOn = true →
      (s.wire.lastEnd = 0 → s.spaced s.wire.notifyAt = true → Does .hostNotifyRetry s fun t =>
        t.out = [.hostNotify (0x58 + s.build.addr) (sev * 256 + die)] ∧
        t.wire = { s.wire with attempting := true, notifyAt := some s.aon.now } ∧ Keeps s t [.wire, .out]) ∧
      (s.wire.lastEnd ≠ 0 → s.retryDue = true → s.wire.retries < 8 → Does .hostNotifyRetry s fun t =>
        t.out = [.hostNotify (0x58 + s.build.addr) (sev * 256 + die)] ∧
        t.wire = { s.wire with attempting := true, retries := s.wire.retries + 1 } ∧ Keeps s t [.wire, .out])) ∧
    (s.wire.notify = some (sev, die) → s.wire.attempting = true →
      let ended := { s.wire with attempting := false };
      (Does (.hostNotifyAttemptEnd .success) s fun t =>
        t.wire = { ended with notify := none, retries := 0 } ∧ Keeps s t [.wire]) ∧
      (res ≠ .success → s.wire.retries < 8 → Does (.hostNotifyAttemptEnd res) s fun t =>
        t.wire = { ended with lastEnd := notifyCode res, failedAt := s.aon.now } ∧
        t.reg 0x7400 0x0A = min 0xFFFFFFFF (s.reg 0x7400 0x0A + 1) ∧ RegsBut s t [(0x7400, 0x0A)] ∧
        Keeps s t [.wire, .regs]) ∧
      (res ≠ .success → 8 ≤ s.wire.retries → Does (.hostNotifyAttemptEnd res) s fun t =>
        t.wire = { ended with lastEnd := notifyCode res, failedAt := s.aon.now, notify := none, retries := 0 } ∧
        t.reg 0x7400 0x0A = min 0xFFFFFFFF (s.reg 0x7400 0x0A + 1) ∧
        t.reg 0x7400 0x0B = min 0xFFFFFFFF (s.reg 0x7400 0x0B + 1) ∧ t.reg 0x7400 0x0C = notifyCode res ∧
        (1 ≤ s.bus.st → s.domainOn 0 7 = true → s.spaced s.bus.attn1 = true →
          ∃ f, t.bus.tx = s.bus.tx ++ [f] ∧ f.svc = 0xB ∧ f.payload.take 2 = leBytes 1 1 ++ leBytes 1 die) ∧
        RegsBut s t [(0x7400, 0x0A), (0x7400, 0x0B), (0x7400, 0x0C)] ∧ Keeps s t [.wire, .regs, .bus]))

/-- 15 R342.
It says that these commands answer a next state: objectWrite. -/
def Obligations.WritesOutsideTheRangeTakeTheNearestValue : Prop :=
  ∀ (s : State) (o : Origin) (c : Cls) (r : ObjRow) (idx : Nat) (data : Bytes), MayWrite s o c r idx 0 data →
    plainObject c r.sub = true ∨ (∃ d k, c = .timer d k) →
    let value := fun n : Nat => match r.ty with
      | .i32 | .q16 => signed32 n
      | _ => (n : Int)
    let v := s.legal c r.sub (clampRaw r (leNat data));
    s.barred c r.sub v = false → Does (.objectWrite o idx r.sub 0 data) s fun t =>
      t.reg idx r.sub = v ∧ SaysNow s t o stOk r.ty.size ∧ (∀ rm, t.valueOf rm idx r.sub = v) ∧
      ((∀ n, s.legal c r.sub n = n) → r.lo ≤ value v ∧ value v ≤ r.hi ∧
        ∀ x : Int, r.lo ≤ x → x ≤ r.hi → (value v - value (leNat data)).natAbs ≤ (x - value (leNat data)).natAbs) ∧
      ((c = .shadow0 ∧ r.sub = 2) ∨ (c = .bat3 ∧ r.sub = 4) →
        v % 16384 = 0 ∧ v ≤ clampRaw r (leNat data) ∧ clampRaw r (leNat data) < v + 16384) ∧
      (∀ d e, c = .entry d e → r.sub = 3 → v ∈ [1, 2, 4, 8] ∧
        ∀ x ∈ [1, 2, 4, 8], x ≤ clampRaw r (leNat data) → x ≤ v) ∧
      (∀ d k, c = .timer d k → r.sub ≤ 2 → t.adc = ((s.setReg idx r.sub v).armTimer d k).adc) ∧
      ((∀ d k, c = .timer d k → 2 < r.sub) → t.adc = s.adc) ∧
      RegsBut s t [(idx, r.sub)] ∧ Keeps s t [.regs, .adc, .bus, .out]

/-- 15 R341, R346, R357, R364; 02 R51; 04 R96, R111.
It says that these commands answer a next state: refreshModeWrite, idleDeepPermitWrite, objectWrite,
rackKeyWrite. -/
def Obligations.DictionaryWritesAreChecked : Prop :=
  ∀ (s : State) (o : Origin) (c : Cls) (r : ObjRow) (idx sub off ch die q value : Nat) (data : Bytes),
    s.aon.on = true → s.reaches o = true →
    let fails := fun (t : State) (status : Nat) =>
      SaysNow s t o status 0 ∧ RegsBut s t [] ∧ Keeps s t [.bus, .out]
    let violates := fun (t : State) (status : Nat) =>
      SaysNow s t o status 0 ∧ t.reg 0x1130 1 = min 0xFFFFFFFF (s.reg 0x1130 1 + 1) ∧ t.reg 0x1130 2 = idx ∧
      t.reg 0x1130 3 = sub ∧ t.reg 0x1130 4 = (s.realm o).code ∧ t.reg 0x1130 5 = sourceAddress o ∧
      RegsBut s t [(0x1130, 1), (0x1130, 2), (0x1130, 3), (0x1130, 4), (0x1130, 5)] ∧ Keeps s t [.regs, .bus, .out]
    let stores := fun (t : State) (i j v : Nat) =>
      t.reg i j = v ∧ SaysNow s t o stOk 1 ∧ RegsBut s t [(i, j)] ∧ Keeps s t [.regs, .bus, .out];
    (slottedIndex idx sub = false →
      (classify s.n idx = none → Does (.objectWrite o idx sub off data) s fun t => fails t stNoObject) ∧
      (classify s.n idx = some c → sub = 0 → Does (.objectWrite o idx sub off data) s fun t =>
        violates t stAccess) ∧
      (classify s.n idx = some c → sub ≠ 0 → findRow sub (c.rows s.n) = none →
        Does (.objectWrite o idx sub off data) s fun t => fails t stNoSubindex) ∧
      (classify s.n idx = some c → sub ≠ 0 → findRow sub (c.rows s.n) = some r →
        ((s.rightOf o c r idx).writes = false → Does (.objectWrite o idx sub off data) s fun t =>
          violates t stAccess) ∧
        ((s.rightOf o c r idx).writes = true → s.inSession o = false →
          Does (.objectWrite o idx sub off data) s fun t => violates t stSession) ∧
        ((s.rightOf o c r idx).writes = true → s.inSession o = true → 0 < r.ty.size →
          off ≠ 0 ∨ data.length ≠ r.ty.size → Does (.objectWrite o idx sub off data) s fun t => fails t stLength))) ∧
    (MayWrite s o c r idx 0 data → plainObject c r.sub = true → slottedIndex idx r.sub = false →
      s.barred c r.sub (s.legal c r.sub (clampRaw r (leNat data))) = true →
      Does (.objectWrite o idx r.sub 0 data) s fun t => fails t stState) ∧
    (∀ g, c = .classPort g → r.sub = 1 ∨ r.sub = 2 → MayWrite s o c r idx 0 data → slottedIndex idx r.sub = false →
      s.barred c r.sub (s.legal c r.sub (clampRaw r (leNat data))) = false →
      Does (.objectWrite o idx r.sub 0 data) s fun t =>
        t.reg idx r.sub = s.legal c r.sub (clampRaw r (leNat data)) ∧ SaysNow s t o stOk r.ty.size ∧
        (s.reg idx r.sub ≠ t.reg idx r.sub → s.seq.st ≠ 14 → (s.recorder 0).queue.length < 32 →
          ∃ e ∈ (t.recorder 0).queue, e.cause = some cCdat) ∧
        RegsBut s t [(idx, r.sub)] ∧ Keeps s t [.regs, .bus, .out]) ∧
    (ch < 8 * s.n → value < 256 → MayUse s o (ixChan ch) 5 true →
      (value = 0 ∨ s.class0Uses [ch] = false → Does (.refreshModeWrite o ch value) s fun t =>
        stores t (ixChan ch) 5 (min 1 value)) ∧
      (0 < value → s.class0Uses [ch] = true → Does (.refreshModeWrite o ch value) s fun t => fails t stState)) ∧
    (die < s.n → q < 4 → value < 256 → MayUse s o (ixQuad die q) 2 true →
      (value = 0 ∨ s.class0Uses (chansOf die q) = false → Does (.idleDeepPermitWrite o die q value) s fun t =>
        stores t (ixQuad die q) 2 (min 1 value)) ∧
      (0 < value → s.class0Uses (chansOf die q) = true → Does (.idleDeepPermitWrite o die q value) s fun t =>
        fails t stState)) ∧
    (MayUse s o 0x1110 1 true →
      (data.length = 32 → Does (.rackKeyWrite o data) s fun t =>
        t.bus = { s.bus with
          rackKey := some (BitVec.ofNat 256 (leNat data)), sessions := []
          segments := s.bus.segments.filter fun g => decide (4 ≤ g.sid) } ∧
        t.reg 0x1110 2 = min 0xFFFFFFFF (s.reg 0x1110 2 + 1) ∧
        (∀ p l, o = .mailbox p l → t.out = [.dict p l stOk 32 32 []]) ∧
        (o = .twoWire → t.out = [.objData .twoWire stOk 32 32 []]) ∧
        RegsBut s t [(0x1110, 2)] ∧ Keeps s t [.bus, .regs, .out]) ∧
      (data.length ≠ 32 → Does (.rackKeyWrite o data) s fun t => fails t stLength))

/-- 18 R384 to R393, R400, Tables 18.1, 18.8.
It says that these commands answer a next state: transferFwInitiate, transferFwContinue, transferFwEnd,
activateFwOnline, activateFwOffline, transferDescriptorWrite, transferAbort, imageWrite, activationArm,
activationAlarm, signedReportRead, pageReadBack. -/
def Obligations.FirmwareTransfersAndActivations : Prop :=
  ∀ (s : State) (o : Origin) (port link off slot time len k : Nat) (data : Bytes) (x : Transfer), s.aon.on = true →
    let target := s.targetSlot
    let told := fun (t : State) (rc : Nat) => t.out = [.mbox port link rc []]
    let opened := fun (t : State) (P : Transfer → Prop) =>
      t.slotSt target = 1 ∧ t.slotSt (1 - target) = s.slotSt (1 - target) ∧
      t.slotMem (1 - target) = s.slotMem (1 - target) ∧ ∃ y, t.fw.transfer = some y ∧ y.slot = target ∧ P y
    let goesOn := fun (t : State) (P : Transfer → Prop) => ∃ y, t.fw.transfer = some y ∧ y.slot = x.slot ∧ P y
    (MailboxOpen s port link → s.realm (.mailbox port link) = .hostOwner → data.length ≤ 4096 →
      (s.receiving.isSome = true → Completes (.transferFwInitiate port link data) s port link rcTransfer []) ∧
      (s.receiving = none → s.openBarred (mib 16) = true →
        Completes (.transferFwInitiate port link data) s port link rcRetry []) ∧
      (s.openBarred (mib 16) = false → Does (.transferFwInitiate port link data) s fun t =>
        told t rcSuccess ∧ Keeps s t [.fw, .out] ∧ opened t fun y =>
          y.byDesc = false ∧ y.len = mib 16 ∧ ∀ i, i < data.length → y.has i = true) ∧
      (s.mailTransfer = none → Completes (.transferFwContinue port link off data) s port link rcOrder [] ∧
        Completes (.transferFwEnd port link slot off data) s port link rcOrder []) ∧
      (s.mailTransfer = some x → 128 * off + data.length ≤ x.len →
        (x.fits (128 * off) data.length = true → Does (.transferFwContinue port link off data) s fun t =>
          told t rcSuccess ∧ Keeps s t [.fw, .out] ∧ goesOn t fun y =>
            (∀ i, i < data.length → y.has (128 * off + i) = true) ∧ ∀ a, x.has a = true → y.has a = true) ∧
        (x.fits (128 * off) data.length = false →
          Completes (.transferFwContinue port link off data) s port link rcBusy []) ∧
        (slot ≠ x.slot + 1 → Completes (.transferFwEnd port link slot off data) s port link rcSlot []) ∧
        (0 < 128 * off + data.length → x.fits (128 * off) data.length = true →
          Does (.transferFwEnd port link (x.slot + 1) off data) s fun t =>
            told t rcSuccess ∧ Keeps s t [.fw, .out] ∧ goesOn t fun y =>
              y.ended = true ∧ y.len = 128 * off + data.length ∧
              ∀ i, i < data.length → y.has (128 * off + i) = true)) ∧
      (slot = 0 ∨ 2 < slot ∨ s.slotSt (slot - 1) ≠ 2 →
        Completes (.activateFwOnline port link slot) s port link rcSlot [] ∧
        Completes (.activateFwOffline port link slot) s port link rcSlot []) ∧
      (slot = 1 ∨ slot = 2 → s.slotSt (slot - 1) = 2 →
        (s.timeValid = true → Does (.activateFwOnline port link slot) s fun t =>
          told t rcSuccess ∧ t.reg 0x1302 1 = s.aon.deviceTime + 1000000 ∧ t.reg 0x1302 2 = 0 ∧
          RegsBut s t [(0x1302, 1), (0x1302, 2)] ∧ Keeps s t [.regs, .out]) ∧
        (s.slotSt (2 - slot) ≠ 2 → Does (.activateFwOffline port link slot) s fun t =>
          told t rcSuccess ∧ t.slotSt (slot - 1) = 3 ∧ t.slotSt (2 - slot) = s.slotSt (2 - slot) ∧
          t.reg 0x1302 5 = s.aon.deviceTime ∧ RegsBut s t [(0x1302, 5)] ∧ Keeps s t [.fw, .regs, .out]))) ∧
    (s.receiving = some x → x.programming = true → s.slotErased = false →
      Does (.pageReadBack []) s fun t => Keeps s t []) ∧
    (s.receiving = some x → x.programming = true → s.slotErased = true → s.slotFits x.slot = true →
      (Does (.pageReadBack []) s fun t => Keeps s t [.fw, .shadow] ∧
        (∀ ch ∈ [0, 8], ∀ a, s.bootAddr ch x.slot x.nextPage = some a →
          (t.page 0 a).body = .boot x.slot x.nextPage ∧ t.pageReads 0 a = true) ∧ goesOn t fun y =>
        y.nextPage = x.nextPage + 1 ∧ (y.complete = false → t.slotSt x.slot = 1) ∧
        (y.complete = true → t.slotSt x.slot = 2 ∨ t.slotSt x.slot = 5) ∧
        ∀ b ∈ x.bufs.find? (fun b => decide (b.page = x.nextPage)), risingFrom none b.arrived = true →
          ∀ e ∈ b.arrived, (t.slotMem x.slot).byte (16384 * x.nextPage + e.1) = e.2) ∧
      ∀ failed ∈ [[0], [8], [0, 8]], Does (.pageReadBack failed) s fun t => Keeps s t [.fw, .shadow] ∧ goesOn t fun y =>
        y.bufs = [] ∧ y.nextPage = x.nextPage / max 1 s.bootPages * max 1 s.bootPages ∧
        y.chunks = x.chunks.filter fun j => decide (48 * (j + 1) ≤ 16384 * y.nextPage)) ∧
    (MayUse s o 0x1301 1 true →
      (data.length = 64 → s.openBarred (leAt data 0 4) = false → Does (.transferDescriptorWrite o data) s fun t =>
        SaysNow s t o stOk 64 ∧ Keeps s t [.fw, .bus, .out] ∧ opened t fun y =>
          y.byDesc = true ∧ y.len = leAt data 0 4 ∧ y.id = leAt data 4 4 ∧ y.hash = sliceOf data 8 48 ∧
          y.chunks = [] ∧ y.nextPage = 0) ∧
      (data.length = 64 → s.openBarred (leAt data 0 4) = true → Does (.transferDescriptorWrite o data) s fun t =>
        SaysNow s t o stState 0 ∧ Keeps s t [.bus, .out])) ∧
    (MayUse s o 0x1301 7 true → s.receiving = some x → Does (.transferAbort o) s fun t =>
      t.slotSt x.slot = 5 ∧ SaysNow s t o stOk 1 ∧ Keeps s t [.fw, .bus, .out]) ∧
    (MayUse s o 0x1301 8 true →
      (s.receiving = none → Does (.imageWrite o off data) s fun t =>
        SaysNow s t o stState 0 ∧ Keeps s t [.bus, .out]) ∧
      (s.receiving = some x → x.byDesc = true → data.length = 48 → 48 * k + 48 ≤ x.len → x.fits (48 * k) 48 = true →
        Does (.imageWrite o (48 * k) data) s fun t =>
          SaysNow s t o stOk 48 ∧ Keeps s t [.fw, .bus, .out] ∧ goesOn t fun y =>
            ∀ j, j ∈ y.chunks ↔ j = k ∨ j ∈ x.chunks)) ∧
    (MayUse s o 0x1302 1 true → time < 2 ^ 48 →
      (time = 0 ∨ (s.slotIn 2 ≠ none ∧ s.timeValid = true ∧ s.aon.deviceTime + 1000000 ≤ time) →
        Does (.activationArm o time) s fun t =>
          t.reg 0x1302 1 = time ∧ SaysNow s t o stOk 6 ∧ RegsBut s t [(0x1302, 1)] ∧
          Keeps s t [.regs, .bus, .out]) ∧
      (time ≠ 0 → s.slotIn 2 = none ∨ s.timeValid = false ∨ time < s.aon.deviceTime + 1000000 →
        Does (.activationArm o time) s fun t => SaysNow s t o stState 0 ∧ Keeps s t [.bus, .out])) ∧
    (s.reg 0x1302 1 ≠ 0 → s.timeValid = true → s.reg 0x1302 1 ≤ s.aon.deviceTime →
      (s.seq.st = 12 → s.freeze.active = false → s.mgmt.heldInReset = false → s.dieOut 0 = false → s.slotIn 2 ≠ none →
        Does .activationAlarm s fun t =>
          t.reg 0x1302 1 = 0 ∧ t.reg 0x1302 5 = s.aon.deviceTime ∧ t.reg 0x7300 3 = 1 ∧
          t.reg 0x7300 4 = min 0xFFFFFFFF (s.reg 0x7300 4 + 1) ∧ t.mgmt.ready = false) ∧
      (s.seq.st ≠ 12 → Does .activationAlarm s fun t =>
        t.reg 0x1302 1 = 0 ∧ t.reg 0x1302 4 = min 0xFFFFFFFF (s.reg 0x1302 4 + 1) ∧ t.reg 0x1302 3 = 3 ∧
        RegsBut s t [(0x1302, 1), (0x1302, 3), (0x1302, 4)] ∧ Keeps s t [.regs])) ∧
    (s.reaches o = true → s.realm o ≠ .tenant → (∀ n sid, o = .fieldBus n sid → s.segmentsFull sid = false) →
      Does (.signedReportRead o len) s fun t =>
        t.fw.report.length = 928 ∧ t.fw.reports = s.fw.reports + 1 ∧
        (t.fw.report.drop 16).take 8 = leBytes 8 (s.fw.reports + 1) ∧
        (t.fw.report.drop 32).take 32 = padTo 32 (s.dom 0x1300 6) ∧ t.dom 0x1300 6 = [] ∧
        SaysRead s t o stOk 928 (t.fw.report.take (min len 4084)) ∧ Keeps s t [.fw, .doms, .bus, .out])

/-- 14 R323, R326, R327, R329, R331 to R335, Table 14.3; 18 R395; 11 R273.
It says that these commands answer a next state: pllLossOfLock, referenceLoss, oscillatorOutOfRange,
deviceTimeSave, managementRestart, watchdogTimeout, managementRestartReady, restartTimeout, testReset,
pllRelockEnd. -/
def Obligations.ClockFaultsAndManagementRestarts : Prop :=
  ∀ (s : State) (o : Origin) (die dom kHz cause k : Nat) (sclk : Bool), s.aon.on = true → die < s.n →
    let c := s.clk die
    let others := fun t : State => ∀ d, d ≠ die → t.clk d = s.clk d
    let begins := fun (t : State) (cause : Nat) =>
      t.mgmt.ready = false ∧ t.reg 0x7300 3 = cause ∧ t.reg 0x7300 4 = min 0xFFFFFFFF (s.reg 0x7300 4 + 1) ∧
      (∀ j, t.session j = noSession) ∧ t.bus.segments = [] ∧ t.bus.slotted = [] ∧ t.ten.filling = none ∧
      t.ten.waiting = [] ∧ t.ten.refused = [] ∧ t.ten.settling = none ∧
      (s.ten.settling = none → t.ten.table = s.ten.table) ∧ t.seq.drains = [] ∧
      (∀ w ∈ s.waitingCallers, w.gone = false → ∀ p l, w.origin = .mailbox p l → .mbox p l rcBusy [] ∈ t.out)
    let may := s.mgmt.heldInReset = false ∧ s.dieOut 0 = false ∧ s.freeze.active = false ∧ 3 ≤ s.seq.st ∧ s.seq.st ≠ 13 ∧ s.seq.st ≠ 14
    (isPll dom = true → s.clockRuns die dom = true → Does (.pllLossOfLock die dom) s fun t =>
      t.clk die = { c with unlocked := addOnce dom c.unlocked } ∧ others t ∧ t.clockRuns die dom = false ∧
      t.reg (0x7310 + die) 4 = min 0xFFFFFFFF (s.reg (0x7310 + die) 4 + 1) ∧ RegsBut s t [(0x7310 + die, 4)] ∧
      Keeps s t [.clocks, .regs]) ∧
    (dom ∈ c.unlocked →
      (Does (.pllRelockEnd die dom true) s fun t =>
        t.clk die = { c with unlocked := without dom c.unlocked } ∧ others t ∧ (dom ≠ 1 → dom < 12 → RegsBut s t [])) ∧
      (dom = 1 → die = 0 → s.dieOut 0 = false → 1 ≤ s.seq.st → s.seq.st ≤ 12 →
        Does (.pllRelockEnd die dom false) s fun t =>
          t.seq.st = 15 ∧ t.reg 0x7100 2 = 2 ∧ 1 ∈ (t.clk 0).failed ∧ t.dieOut 0 = true ∧ t.mgmt.ready = false ∧
          t.mgmt.restarting = none ∧ (∀ p l, p < 2 → l < 4 → (t.hlink p l).st = 0) ∧
          (∀ lk, lk < 3 → s.bonded 0 lk = true → (t.dieLink 0 lk).st = 3)) ∧
      (2 ≤ dom → dom ≤ 5 → Does (.pllRelockEnd die dom false) s fun t =>
        (∀ l, l < 4 → (t.hlink (2 * die + dom % 2) l).st = 0) ∧ dom ∈ (t.clk die).failed)) ∧
    (s.seq.st ≠ 0 → s.seq.st ≠ 14 → (s.clk 0).holdover = false → Does .referenceLoss s fun t =>
      (∀ d, d < s.n → t.clk d = { s.clk d with holdover := true } ∧ t.reg (0x7310 + d) 3 = 1) ∧
      (∀ idx sub, sub < 256 → ¬ stagingCount idx sub → ¬ (0x7310 ≤ idx ∧ idx < 0x7310 + s.n ∧ sub = 3) →
        t.reg idx sub = s.reg idx sub) ∧ Keeps s t [.clocks, .regs]) ∧
    (s.clockRuns die (if sclk then 24 else 23) = false → Does (.oscillatorOutOfRange die sclk kHz) s fun t =>
      Keeps s t []) ∧
    (s.clockRuns die (if sclk then 24 else 23) = true → Does (.oscillatorOutOfRange die sclk kHz) s fun t =>
      t.reg (0x7310 + die) (if sclk then 6 else 5) = kHz ∧
      RegsBut s t [(0x7310 + die, if sclk then 6 else 5)] ∧ Keeps s t [.regs]) ∧
    (1 ≤ s.seq.st → s.seq.st ≠ 14 → Does .deviceTimeSave s fun t =>
      t.aon = { s.aon with savedTime := s.aon.deviceTime } ∧ Keeps s t [.aon]) ∧
    (MayUse s o 0x7300 1 true → may → Does (.managementRestart o) s fun t => begins t 3) ∧
    (s.mgmt.ready = true → s.mgmt.watchdogArmed = true →
      (may → Does .watchdogTimeout s fun t => begins t 2) ∧
      (s.seq.st = 13 ∨ s.seq.st = 14 → Does .watchdogTimeout s fun t => Keeps s t [])) ∧
    (s.mgmt.restarting = some cause →
      (10000000000 ≤ s.aon.now - s.mgmt.since → s.mgmt.fails < 2 → may → Does .restartTimeout s fun t =>
        begins t 4 ∧ t.mgmt.fails = s.mgmt.fails + 1) ∧
      (10000000000 ≤ s.aon.now - s.mgmt.since → 2 ≤ s.mgmt.fails → s.dieOut 0 = false → Does .restartTimeout s fun t =>
        t.mgmt.heldInReset = true ∧ t.mgmt.ready = false ∧ t.mgmt.restarting = none ∧ t.reg 0x7300 7 = 1) ∧
      (s.dieOut 0 = false → Does .managementRestartReady s fun t =>
        t.mgmt = { s.mgmt with ready := true, restarting := none, fails := 0, watchdogArmed := true } ∧
        t.bat.limit = s.limitOf s.cistern ∧ t.bat.decayAt = none ∧ t.bat.loadAt = some s.aon.now ∧
        (cause ≠ 0 → t.reg 0x7300 5 = time48 ((s.aon.now - s.mgmt.since) / 1000)) ∧
        (s.fw.trying = some k → t.fw.booted = some k ∧ t.slotSt k = 4) ∧ Keeps s t [.mgmt, .bat, .fw, .regs])) ∧
    Does .testReset s fun t => Keeps s t []

/-- 12 Table 12.3; 14 R323, R329, Table 14.3; 15 R344.
It says that these commands answer a next state: aonPowerOn, aonPowerLoss. -/
def Obligations.AonSupplyLossKeepsTheLedgersAlone : Prop :=
  ∀ (s : State),
    let kept := fun (t : State) =>
      (∀ idx sub, sub < 256 → ¬ stagingCount idx sub → objKeep s.n (okey idx sub) = .ledger →
        t.reg idx sub = s.reg idx sub) ∧
      (∀ idx sub, sub < 256 → ¬ stagingCount idx sub → objKeep s.n (okey idx sub) ≠ .ledger →
        idx < 0x6920 ∨ 0x69A0 ≤ idx → t.reg idx sub = objDefault t.n (okey idx sub)) ∧
      (s.ten.retiring = [] → s.ten.settling = none → ∀ n, t.tenancy n = s.tenancy n) ∧ (∀ j, t.keySlot j = s.keySlot j) ∧
      (∀ d, (t.recorder d).ring = (s.recorder d).ring) ∧ t.build = s.build ∧ t.hosts.lsa = s.hosts.lsa ∧
      t.fw.slot0 = s.fw.slot0 ∧ t.fw.slot1 = s.fw.slot1 ∧ t.fw.image0 = s.fw.image0 ∧ t.fw.image1 = s.fw.image1 ∧
      t.fw.transfer = s.fw.transfer ∧ t.bus.rackKey = s.bus.rackKey ∧
      (∀ d, (t.die d).freezeSeal = (s.die d).freezeSeal ∧ (t.die d).sealA = (s.die d).sealA ∧
        (t.die d).sealB = (s.die d).sealB) ∧
      (∀ d, (t.die d).blocks = (s.die d).blocks ∧ (t.die d).pages = (s.die d).pages) ∧
      (∀ p l, t.hlink p l = noLink) ∧ (∀ j, t.session j = noSession) ∧ t.dram.lines = [] ∧ t.seq.st = 0 ∧
      t.mgmt.ready = false ∧ t.timeValid = false ∧ t.out = [] ∧ t.pending = s.pending
    (s.aon.on = true → Does .aonPowerLoss s fun t =>
      kept t ∧ t.aon.on = false ∧ t.aon.deviceTime = 0 ∧
      ((s.bat.counting = false ∨ Config.cutsRecord s.freeCount = false) →
        t.bat.recA = s.bat.recA ∧ t.bat.recB = s.bat.recB) ∧
      (t.bat.recA = s.bat.recA ∨ t.bat.recA = none) ∧ (t.bat.recB = s.bat.recB ∨ t.bat.recB = none) ∧
      (t.bat.recA = s.bat.recA ∨ t.bat.recB = s.bat.recB)) ∧
    (s.aon.on = false → Does .aonPowerOn s fun t => kept t ∧ t.aon.on = true ∧
      t.aon.deviceTime = (s.aon.savedTime + 1000000) % 2 ^ 48) ∧
    (s.aon.on = true → Does .aonPowerOn s fun t => Keeps s t [])
end

