-- ==== Sys2Proof/Laws/Sparse.lean ====
section
/-! SUPPORT. Laws of the sparse tables and byte memories: a read after a write gives the value written,
a write leaves every other key alone, and every operation keeps the canonical form. -/
namespace Sys2Proof.Machine

variable {α : Type}

@[simp] theorem look?_nil (a : Nat) : look? ([] : Sparse α) a = none := rfl
@[simp] theorem look_nil (d : α) (a : Nat) : look d ([] : Sparse α) a = d := rfl

theorem look?_insertK_same (m : Sparse α) (a : Nat) (v : α) : look? (insertK m a v) a = some v := by
  induction m with
  | nil => simp [insertK, look?]
  | cons e m ih =>
    obtain ⟨k, w⟩ := e
    simp only [insertK]
    split
    · simp [look?]
    · split
      · simp [look?]
      · next h => simp [look?, h, ih]

theorem look?_insertK_ne (m : Sparse α) {a b : Nat} (v : α) (h : b ≠ a) :
    look? (insertK m a v) b = look? m b := by
  induction m with
  | nil => simp [insertK, look?, h]
  | cons e m ih =>
    obtain ⟨k, w⟩ := e
    simp only [insertK]
    split
    · simp [look?, h]
    · split
      · next hk => subst hk; simp [look?, h]
      · simp [look?, ih]

theorem look?_eraseK_ne (m : Sparse α) {a b : Nat} (h : b ≠ a) :
    look? (eraseK m a) b = look? m b := by
  induction m with
  | nil => rfl
  | cons e m ih =>
    obtain ⟨k, w⟩ := e
    simp only [eraseK]
    split
    · next hk => subst hk; simp [look?, h, ih]
    · simp [look?, ih]

/-- Keys of a rising list lie above its bound. -/
theorem look?_risingFrom {b : Nat} {m : Sparse α} (h : risingFrom (some b) m = true) {a : Nat}
    (hab : a ≤ b) : look? m a = none := by
  induction m generalizing b with
  | nil => rfl
  | cons e m ih =>
    obtain ⟨k, w⟩ := e
    simp only [risingFrom, Bool.and_eq_true, decide_eq_true_eq] at h
    have hak : a ≠ k := by omega
    simp [look?, hak, ih h.2 (by omega)]

theorem risingFrom_weaken {b : Nat} {m : Sparse α} (h : risingFrom (some b) m = true) {c : Option Nat}
    (hc : ∀ x, c = some x → x ≤ b) : risingFrom c m = true := by
  cases m with
  | nil => cases c <;> rfl
  | cons e m =>
    obtain ⟨k, w⟩ := e
    simp only [risingFrom, Bool.and_eq_true, decide_eq_true_eq] at h
    cases c with
    | none => simpa [risingFrom] using h.2
    | some x => have := hc x rfl; simp [risingFrom, h.2]; omega

theorem look?_eraseK_same (m : Sparse α) (a : Nat) : look? (eraseK m a) a = none := by
  induction m with
  | nil => rfl
  | cons e m ih =>
    obtain ⟨k, w⟩ := e
    simp only [eraseK]
    split
    · exact ih
    · next hk => simp [look?, hk, ih]

theorem risingFrom_insertK {m : Sparse α} {c : Option Nat} (h : risingFrom c m = true) (a : Nat) (v : α)
    (ha : ∀ x, c = some x → x < a) : risingFrom c (insertK m a v) = true := by
  induction m generalizing c with
  | nil =>
    cases c with
    | none => rfl
    | some x => simp [insertK, risingFrom, ha x rfl]
  | cons e m ih =>
    obtain ⟨k, w⟩ := e
    have hm : risingFrom (some k) m = true := by cases c <;> simp_all [risingFrom]
    have hk : ∀ x, c = some x → x < k := by intro x hx; subst hx; simp_all [risingFrom]
    simp only [insertK]
    split
    · next hlt => cases c with
      | none => simp [risingFrom, hlt, hm]
      | some x => simp [risingFrom, hlt, hm, ha x rfl]
    · split
      · next hlt heq => subst heq; cases c with
        | none => simpa [risingFrom] using hm
        | some x => simp [risingFrom, hm, ha x rfl]
      · next hlt hne =>
        have := ih hm (fun x hx => by cases hx; omega)
        cases c with
        | none => simpa [risingFrom] using this
        | some x => simp [risingFrom, this, hk x rfl]

theorem risingFrom_eraseK {m : Sparse α} {c : Option Nat} (h : risingFrom c m = true) (a : Nat) :
    risingFrom c (eraseK m a) = true := by
  induction m generalizing c with
  | nil => exact h
  | cons e m ih =>
    obtain ⟨k, w⟩ := e
    have hm : risingFrom (some k) m = true := by cases c <;> simp_all [risingFrom]
    have hk : ∀ x, c = some x → x < k := by intro x hx; subst hx; simp_all [risingFrom]
    simp only [eraseK]
    split
    · exact ih (risingFrom_weaken hm (fun x hx => Nat.le_of_lt (hk x hx)))
    · cases c with
      | none => simpa [risingFrom] using ih hm
      | some x => simp [risingFrom, ih hm, hk x rfl]

theorem mem_insertK {m : Sparse α} {a : Nat} {v : α} {e : Nat × α} (h : e ∈ insertK m a v) :
    e = (a, v) ∨ e ∈ m := by
  induction m with
  | nil => simpa [insertK] using h
  | cons x m ih =>
    obtain ⟨k, w⟩ := x
    simp only [insertK] at h
    split at h
    · simpa using h
    · split at h
      · rcases List.mem_cons.1 h with h | h
        · exact .inl h
        · exact .inr (List.mem_cons_of_mem _ h)
      · rcases List.mem_cons.1 h with h | h
        · exact .inr (h ▸ List.mem_cons_self)
        · rcases ih h with h | h
          · exact .inl h
          · exact .inr (List.mem_cons_of_mem _ h)

theorem mem_eraseK {m : Sparse α} {a : Nat} {e : Nat × α} (h : e ∈ eraseK m a) : e ∈ m := by
  induction m with
  | nil => exact h
  | cons x m ih =>
    obtain ⟨k, w⟩ := x
    simp only [eraseK] at h
    split at h
    · exact List.mem_cons_of_mem _ (ih h)
    · rcases List.mem_cons.1 h with h | h
      · exact h ▸ List.mem_cons_self
      · exact List.mem_cons_of_mem _ (ih h)

variable [DecidableEq α]

theorem look?_put_ne (d : α) (m : Sparse α) {a b : Nat} (v : α) (h : b ≠ a) :
    look? (put d m a v) b = look? m b := by
  unfold put
  split
  · exact look?_eraseK_ne m h
  · exact look?_insertK_ne m v h

theorem look_put_ne (d : α) (m : Sparse α) {a b : Nat} (v : α) (h : b ≠ a) :
    look d (put d m a v) b = look d m b := by unfold look; rw [look?_put_ne d m v h]

/-- The value written reads back. -/
theorem look_put_same (d : α) (m : Sparse α) (a : Nat) (v : α) : look d (put d m a v) a = v := by
  unfold look put
  split
  · next h => rw [look?_eraseK_same]; simp [h]
  · rw [look?_insertK_same]; rfl

/-- Writing keeps the canonical form. -/
theorem put_wf (d : α) {m : Sparse α} (hm : Sparse.wf d m = true) (a : Nat) (v : α) :
    Sparse.wf d (put d m a v) = true := by
  simp only [Sparse.wf, Bool.and_eq_true, List.all_eq_true, decide_eq_true_eq] at hm ⊢
  unfold put
  split
  · exact ⟨risingFrom_eraseK hm.1 a, fun e he => hm.2 e (mem_eraseK he)⟩
  · next h =>
    refine ⟨risingFrom_insertK hm.1 a v (by simp), fun e he => ?_⟩
    rcases mem_insertK he with rfl | he
    · exact h
    · exact hm.2 e he

theorem Memory.setByte_wf {m : Memory} (hm : m.wf = true) (a : Nat) (b : Byte) :
    (m.setByte a b).wf = true := put_wf 0 hm a b

/-- Writing bytes keeps a memory's canonical form. -/
theorem Memory.setBytes_wf {m : Memory} (hm : m.wf = true) (a : Nat) (bs : Bytes) :
    (m.setBytes a bs).wf = true := by
  induction bs generalizing m a with
  | nil => exact hm
  | cons b bs ih => exact ih (Memory.setByte_wf hm a b) (a + 1)

theorem Memory.byte_setByte_ne (m : Memory) {a b : Nat} (v : Byte) (h : b ≠ a) :
    (m.setByte a v).byte b = m.byte b := look_put_ne 0 m v h

theorem Memory.byte_setByte_same (m : Memory) (a : Nat) (v : Byte) : (m.setByte a v).byte a = v :=
  look_put_same 0 m a v

/-- Bytes outside those written read as before. -/
theorem Memory.byte_setBytes_outside (m : Memory) (a : Nat) (bs : Bytes) {x : Nat}
    (h : x < a ∨ a + bs.length ≤ x) : (m.setBytes a bs).byte x = m.byte x := by
  induction bs generalizing m a with
  | nil => rfl
  | cons b bs ih =>
    simp only [List.length_cons] at h
    rw [show m.setBytes a (b :: bs) = (m.setByte a b).setBytes (a + 1) bs from rfl,
      ih _ _ (by omega), Memory.byte_setByte_ne _ _ (by omega)]

end Sys2Proof.Machine
end

