-- ==== Sys2Proof/Laws/State.lean ====
section
/-! SUPPORT. Each named update of the state, field by field: the fields it leaves are as before. -/
namespace Sys2Proof.Machine

@[simp] theorem State.fresh_build (s : State) :
    s.fresh.build = s.build := rfl
@[simp] theorem State.fresh_aon (s : State) :
    s.fresh.aon = s.aon := rfl
@[simp] theorem State.fresh_seq (s : State) :
    s.fresh.seq = s.seq := rfl
@[simp] theorem State.fresh_hosts (s : State) :
    s.fresh.hosts = s.hosts := rfl
@[simp] theorem State.fresh_ten (s : State) :
    s.fresh.ten = s.ten := rfl
@[simp] theorem State.fresh_dram (s : State) :
    s.fresh.dram = s.dram := rfl
@[simp] theorem State.fresh_shadow (s : State) :
    s.fresh.shadow = s.shadow := rfl
@[simp] theorem State.fresh_freeze (s : State) :
    s.fresh.freeze = s.freeze := rfl
@[simp] theorem State.fresh_sparing (s : State) :
    s.fresh.sparing = s.sparing := rfl
@[simp] theorem State.fresh_bat (s : State) :
    s.fresh.bat = s.bat := rfl
@[simp] theorem State.fresh_adc (s : State) :
    s.fresh.adc = s.adc := rfl
@[simp] theorem State.fresh_clocks (s : State) :
    s.fresh.clocks = s.clocks := rfl
@[simp] theorem State.fresh_mgmt (s : State) :
    s.fresh.mgmt = s.mgmt := rfl
@[simp] theorem State.fresh_bus (s : State) :
    s.fresh.bus = s.bus := rfl
@[simp] theorem State.fresh_wire (s : State) :
    s.fresh.wire = s.wire := rfl
@[simp] theorem State.fresh_fw (s : State) :
    s.fresh.fw = s.fw := rfl
@[simp] theorem State.fresh_recs (s : State) :
    s.fresh.recs = s.recs := rfl
@[simp] theorem State.fresh_regs (s : State) :
    s.fresh.regs = s.regs := rfl
@[simp] theorem State.fresh_doms (s : State) :
    s.fresh.doms = s.doms := rfl
@[simp] theorem State.fresh_usedW1 (s : State) :
    s.fresh.usedW1 = s.usedW1 := rfl
@[simp] theorem State.fresh_freeCount (s : State) :
    s.fresh.freeCount = s.freeCount := rfl
@[simp] theorem State.fresh_pending (s : State) :
    s.fresh.pending = s.pending := rfl

@[simp] theorem State.emit_build (s : State) (o : Output) :
    (s.emit o).build = s.build := rfl
@[simp] theorem State.emit_aon (s : State) (o : Output) :
    (s.emit o).aon = s.aon := rfl
@[simp] theorem State.emit_seq (s : State) (o : Output) :
    (s.emit o).seq = s.seq := rfl
@[simp] theorem State.emit_hosts (s : State) (o : Output) :
    (s.emit o).hosts = s.hosts := rfl
@[simp] theorem State.emit_ten (s : State) (o : Output) :
    (s.emit o).ten = s.ten := rfl
@[simp] theorem State.emit_dram (s : State) (o : Output) :
    (s.emit o).dram = s.dram := rfl
@[simp] theorem State.emit_shadow (s : State) (o : Output) :
    (s.emit o).shadow = s.shadow := rfl
@[simp] theorem State.emit_freeze (s : State) (o : Output) :
    (s.emit o).freeze = s.freeze := rfl
@[simp] theorem State.emit_sparing (s : State) (o : Output) :
    (s.emit o).sparing = s.sparing := rfl
@[simp] theorem State.emit_bat (s : State) (o : Output) :
    (s.emit o).bat = s.bat := rfl
@[simp] theorem State.emit_adc (s : State) (o : Output) :
    (s.emit o).adc = s.adc := rfl
@[simp] theorem State.emit_clocks (s : State) (o : Output) :
    (s.emit o).clocks = s.clocks := rfl
@[simp] theorem State.emit_mgmt (s : State) (o : Output) :
    (s.emit o).mgmt = s.mgmt := rfl
@[simp] theorem State.emit_bus (s : State) (o : Output) :
    (s.emit o).bus = s.bus := rfl
@[simp] theorem State.emit_wire (s : State) (o : Output) :
    (s.emit o).wire = s.wire := rfl
@[simp] theorem State.emit_fw (s : State) (o : Output) :
    (s.emit o).fw = s.fw := rfl
@[simp] theorem State.emit_recs (s : State) (o : Output) :
    (s.emit o).recs = s.recs := rfl
@[simp] theorem State.emit_regs (s : State) (o : Output) :
    (s.emit o).regs = s.regs := rfl
@[simp] theorem State.emit_doms (s : State) (o : Output) :
    (s.emit o).doms = s.doms := rfl
@[simp] theorem State.emit_usedW1 (s : State) (o : Output) :
    (s.emit o).usedW1 = s.usedW1 := rfl
@[simp] theorem State.emit_freeCount (s : State) (o : Output) :
    (s.emit o).freeCount = s.freeCount := rfl
@[simp] theorem State.emit_pending (s : State) (o : Output) :
    (s.emit o).pending = s.pending := rfl

@[simp] theorem State.setReg_build (s : State) (i k v : Nat) :
    (s.setReg i k v).build = s.build := rfl
@[simp] theorem State.setReg_aon (s : State) (i k v : Nat) :
    (s.setReg i k v).aon = s.aon := rfl
@[simp] theorem State.setReg_seq (s : State) (i k v : Nat) :
    (s.setReg i k v).seq = s.seq := rfl
@[simp] theorem State.setReg_hosts (s : State) (i k v : Nat) :
    (s.setReg i k v).hosts = s.hosts := rfl
@[simp] theorem State.setReg_ten (s : State) (i k v : Nat) :
    (s.setReg i k v).ten = s.ten := rfl
@[simp] theorem State.setReg_dram (s : State) (i k v : Nat) :
    (s.setReg i k v).dram = s.dram := rfl
@[simp] theorem State.setReg_shadow (s : State) (i k v : Nat) :
    (s.setReg i k v).shadow = s.shadow := rfl
@[simp] theorem State.setReg_freeze (s : State) (i k v : Nat) :
    (s.setReg i k v).freeze = s.freeze := rfl
@[simp] theorem State.setReg_sparing (s : State) (i k v : Nat) :
    (s.setReg i k v).sparing = s.sparing := rfl
@[simp] theorem State.setReg_bat (s : State) (i k v : Nat) :
    (s.setReg i k v).bat = s.bat := rfl
@[simp] theorem State.setReg_adc (s : State) (i k v : Nat) :
    (s.setReg i k v).adc = s.adc := rfl
@[simp] theorem State.setReg_clocks (s : State) (i k v : Nat) :
    (s.setReg i k v).clocks = s.clocks := rfl
@[simp] theorem State.setReg_mgmt (s : State) (i k v : Nat) :
    (s.setReg i k v).mgmt = s.mgmt := rfl
@[simp] theorem State.setReg_bus (s : State) (i k v : Nat) :
    (s.setReg i k v).bus = s.bus := rfl
@[simp] theorem State.setReg_wire (s : State) (i k v : Nat) :
    (s.setReg i k v).wire = s.wire := rfl
@[simp] theorem State.setReg_fw (s : State) (i k v : Nat) :
    (s.setReg i k v).fw = s.fw := rfl
@[simp] theorem State.setReg_recs (s : State) (i k v : Nat) :
    (s.setReg i k v).recs = s.recs := rfl
@[simp] theorem State.setReg_doms (s : State) (i k v : Nat) :
    (s.setReg i k v).doms = s.doms := rfl
@[simp] theorem State.setReg_usedW1 (s : State) (i k v : Nat) :
    (s.setReg i k v).usedW1 = s.usedW1 := rfl
@[simp] theorem State.setReg_out (s : State) (i k v : Nat) :
    (s.setReg i k v).out = s.out := rfl
@[simp] theorem State.setReg_freeCount (s : State) (i k v : Nat) :
    (s.setReg i k v).freeCount = s.freeCount := rfl
@[simp] theorem State.setReg_pending (s : State) (i k v : Nat) :
    (s.setReg i k v).pending = s.pending := rfl

@[simp] theorem State.addReg_build (s : State) (i k v m : Nat) :
    (s.addReg i k v m).build = s.build := rfl
@[simp] theorem State.addReg_aon (s : State) (i k v m : Nat) :
    (s.addReg i k v m).aon = s.aon := rfl
@[simp] theorem State.addReg_seq (s : State) (i k v m : Nat) :
    (s.addReg i k v m).seq = s.seq := rfl
@[simp] theorem State.addReg_hosts (s : State) (i k v m : Nat) :
    (s.addReg i k v m).hosts = s.hosts := rfl
@[simp] theorem State.addReg_ten (s : State) (i k v m : Nat) :
    (s.addReg i k v m).ten = s.ten := rfl
@[simp] theorem State.addReg_dram (s : State) (i k v m : Nat) :
    (s.addReg i k v m).dram = s.dram := rfl
@[simp] theorem State.addReg_shadow (s : State) (i k v m : Nat) :
    (s.addReg i k v m).shadow = s.shadow := rfl
@[simp] theorem State.addReg_freeze (s : State) (i k v m : Nat) :
    (s.addReg i k v m).freeze = s.freeze := rfl
@[simp] theorem State.addReg_sparing (s : State) (i k v m : Nat) :
    (s.addReg i k v m).sparing = s.sparing := rfl
@[simp] theorem State.addReg_bat (s : State) (i k v m : Nat) :
    (s.addReg i k v m).bat = s.bat := rfl
@[simp] theorem State.addReg_adc (s : State) (i k v m : Nat) :
    (s.addReg i k v m).adc = s.adc := rfl
@[simp] theorem State.addReg_clocks (s : State) (i k v m : Nat) :
    (s.addReg i k v m).clocks = s.clocks := rfl
@[simp] theorem State.addReg_mgmt (s : State) (i k v m : Nat) :
    (s.addReg i k v m).mgmt = s.mgmt := rfl
@[simp] theorem State.addReg_bus (s : State) (i k v m : Nat) :
    (s.addReg i k v m).bus = s.bus := rfl
@[simp] theorem State.addReg_wire (s : State) (i k v m : Nat) :
    (s.addReg i k v m).wire = s.wire := rfl
@[simp] theorem State.addReg_fw (s : State) (i k v m : Nat) :
    (s.addReg i k v m).fw = s.fw := rfl
@[simp] theorem State.addReg_recs (s : State) (i k v m : Nat) :
    (s.addReg i k v m).recs = s.recs := rfl
@[simp] theorem State.addReg_doms (s : State) (i k v m : Nat) :
    (s.addReg i k v m).doms = s.doms := rfl
@[simp] theorem State.addReg_usedW1 (s : State) (i k v m : Nat) :
    (s.addReg i k v m).usedW1 = s.usedW1 := rfl
@[simp] theorem State.addReg_out (s : State) (i k v m : Nat) :
    (s.addReg i k v m).out = s.out := rfl
@[simp] theorem State.addReg_freeCount (s : State) (i k v m : Nat) :
    (s.addReg i k v m).freeCount = s.freeCount := rfl
@[simp] theorem State.addReg_pending (s : State) (i k v m : Nat) :
    (s.addReg i k v m).pending = s.pending := rfl

@[simp] theorem State.inc_build (s : State) (i k : Nat) :
    (s.inc i k).build = s.build := rfl
@[simp] theorem State.inc_aon (s : State) (i k : Nat) :
    (s.inc i k).aon = s.aon := rfl
@[simp] theorem State.inc_seq (s : State) (i k : Nat) :
    (s.inc i k).seq = s.seq := rfl
@[simp] theorem State.inc_hosts (s : State) (i k : Nat) :
    (s.inc i k).hosts = s.hosts := rfl
@[simp] theorem State.inc_ten (s : State) (i k : Nat) :
    (s.inc i k).ten = s.ten := rfl
@[simp] theorem State.inc_dram (s : State) (i k : Nat) :
    (s.inc i k).dram = s.dram := rfl
@[simp] theorem State.inc_shadow (s : State) (i k : Nat) :
    (s.inc i k).shadow = s.shadow := rfl
@[simp] theorem State.inc_freeze (s : State) (i k : Nat) :
    (s.inc i k).freeze = s.freeze := rfl
@[simp] theorem State.inc_sparing (s : State) (i k : Nat) :
    (s.inc i k).sparing = s.sparing := rfl
@[simp] theorem State.inc_bat (s : State) (i k : Nat) :
    (s.inc i k).bat = s.bat := rfl
@[simp] theorem State.inc_adc (s : State) (i k : Nat) :
    (s.inc i k).adc = s.adc := rfl
@[simp] theorem State.inc_clocks (s : State) (i k : Nat) :
    (s.inc i k).clocks = s.clocks := rfl
@[simp] theorem State.inc_mgmt (s : State) (i k : Nat) :
    (s.inc i k).mgmt = s.mgmt := rfl
@[simp] theorem State.inc_bus (s : State) (i k : Nat) :
    (s.inc i k).bus = s.bus := rfl
@[simp] theorem State.inc_wire (s : State) (i k : Nat) :
    (s.inc i k).wire = s.wire := rfl
@[simp] theorem State.inc_fw (s : State) (i k : Nat) :
    (s.inc i k).fw = s.fw := rfl
@[simp] theorem State.inc_recs (s : State) (i k : Nat) :
    (s.inc i k).recs = s.recs := rfl
@[simp] theorem State.inc_doms (s : State) (i k : Nat) :
    (s.inc i k).doms = s.doms := rfl
@[simp] theorem State.inc_usedW1 (s : State) (i k : Nat) :
    (s.inc i k).usedW1 = s.usedW1 := rfl
@[simp] theorem State.inc_out (s : State) (i k : Nat) :
    (s.inc i k).out = s.out := rfl
@[simp] theorem State.inc_freeCount (s : State) (i k : Nat) :
    (s.inc i k).freeCount = s.freeCount := rfl
@[simp] theorem State.inc_pending (s : State) (i k : Nat) :
    (s.inc i k).pending = s.pending := rfl

@[simp] theorem State.setDom_build (s : State) (i k : Nat) (b : Bytes) :
    (s.setDom i k b).build = s.build := rfl
@[simp] theorem State.setDom_aon (s : State) (i k : Nat) (b : Bytes) :
    (s.setDom i k b).aon = s.aon := rfl
@[simp] theorem State.setDom_seq (s : State) (i k : Nat) (b : Bytes) :
    (s.setDom i k b).seq = s.seq := rfl
@[simp] theorem State.setDom_hosts (s : State) (i k : Nat) (b : Bytes) :
    (s.setDom i k b).hosts = s.hosts := rfl
@[simp] theorem State.setDom_ten (s : State) (i k : Nat) (b : Bytes) :
    (s.setDom i k b).ten = s.ten := rfl
@[simp] theorem State.setDom_dram (s : State) (i k : Nat) (b : Bytes) :
    (s.setDom i k b).dram = s.dram := rfl
@[simp] theorem State.setDom_shadow (s : State) (i k : Nat) (b : Bytes) :
    (s.setDom i k b).shadow = s.shadow := rfl
@[simp] theorem State.setDom_freeze (s : State) (i k : Nat) (b : Bytes) :
    (s.setDom i k b).freeze = s.freeze := rfl
@[simp] theorem State.setDom_sparing (s : State) (i k : Nat) (b : Bytes) :
    (s.setDom i k b).sparing = s.sparing := rfl
@[simp] theorem State.setDom_bat (s : State) (i k : Nat) (b : Bytes) :
    (s.setDom i k b).bat = s.bat := rfl
@[simp] theorem State.setDom_adc (s : State) (i k : Nat) (b : Bytes) :
    (s.setDom i k b).adc = s.adc := rfl
@[simp] theorem State.setDom_clocks (s : State) (i k : Nat) (b : Bytes) :
    (s.setDom i k b).clocks = s.clocks := rfl
@[simp] theorem State.setDom_mgmt (s : State) (i k : Nat) (b : Bytes) :
    (s.setDom i k b).mgmt = s.mgmt := rfl
@[simp] theorem State.setDom_bus (s : State) (i k : Nat) (b : Bytes) :
    (s.setDom i k b).bus = s.bus := rfl
@[simp] theorem State.setDom_wire (s : State) (i k : Nat) (b : Bytes) :
    (s.setDom i k b).wire = s.wire := rfl
@[simp] theorem State.setDom_fw (s : State) (i k : Nat) (b : Bytes) :
    (s.setDom i k b).fw = s.fw := rfl
@[simp] theorem State.setDom_recs (s : State) (i k : Nat) (b : Bytes) :
    (s.setDom i k b).recs = s.recs := rfl
@[simp] theorem State.setDom_regs (s : State) (i k : Nat) (b : Bytes) :
    (s.setDom i k b).regs = s.regs := rfl
@[simp] theorem State.setDom_usedW1 (s : State) (i k : Nat) (b : Bytes) :
    (s.setDom i k b).usedW1 = s.usedW1 := rfl
@[simp] theorem State.setDom_out (s : State) (i k : Nat) (b : Bytes) :
    (s.setDom i k b).out = s.out := rfl
@[simp] theorem State.setDom_freeCount (s : State) (i k : Nat) (b : Bytes) :
    (s.setDom i k b).freeCount = s.freeCount := rfl
@[simp] theorem State.setDom_pending (s : State) (i k : Nat) (b : Bytes) :
    (s.setDom i k b).pending = s.pending := rfl

@[simp] theorem State.setRank_build (s : State) (r : Nat) (x : Rank) :
    (s.setRank r x).build = s.build := rfl
@[simp] theorem State.setRank_aon (s : State) (r : Nat) (x : Rank) :
    (s.setRank r x).aon = s.aon := rfl
@[simp] theorem State.setRank_seq (s : State) (r : Nat) (x : Rank) :
    (s.setRank r x).seq = s.seq := rfl
@[simp] theorem State.setRank_hosts (s : State) (r : Nat) (x : Rank) :
    (s.setRank r x).hosts = s.hosts := rfl
@[simp] theorem State.setRank_ten (s : State) (r : Nat) (x : Rank) :
    (s.setRank r x).ten = s.ten := rfl
@[simp] theorem State.setRank_shadow (s : State) (r : Nat) (x : Rank) :
    (s.setRank r x).shadow = s.shadow := rfl
@[simp] theorem State.setRank_freeze (s : State) (r : Nat) (x : Rank) :
    (s.setRank r x).freeze = s.freeze := rfl
@[simp] theorem State.setRank_sparing (s : State) (r : Nat) (x : Rank) :
    (s.setRank r x).sparing = s.sparing := rfl
@[simp] theorem State.setRank_bat (s : State) (r : Nat) (x : Rank) :
    (s.setRank r x).bat = s.bat := rfl
@[simp] theorem State.setRank_adc (s : State) (r : Nat) (x : Rank) :
    (s.setRank r x).adc = s.adc := rfl
@[simp] theorem State.setRank_clocks (s : State) (r : Nat) (x : Rank) :
    (s.setRank r x).clocks = s.clocks := rfl
@[simp] theorem State.setRank_mgmt (s : State) (r : Nat) (x : Rank) :
    (s.setRank r x).mgmt = s.mgmt := rfl
@[simp] theorem State.setRank_bus (s : State) (r : Nat) (x : Rank) :
    (s.setRank r x).bus = s.bus := rfl
@[simp] theorem State.setRank_wire (s : State) (r : Nat) (x : Rank) :
    (s.setRank r x).wire = s.wire := rfl
@[simp] theorem State.setRank_fw (s : State) (r : Nat) (x : Rank) :
    (s.setRank r x).fw = s.fw := rfl
@[simp] theorem State.setRank_recs (s : State) (r : Nat) (x : Rank) :
    (s.setRank r x).recs = s.recs := rfl
@[simp] theorem State.setRank_regs (s : State) (r : Nat) (x : Rank) :
    (s.setRank r x).regs = s.regs := rfl
@[simp] theorem State.setRank_doms (s : State) (r : Nat) (x : Rank) :
    (s.setRank r x).doms = s.doms := rfl
@[simp] theorem State.setRank_usedW1 (s : State) (r : Nat) (x : Rank) :
    (s.setRank r x).usedW1 = s.usedW1 := rfl
@[simp] theorem State.setRank_out (s : State) (r : Nat) (x : Rank) :
    (s.setRank r x).out = s.out := rfl
@[simp] theorem State.setRank_freeCount (s : State) (r : Nat) (x : Rank) :
    (s.setRank r x).freeCount = s.freeCount := rfl
@[simp] theorem State.setRank_pending (s : State) (r : Nat) (x : Rank) :
    (s.setRank r x).pending = s.pending := rfl

@[simp] theorem State.setQuad_build (s : State) (d q : Nat) (x : Quad) :
    (s.setQuad d q x).build = s.build := rfl
@[simp] theorem State.setQuad_aon (s : State) (d q : Nat) (x : Quad) :
    (s.setQuad d q x).aon = s.aon := rfl
@[simp] theorem State.setQuad_seq (s : State) (d q : Nat) (x : Quad) :
    (s.setQuad d q x).seq = s.seq := rfl
@[simp] theorem State.setQuad_hosts (s : State) (d q : Nat) (x : Quad) :
    (s.setQuad d q x).hosts = s.hosts := rfl
@[simp] theorem State.setQuad_ten (s : State) (d q : Nat) (x : Quad) :
    (s.setQuad d q x).ten = s.ten := rfl
@[simp] theorem State.setQuad_shadow (s : State) (d q : Nat) (x : Quad) :
    (s.setQuad d q x).shadow = s.shadow := rfl
@[simp] theorem State.setQuad_freeze (s : State) (d q : Nat) (x : Quad) :
    (s.setQuad d q x).freeze = s.freeze := rfl
@[simp] theorem State.setQuad_sparing (s : State) (d q : Nat) (x : Quad) :
    (s.setQuad d q x).sparing = s.sparing := rfl
@[simp] theorem State.setQuad_bat (s : State) (d q : Nat) (x : Quad) :
    (s.setQuad d q x).bat = s.bat := rfl
@[simp] theorem State.setQuad_adc (s : State) (d q : Nat) (x : Quad) :
    (s.setQuad d q x).adc = s.adc := rfl
@[simp] theorem State.setQuad_clocks (s : State) (d q : Nat) (x : Quad) :
    (s.setQuad d q x).clocks = s.clocks := rfl
@[simp] theorem State.setQuad_mgmt (s : State) (d q : Nat) (x : Quad) :
    (s.setQuad d q x).mgmt = s.mgmt := rfl
@[simp] theorem State.setQuad_bus (s : State) (d q : Nat) (x : Quad) :
    (s.setQuad d q x).bus = s.bus := rfl
@[simp] theorem State.setQuad_wire (s : State) (d q : Nat) (x : Quad) :
    (s.setQuad d q x).wire = s.wire := rfl
@[simp] theorem State.setQuad_fw (s : State) (d q : Nat) (x : Quad) :
    (s.setQuad d q x).fw = s.fw := rfl
@[simp] theorem State.setQuad_recs (s : State) (d q : Nat) (x : Quad) :
    (s.setQuad d q x).recs = s.recs := rfl
@[simp] theorem State.setQuad_regs (s : State) (d q : Nat) (x : Quad) :
    (s.setQuad d q x).regs = s.regs := rfl
@[simp] theorem State.setQuad_doms (s : State) (d q : Nat) (x : Quad) :
    (s.setQuad d q x).doms = s.doms := rfl
@[simp] theorem State.setQuad_usedW1 (s : State) (d q : Nat) (x : Quad) :
    (s.setQuad d q x).usedW1 = s.usedW1 := rfl
@[simp] theorem State.setQuad_out (s : State) (d q : Nat) (x : Quad) :
    (s.setQuad d q x).out = s.out := rfl
@[simp] theorem State.setQuad_freeCount (s : State) (d q : Nat) (x : Quad) :
    (s.setQuad d q x).freeCount = s.freeCount := rfl
@[simp] theorem State.setQuad_pending (s : State) (d q : Nat) (x : Quad) :
    (s.setQuad d q x).pending = s.pending := rfl

@[simp] theorem State.setChan_build (s : State) (c : Nat) (x : Chan) :
    (s.setChan c x).build = s.build := rfl
@[simp] theorem State.setChan_aon (s : State) (c : Nat) (x : Chan) :
    (s.setChan c x).aon = s.aon := rfl
@[simp] theorem State.setChan_seq (s : State) (c : Nat) (x : Chan) :
    (s.setChan c x).seq = s.seq := rfl
@[simp] theorem State.setChan_hosts (s : State) (c : Nat) (x : Chan) :
    (s.setChan c x).hosts = s.hosts := rfl
@[simp] theorem State.setChan_ten (s : State) (c : Nat) (x : Chan) :
    (s.setChan c x).ten = s.ten := rfl
@[simp] theorem State.setChan_shadow (s : State) (c : Nat) (x : Chan) :
    (s.setChan c x).shadow = s.shadow := rfl
@[simp] theorem State.setChan_freeze (s : State) (c : Nat) (x : Chan) :
    (s.setChan c x).freeze = s.freeze := rfl
@[simp] theorem State.setChan_sparing (s : State) (c : Nat) (x : Chan) :
    (s.setChan c x).sparing = s.sparing := rfl
@[simp] theorem State.setChan_bat (s : State) (c : Nat) (x : Chan) :
    (s.setChan c x).bat = s.bat := rfl
@[simp] theorem State.setChan_adc (s : State) (c : Nat) (x : Chan) :
    (s.setChan c x).adc = s.adc := rfl
@[simp] theorem State.setChan_clocks (s : State) (c : Nat) (x : Chan) :
    (s.setChan c x).clocks = s.clocks := rfl
@[simp] theorem State.setChan_mgmt (s : State) (c : Nat) (x : Chan) :
    (s.setChan c x).mgmt = s.mgmt := rfl
@[simp] theorem State.setChan_bus (s : State) (c : Nat) (x : Chan) :
    (s.setChan c x).bus = s.bus := rfl
@[simp] theorem State.setChan_wire (s : State) (c : Nat) (x : Chan) :
    (s.setChan c x).wire = s.wire := rfl
@[simp] theorem State.setChan_fw (s : State) (c : Nat) (x : Chan) :
    (s.setChan c x).fw = s.fw := rfl
@[simp] theorem State.setChan_recs (s : State) (c : Nat) (x : Chan) :
    (s.setChan c x).recs = s.recs := rfl
@[simp] theorem State.setChan_regs (s : State) (c : Nat) (x : Chan) :
    (s.setChan c x).regs = s.regs := rfl
@[simp] theorem State.setChan_doms (s : State) (c : Nat) (x : Chan) :
    (s.setChan c x).doms = s.doms := rfl
@[simp] theorem State.setChan_usedW1 (s : State) (c : Nat) (x : Chan) :
    (s.setChan c x).usedW1 = s.usedW1 := rfl
@[simp] theorem State.setChan_out (s : State) (c : Nat) (x : Chan) :
    (s.setChan c x).out = s.out := rfl
@[simp] theorem State.setChan_freeCount (s : State) (c : Nat) (x : Chan) :
    (s.setChan c x).freeCount = s.freeCount := rfl
@[simp] theorem State.setChan_pending (s : State) (c : Nat) (x : Chan) :
    (s.setChan c x).pending = s.pending := rfl

@[simp] theorem State.setBank_build (s : State) (c k b : Nat) (x : Bank) :
    (s.setBank c k b x).build = s.build := rfl
@[simp] theorem State.setBank_aon (s : State) (c k b : Nat) (x : Bank) :
    (s.setBank c k b x).aon = s.aon := rfl
@[simp] theorem State.setBank_seq (s : State) (c k b : Nat) (x : Bank) :
    (s.setBank c k b x).seq = s.seq := rfl
@[simp] theorem State.setBank_hosts (s : State) (c k b : Nat) (x : Bank) :
    (s.setBank c k b x).hosts = s.hosts := rfl
@[simp] theorem State.setBank_ten (s : State) (c k b : Nat) (x : Bank) :
    (s.setBank c k b x).ten = s.ten := rfl
@[simp] theorem State.setBank_shadow (s : State) (c k b : Nat) (x : Bank) :
    (s.setBank c k b x).shadow = s.shadow := rfl
@[simp] theorem State.setBank_freeze (s : State) (c k b : Nat) (x : Bank) :
    (s.setBank c k b x).freeze = s.freeze := rfl
@[simp] theorem State.setBank_sparing (s : State) (c k b : Nat) (x : Bank) :
    (s.setBank c k b x).sparing = s.sparing := rfl
@[simp] theorem State.setBank_bat (s : State) (c k b : Nat) (x : Bank) :
    (s.setBank c k b x).bat = s.bat := rfl
@[simp] theorem State.setBank_adc (s : State) (c k b : Nat) (x : Bank) :
    (s.setBank c k b x).adc = s.adc := rfl
@[simp] theorem State.setBank_clocks (s : State) (c k b : Nat) (x : Bank) :
    (s.setBank c k b x).clocks = s.clocks := rfl
@[simp] theorem State.setBank_mgmt (s : State) (c k b : Nat) (x : Bank) :
    (s.setBank c k b x).mgmt = s.mgmt := rfl
@[simp] theorem State.setBank_bus (s : State) (c k b : Nat) (x : Bank) :
    (s.setBank c k b x).bus = s.bus := rfl
@[simp] theorem State.setBank_wire (s : State) (c k b : Nat) (x : Bank) :
    (s.setBank c k b x).wire = s.wire := rfl
@[simp] theorem State.setBank_fw (s : State) (c k b : Nat) (x : Bank) :
    (s.setBank c k b x).fw = s.fw := rfl
@[simp] theorem State.setBank_recs (s : State) (c k b : Nat) (x : Bank) :
    (s.setBank c k b x).recs = s.recs := rfl
@[simp] theorem State.setBank_regs (s : State) (c k b : Nat) (x : Bank) :
    (s.setBank c k b x).regs = s.regs := rfl
@[simp] theorem State.setBank_doms (s : State) (c k b : Nat) (x : Bank) :
    (s.setBank c k b x).doms = s.doms := rfl
@[simp] theorem State.setBank_usedW1 (s : State) (c k b : Nat) (x : Bank) :
    (s.setBank c k b x).usedW1 = s.usedW1 := rfl
@[simp] theorem State.setBank_out (s : State) (c k b : Nat) (x : Bank) :
    (s.setBank c k b x).out = s.out := rfl
@[simp] theorem State.setBank_freeCount (s : State) (c k b : Nat) (x : Bank) :
    (s.setBank c k b x).freeCount = s.freeCount := rfl
@[simp] theorem State.setBank_pending (s : State) (c k b : Nat) (x : Bank) :
    (s.setBank c k b x).pending = s.pending := rfl

@[simp] theorem State.setLink_build (s : State) (p l : Nat) (x : HLink) :
    (s.setLink p l x).build = s.build := rfl
@[simp] theorem State.setLink_aon (s : State) (p l : Nat) (x : HLink) :
    (s.setLink p l x).aon = s.aon := rfl
@[simp] theorem State.setLink_seq (s : State) (p l : Nat) (x : HLink) :
    (s.setLink p l x).seq = s.seq := rfl
@[simp] theorem State.setLink_ten (s : State) (p l : Nat) (x : HLink) :
    (s.setLink p l x).ten = s.ten := rfl
@[simp] theorem State.setLink_dram (s : State) (p l : Nat) (x : HLink) :
    (s.setLink p l x).dram = s.dram := rfl
@[simp] theorem State.setLink_shadow (s : State) (p l : Nat) (x : HLink) :
    (s.setLink p l x).shadow = s.shadow := rfl
@[simp] theorem State.setLink_freeze (s : State) (p l : Nat) (x : HLink) :
    (s.setLink p l x).freeze = s.freeze := rfl
@[simp] theorem State.setLink_sparing (s : State) (p l : Nat) (x : HLink) :
    (s.setLink p l x).sparing = s.sparing := rfl
@[simp] theorem State.setLink_bat (s : State) (p l : Nat) (x : HLink) :
    (s.setLink p l x).bat = s.bat := rfl
@[simp] theorem State.setLink_adc (s : State) (p l : Nat) (x : HLink) :
    (s.setLink p l x).adc = s.adc := rfl
@[simp] theorem State.setLink_clocks (s : State) (p l : Nat) (x : HLink) :
    (s.setLink p l x).clocks = s.clocks := rfl
@[simp] theorem State.setLink_mgmt (s : State) (p l : Nat) (x : HLink) :
    (s.setLink p l x).mgmt = s.mgmt := rfl
@[simp] theorem State.setLink_bus (s : State) (p l : Nat) (x : HLink) :
    (s.setLink p l x).bus = s.bus := rfl
@[simp] theorem State.setLink_wire (s : State) (p l : Nat) (x : HLink) :
    (s.setLink p l x).wire = s.wire := rfl
@[simp] theorem State.setLink_fw (s : State) (p l : Nat) (x : HLink) :
    (s.setLink p l x).fw = s.fw := rfl
@[simp] theorem State.setLink_recs (s : State) (p l : Nat) (x : HLink) :
    (s.setLink p l x).recs = s.recs := rfl
@[simp] theorem State.setLink_regs (s : State) (p l : Nat) (x : HLink) :
    (s.setLink p l x).regs = s.regs := rfl
@[simp] theorem State.setLink_doms (s : State) (p l : Nat) (x : HLink) :
    (s.setLink p l x).doms = s.doms := rfl
@[simp] theorem State.setLink_usedW1 (s : State) (p l : Nat) (x : HLink) :
    (s.setLink p l x).usedW1 = s.usedW1 := rfl
@[simp] theorem State.setLink_out (s : State) (p l : Nat) (x : HLink) :
    (s.setLink p l x).out = s.out := rfl
@[simp] theorem State.setLink_freeCount (s : State) (p l : Nat) (x : HLink) :
    (s.setLink p l x).freeCount = s.freeCount := rfl
@[simp] theorem State.setLink_pending (s : State) (p l : Nat) (x : HLink) :
    (s.setLink p l x).pending = s.pending := rfl

@[simp] theorem State.setTen_build (s : State) (k : Nat) (x : Tenancy) :
    (s.setTen k x).build = s.build := rfl
@[simp] theorem State.setTen_aon (s : State) (k : Nat) (x : Tenancy) :
    (s.setTen k x).aon = s.aon := rfl
@[simp] theorem State.setTen_seq (s : State) (k : Nat) (x : Tenancy) :
    (s.setTen k x).seq = s.seq := rfl
@[simp] theorem State.setTen_hosts (s : State) (k : Nat) (x : Tenancy) :
    (s.setTen k x).hosts = s.hosts := rfl
@[simp] theorem State.setTen_dram (s : State) (k : Nat) (x : Tenancy) :
    (s.setTen k x).dram = s.dram := rfl
@[simp] theorem State.setTen_shadow (s : State) (k : Nat) (x : Tenancy) :
    (s.setTen k x).shadow = s.shadow := rfl
@[simp] theorem State.setTen_freeze (s : State) (k : Nat) (x : Tenancy) :
    (s.setTen k x).freeze = s.freeze := rfl
@[simp] theorem State.setTen_sparing (s : State) (k : Nat) (x : Tenancy) :
    (s.setTen k x).sparing = s.sparing := rfl
@[simp] theorem State.setTen_bat (s : State) (k : Nat) (x : Tenancy) :
    (s.setTen k x).bat = s.bat := rfl
@[simp] theorem State.setTen_adc (s : State) (k : Nat) (x : Tenancy) :
    (s.setTen k x).adc = s.adc := rfl
@[simp] theorem State.setTen_clocks (s : State) (k : Nat) (x : Tenancy) :
    (s.setTen k x).clocks = s.clocks := rfl
@[simp] theorem State.setTen_mgmt (s : State) (k : Nat) (x : Tenancy) :
    (s.setTen k x).mgmt = s.mgmt := rfl
@[simp] theorem State.setTen_bus (s : State) (k : Nat) (x : Tenancy) :
    (s.setTen k x).bus = s.bus := rfl
@[simp] theorem State.setTen_wire (s : State) (k : Nat) (x : Tenancy) :
    (s.setTen k x).wire = s.wire := rfl
@[simp] theorem State.setTen_fw (s : State) (k : Nat) (x : Tenancy) :
    (s.setTen k x).fw = s.fw := rfl
@[simp] theorem State.setTen_recs (s : State) (k : Nat) (x : Tenancy) :
    (s.setTen k x).recs = s.recs := rfl
@[simp] theorem State.setTen_regs (s : State) (k : Nat) (x : Tenancy) :
    (s.setTen k x).regs = s.regs := rfl
@[simp] theorem State.setTen_doms (s : State) (k : Nat) (x : Tenancy) :
    (s.setTen k x).doms = s.doms := rfl
@[simp] theorem State.setTen_usedW1 (s : State) (k : Nat) (x : Tenancy) :
    (s.setTen k x).usedW1 = s.usedW1 := rfl
@[simp] theorem State.setTen_out (s : State) (k : Nat) (x : Tenancy) :
    (s.setTen k x).out = s.out := rfl
@[simp] theorem State.setTen_freeCount (s : State) (k : Nat) (x : Tenancy) :
    (s.setTen k x).freeCount = s.freeCount := rfl
@[simp] theorem State.setTen_pending (s : State) (k : Nat) (x : Tenancy) :
    (s.setTen k x).pending = s.pending := rfl

@[simp] theorem State.setKey_build (s : State) (k : Nat) (x : KeySlot) :
    (s.setKey k x).build = s.build := rfl
@[simp] theorem State.setKey_aon (s : State) (k : Nat) (x : KeySlot) :
    (s.setKey k x).aon = s.aon := rfl
@[simp] theorem State.setKey_seq (s : State) (k : Nat) (x : KeySlot) :
    (s.setKey k x).seq = s.seq := rfl
@[simp] theorem State.setKey_hosts (s : State) (k : Nat) (x : KeySlot) :
    (s.setKey k x).hosts = s.hosts := rfl
@[simp] theorem State.setKey_dram (s : State) (k : Nat) (x : KeySlot) :
    (s.setKey k x).dram = s.dram := rfl
@[simp] theorem State.setKey_shadow (s : State) (k : Nat) (x : KeySlot) :
    (s.setKey k x).shadow = s.shadow := rfl
@[simp] theorem State.setKey_freeze (s : State) (k : Nat) (x : KeySlot) :
    (s.setKey k x).freeze = s.freeze := rfl
@[simp] theorem State.setKey_sparing (s : State) (k : Nat) (x : KeySlot) :
    (s.setKey k x).sparing = s.sparing := rfl
@[simp] theorem State.setKey_bat (s : State) (k : Nat) (x : KeySlot) :
    (s.setKey k x).bat = s.bat := rfl
@[simp] theorem State.setKey_adc (s : State) (k : Nat) (x : KeySlot) :
    (s.setKey k x).adc = s.adc := rfl
@[simp] theorem State.setKey_clocks (s : State) (k : Nat) (x : KeySlot) :
    (s.setKey k x).clocks = s.clocks := rfl
@[simp] theorem State.setKey_mgmt (s : State) (k : Nat) (x : KeySlot) :
    (s.setKey k x).mgmt = s.mgmt := rfl
@[simp] theorem State.setKey_bus (s : State) (k : Nat) (x : KeySlot) :
    (s.setKey k x).bus = s.bus := rfl
@[simp] theorem State.setKey_wire (s : State) (k : Nat) (x : KeySlot) :
    (s.setKey k x).wire = s.wire := rfl
@[simp] theorem State.setKey_fw (s : State) (k : Nat) (x : KeySlot) :
    (s.setKey k x).fw = s.fw := rfl
@[simp] theorem State.setKey_recs (s : State) (k : Nat) (x : KeySlot) :
    (s.setKey k x).recs = s.recs := rfl
@[simp] theorem State.setKey_regs (s : State) (k : Nat) (x : KeySlot) :
    (s.setKey k x).regs = s.regs := rfl
@[simp] theorem State.setKey_doms (s : State) (k : Nat) (x : KeySlot) :
    (s.setKey k x).doms = s.doms := rfl
@[simp] theorem State.setKey_usedW1 (s : State) (k : Nat) (x : KeySlot) :
    (s.setKey k x).usedW1 = s.usedW1 := rfl
@[simp] theorem State.setKey_out (s : State) (k : Nat) (x : KeySlot) :
    (s.setKey k x).out = s.out := rfl
@[simp] theorem State.setKey_freeCount (s : State) (k : Nat) (x : KeySlot) :
    (s.setKey k x).freeCount = s.freeCount := rfl
@[simp] theorem State.setKey_pending (s : State) (k : Nat) (x : KeySlot) :
    (s.setKey k x).pending = s.pending := rfl

@[simp] theorem State.setDie_build (s : State) (d : Nat) (x : DieShadow) :
    (s.setDie d x).build = s.build := rfl
@[simp] theorem State.setDie_aon (s : State) (d : Nat) (x : DieShadow) :
    (s.setDie d x).aon = s.aon := rfl
@[simp] theorem State.setDie_seq (s : State) (d : Nat) (x : DieShadow) :
    (s.setDie d x).seq = s.seq := rfl
@[simp] theorem State.setDie_hosts (s : State) (d : Nat) (x : DieShadow) :
    (s.setDie d x).hosts = s.hosts := rfl
@[simp] theorem State.setDie_ten (s : State) (d : Nat) (x : DieShadow) :
    (s.setDie d x).ten = s.ten := rfl
@[simp] theorem State.setDie_dram (s : State) (d : Nat) (x : DieShadow) :
    (s.setDie d x).dram = s.dram := rfl
@[simp] theorem State.setDie_freeze (s : State) (d : Nat) (x : DieShadow) :
    (s.setDie d x).freeze = s.freeze := rfl
@[simp] theorem State.setDie_sparing (s : State) (d : Nat) (x : DieShadow) :
    (s.setDie d x).sparing = s.sparing := rfl
@[simp] theorem State.setDie_bat (s : State) (d : Nat) (x : DieShadow) :
    (s.setDie d x).bat = s.bat := rfl
@[simp] theorem State.setDie_adc (s : State) (d : Nat) (x : DieShadow) :
    (s.setDie d x).adc = s.adc := rfl
@[simp] theorem State.setDie_clocks (s : State) (d : Nat) (x : DieShadow) :
    (s.setDie d x).clocks = s.clocks := rfl
@[simp] theorem State.setDie_mgmt (s : State) (d : Nat) (x : DieShadow) :
    (s.setDie d x).mgmt = s.mgmt := rfl
@[simp] theorem State.setDie_bus (s : State) (d : Nat) (x : DieShadow) :
    (s.setDie d x).bus = s.bus := rfl
@[simp] theorem State.setDie_wire (s : State) (d : Nat) (x : DieShadow) :
    (s.setDie d x).wire = s.wire := rfl
@[simp] theorem State.setDie_fw (s : State) (d : Nat) (x : DieShadow) :
    (s.setDie d x).fw = s.fw := rfl
@[simp] theorem State.setDie_recs (s : State) (d : Nat) (x : DieShadow) :
    (s.setDie d x).recs = s.recs := rfl
@[simp] theorem State.setDie_regs (s : State) (d : Nat) (x : DieShadow) :
    (s.setDie d x).regs = s.regs := rfl
@[simp] theorem State.setDie_doms (s : State) (d : Nat) (x : DieShadow) :
    (s.setDie d x).doms = s.doms := rfl
@[simp] theorem State.setDie_usedW1 (s : State) (d : Nat) (x : DieShadow) :
    (s.setDie d x).usedW1 = s.usedW1 := rfl
@[simp] theorem State.setDie_out (s : State) (d : Nat) (x : DieShadow) :
    (s.setDie d x).out = s.out := rfl
@[simp] theorem State.setDie_freeCount (s : State) (d : Nat) (x : DieShadow) :
    (s.setDie d x).freeCount = s.freeCount := rfl
@[simp] theorem State.setDie_pending (s : State) (d : Nat) (x : DieShadow) :
    (s.setDie d x).pending = s.pending := rfl

@[simp] theorem State.setAdc_build (s : State) (d : Nat) (x : Adc) :
    (s.setAdc d x).build = s.build := rfl
@[simp] theorem State.setAdc_aon (s : State) (d : Nat) (x : Adc) :
    (s.setAdc d x).aon = s.aon := rfl
@[simp] theorem State.setAdc_seq (s : State) (d : Nat) (x : Adc) :
    (s.setAdc d x).seq = s.seq := rfl
@[simp] theorem State.setAdc_hosts (s : State) (d : Nat) (x : Adc) :
    (s.setAdc d x).hosts = s.hosts := rfl
@[simp] theorem State.setAdc_ten (s : State) (d : Nat) (x : Adc) :
    (s.setAdc d x).ten = s.ten := rfl
@[simp] theorem State.setAdc_dram (s : State) (d : Nat) (x : Adc) :
    (s.setAdc d x).dram = s.dram := rfl
@[simp] theorem State.setAdc_shadow (s : State) (d : Nat) (x : Adc) :
    (s.setAdc d x).shadow = s.shadow := rfl
@[simp] theorem State.setAdc_freeze (s : State) (d : Nat) (x : Adc) :
    (s.setAdc d x).freeze = s.freeze := rfl
@[simp] theorem State.setAdc_sparing (s : State) (d : Nat) (x : Adc) :
    (s.setAdc d x).sparing = s.sparing := rfl
@[simp] theorem State.setAdc_bat (s : State) (d : Nat) (x : Adc) :
    (s.setAdc d x).bat = s.bat := rfl
@[simp] theorem State.setAdc_clocks (s : State) (d : Nat) (x : Adc) :
    (s.setAdc d x).clocks = s.clocks := rfl
@[simp] theorem State.setAdc_mgmt (s : State) (d : Nat) (x : Adc) :
    (s.setAdc d x).mgmt = s.mgmt := rfl
@[simp] theorem State.setAdc_bus (s : State) (d : Nat) (x : Adc) :
    (s.setAdc d x).bus = s.bus := rfl
@[simp] theorem State.setAdc_wire (s : State) (d : Nat) (x : Adc) :
    (s.setAdc d x).wire = s.wire := rfl
@[simp] theorem State.setAdc_fw (s : State) (d : Nat) (x : Adc) :
    (s.setAdc d x).fw = s.fw := rfl
@[simp] theorem State.setAdc_recs (s : State) (d : Nat) (x : Adc) :
    (s.setAdc d x).recs = s.recs := rfl
@[simp] theorem State.setAdc_regs (s : State) (d : Nat) (x : Adc) :
    (s.setAdc d x).regs = s.regs := rfl
@[simp] theorem State.setAdc_doms (s : State) (d : Nat) (x : Adc) :
    (s.setAdc d x).doms = s.doms := rfl
@[simp] theorem State.setAdc_usedW1 (s : State) (d : Nat) (x : Adc) :
    (s.setAdc d x).usedW1 = s.usedW1 := rfl
@[simp] theorem State.setAdc_out (s : State) (d : Nat) (x : Adc) :
    (s.setAdc d x).out = s.out := rfl
@[simp] theorem State.setAdc_freeCount (s : State) (d : Nat) (x : Adc) :
    (s.setAdc d x).freeCount = s.freeCount := rfl
@[simp] theorem State.setAdc_pending (s : State) (d : Nat) (x : Adc) :
    (s.setAdc d x).pending = s.pending := rfl

@[simp] theorem State.setClk_build (s : State) (d : Nat) (x : Clocks) :
    (s.setClk d x).build = s.build := rfl
@[simp] theorem State.setClk_aon (s : State) (d : Nat) (x : Clocks) :
    (s.setClk d x).aon = s.aon := rfl
@[simp] theorem State.setClk_seq (s : State) (d : Nat) (x : Clocks) :
    (s.setClk d x).seq = s.seq := rfl
@[simp] theorem State.setClk_hosts (s : State) (d : Nat) (x : Clocks) :
    (s.setClk d x).hosts = s.hosts := rfl
@[simp] theorem State.setClk_ten (s : State) (d : Nat) (x : Clocks) :
    (s.setClk d x).ten = s.ten := rfl
@[simp] theorem State.setClk_dram (s : State) (d : Nat) (x : Clocks) :
    (s.setClk d x).dram = s.dram := rfl
@[simp] theorem State.setClk_shadow (s : State) (d : Nat) (x : Clocks) :
    (s.setClk d x).shadow = s.shadow := rfl
@[simp] theorem State.setClk_freeze (s : State) (d : Nat) (x : Clocks) :
    (s.setClk d x).freeze = s.freeze := rfl
@[simp] theorem State.setClk_sparing (s : State) (d : Nat) (x : Clocks) :
    (s.setClk d x).sparing = s.sparing := rfl
@[simp] theorem State.setClk_bat (s : State) (d : Nat) (x : Clocks) :
    (s.setClk d x).bat = s.bat := rfl
@[simp] theorem State.setClk_adc (s : State) (d : Nat) (x : Clocks) :
    (s.setClk d x).adc = s.adc := rfl
@[simp] theorem State.setClk_mgmt (s : State) (d : Nat) (x : Clocks) :
    (s.setClk d x).mgmt = s.mgmt := rfl
@[simp] theorem State.setClk_bus (s : State) (d : Nat) (x : Clocks) :
    (s.setClk d x).bus = s.bus := rfl
@[simp] theorem State.setClk_wire (s : State) (d : Nat) (x : Clocks) :
    (s.setClk d x).wire = s.wire := rfl
@[simp] theorem State.setClk_fw (s : State) (d : Nat) (x : Clocks) :
    (s.setClk d x).fw = s.fw := rfl
@[simp] theorem State.setClk_recs (s : State) (d : Nat) (x : Clocks) :
    (s.setClk d x).recs = s.recs := rfl
@[simp] theorem State.setClk_regs (s : State) (d : Nat) (x : Clocks) :
    (s.setClk d x).regs = s.regs := rfl
@[simp] theorem State.setClk_doms (s : State) (d : Nat) (x : Clocks) :
    (s.setClk d x).doms = s.doms := rfl
@[simp] theorem State.setClk_usedW1 (s : State) (d : Nat) (x : Clocks) :
    (s.setClk d x).usedW1 = s.usedW1 := rfl
@[simp] theorem State.setClk_out (s : State) (d : Nat) (x : Clocks) :
    (s.setClk d x).out = s.out := rfl
@[simp] theorem State.setClk_freeCount (s : State) (d : Nat) (x : Clocks) :
    (s.setClk d x).freeCount = s.freeCount := rfl
@[simp] theorem State.setClk_pending (s : State) (d : Nat) (x : Clocks) :
    (s.setClk d x).pending = s.pending := rfl

@[simp] theorem State.setSession_build (s : State) (k : Nat) (x : Session) :
    (s.setSession k x).build = s.build := rfl
@[simp] theorem State.setSession_aon (s : State) (k : Nat) (x : Session) :
    (s.setSession k x).aon = s.aon := rfl
@[simp] theorem State.setSession_seq (s : State) (k : Nat) (x : Session) :
    (s.setSession k x).seq = s.seq := rfl
@[simp] theorem State.setSession_hosts (s : State) (k : Nat) (x : Session) :
    (s.setSession k x).hosts = s.hosts := rfl
@[simp] theorem State.setSession_ten (s : State) (k : Nat) (x : Session) :
    (s.setSession k x).ten = s.ten := rfl
@[simp] theorem State.setSession_dram (s : State) (k : Nat) (x : Session) :
    (s.setSession k x).dram = s.dram := rfl
@[simp] theorem State.setSession_shadow (s : State) (k : Nat) (x : Session) :
    (s.setSession k x).shadow = s.shadow := rfl
@[simp] theorem State.setSession_freeze (s : State) (k : Nat) (x : Session) :
    (s.setSession k x).freeze = s.freeze := rfl
@[simp] theorem State.setSession_sparing (s : State) (k : Nat) (x : Session) :
    (s.setSession k x).sparing = s.sparing := rfl
@[simp] theorem State.setSession_bat (s : State) (k : Nat) (x : Session) :
    (s.setSession k x).bat = s.bat := rfl
@[simp] theorem State.setSession_adc (s : State) (k : Nat) (x : Session) :
    (s.setSession k x).adc = s.adc := rfl
@[simp] theorem State.setSession_clocks (s : State) (k : Nat) (x : Session) :
    (s.setSession k x).clocks = s.clocks := rfl
@[simp] theorem State.setSession_mgmt (s : State) (k : Nat) (x : Session) :
    (s.setSession k x).mgmt = s.mgmt := rfl
@[simp] theorem State.setSession_wire (s : State) (k : Nat) (x : Session) :
    (s.setSession k x).wire = s.wire := rfl
@[simp] theorem State.setSession_fw (s : State) (k : Nat) (x : Session) :
    (s.setSession k x).fw = s.fw := rfl
@[simp] theorem State.setSession_recs (s : State) (k : Nat) (x : Session) :
    (s.setSession k x).recs = s.recs := rfl
@[simp] theorem State.setSession_regs (s : State) (k : Nat) (x : Session) :
    (s.setSession k x).regs = s.regs := rfl
@[simp] theorem State.setSession_doms (s : State) (k : Nat) (x : Session) :
    (s.setSession k x).doms = s.doms := rfl
@[simp] theorem State.setSession_usedW1 (s : State) (k : Nat) (x : Session) :
    (s.setSession k x).usedW1 = s.usedW1 := rfl
@[simp] theorem State.setSession_out (s : State) (k : Nat) (x : Session) :
    (s.setSession k x).out = s.out := rfl
@[simp] theorem State.setSession_freeCount (s : State) (k : Nat) (x : Session) :
    (s.setSession k x).freeCount = s.freeCount := rfl
@[simp] theorem State.setSession_pending (s : State) (k : Nat) (x : Session) :
    (s.setSession k x).pending = s.pending := rfl

@[simp] theorem State.setRecorder_build (s : State) (d : Nat) (x : Recorder) :
    (s.setRecorder d x).build = s.build := rfl
@[simp] theorem State.setRecorder_aon (s : State) (d : Nat) (x : Recorder) :
    (s.setRecorder d x).aon = s.aon := rfl
@[simp] theorem State.setRecorder_seq (s : State) (d : Nat) (x : Recorder) :
    (s.setRecorder d x).seq = s.seq := rfl
@[simp] theorem State.setRecorder_hosts (s : State) (d : Nat) (x : Recorder) :
    (s.setRecorder d x).hosts = s.hosts := rfl
@[simp] theorem State.setRecorder_ten (s : State) (d : Nat) (x : Recorder) :
    (s.setRecorder d x).ten = s.ten := rfl
@[simp] theorem State.setRecorder_dram (s : State) (d : Nat) (x : Recorder) :
    (s.setRecorder d x).dram = s.dram := rfl
@[simp] theorem State.setRecorder_shadow (s : State) (d : Nat) (x : Recorder) :
    (s.setRecorder d x).shadow = s.shadow := rfl
@[simp] theorem State.setRecorder_freeze (s : State) (d : Nat) (x : Recorder) :
    (s.setRecorder d x).freeze = s.freeze := rfl
@[simp] theorem State.setRecorder_sparing (s : State) (d : Nat) (x : Recorder) :
    (s.setRecorder d x).sparing = s.sparing := rfl
@[simp] theorem State.setRecorder_bat (s : State) (d : Nat) (x : Recorder) :
    (s.setRecorder d x).bat = s.bat := rfl
@[simp] theorem State.setRecorder_adc (s : State) (d : Nat) (x : Recorder) :
    (s.setRecorder d x).adc = s.adc := rfl
@[simp] theorem State.setRecorder_clocks (s : State) (d : Nat) (x : Recorder) :
    (s.setRecorder d x).clocks = s.clocks := rfl
@[simp] theorem State.setRecorder_mgmt (s : State) (d : Nat) (x : Recorder) :
    (s.setRecorder d x).mgmt = s.mgmt := rfl
@[simp] theorem State.setRecorder_bus (s : State) (d : Nat) (x : Recorder) :
    (s.setRecorder d x).bus = s.bus := rfl
@[simp] theorem State.setRecorder_wire (s : State) (d : Nat) (x : Recorder) :
    (s.setRecorder d x).wire = s.wire := rfl
@[simp] theorem State.setRecorder_fw (s : State) (d : Nat) (x : Recorder) :
    (s.setRecorder d x).fw = s.fw := rfl
@[simp] theorem State.setRecorder_regs (s : State) (d : Nat) (x : Recorder) :
    (s.setRecorder d x).regs = s.regs := rfl
@[simp] theorem State.setRecorder_doms (s : State) (d : Nat) (x : Recorder) :
    (s.setRecorder d x).doms = s.doms := rfl
@[simp] theorem State.setRecorder_usedW1 (s : State) (d : Nat) (x : Recorder) :
    (s.setRecorder d x).usedW1 = s.usedW1 := rfl
@[simp] theorem State.setRecorder_out (s : State) (d : Nat) (x : Recorder) :
    (s.setRecorder d x).out = s.out := rfl
@[simp] theorem State.setRecorder_freeCount (s : State) (d : Nat) (x : Recorder) :
    (s.setRecorder d x).freeCount = s.freeCount := rfl
@[simp] theorem State.setRecorder_pending (s : State) (d : Nat) (x : Recorder) :
    (s.setRecorder d x).pending = s.pending := rfl

@[simp] theorem State.emit_out (s : State) (o : Output) :
    (s.emit o).out = s.out ++ [o] := rfl
@[simp] theorem State.fresh_out (s : State) :
    s.fresh.out = [] := rfl
@[simp] theorem State.setReg_regs (s : State) (i k v : Nat) :
    (s.setReg i k v).regs = put (objDefault s.n (okey i k)) s.regs (okey i k) v := rfl
@[simp] theorem State.setDom_doms (s : State) (i k : Nat) (b : Bytes) :
    (s.setDom i k b).doms = put [] s.doms (okey i k) b := rfl
@[simp] theorem State.setAdc_adc (s : State) (d : Nat) (x : Adc) :
    (s.setAdc d x).adc = put noAdc s.adc d x := rfl
@[simp] theorem State.setClk_clocks (s : State) (d : Nat) (x : Clocks) :
    (s.setClk d x).clocks = put noClocks s.clocks d x := rfl
@[simp] theorem State.setRecorder_recs (s : State) (d : Nat) (x : Recorder) :
    (s.setRecorder d x).recs = put noRecorder s.recs d x := rfl

@[simp] theorem State.draw_snd (s : State) :
    s.draw.2 = { s with freeCount := s.freeCount + 1 } := rfl
@[simp] theorem State.n_setReg (s : State) (i k v : Nat) : (s.setReg i k v).n = s.n := rfl
@[simp] theorem State.n_emit (s : State) (o : Output) : (s.emit o).n = s.n := rfl
@[simp] theorem State.n_fresh (s : State) : s.fresh.n = s.n := rfl
@[simp] theorem State.reg_emit (s : State) (o : Output) (i k : Nat) : (s.emit o).reg i k = s.reg i k := rfl
@[simp] theorem State.reg_fresh (s : State) (i k : Nat) : s.fresh.reg i k = s.reg i k := rfl
@[simp] theorem State.reg_setDom (s : State) (i k : Nat) (b : Bytes) (j m : Nat) : (s.setDom i k b).reg j m = s.reg j m := rfl
@[simp] theorem State.reg_setRank (s : State) (r : Nat) (x : Rank) (j m : Nat) : (s.setRank r x).reg j m = s.reg j m := rfl
@[simp] theorem State.reg_setQuad (s : State) (d q : Nat) (x : Quad) (j m : Nat) : (s.setQuad d q x).reg j m = s.reg j m := rfl
@[simp] theorem State.reg_setChan (s : State) (c : Nat) (x : Chan) (j m : Nat) : (s.setChan c x).reg j m = s.reg j m := rfl
@[simp] theorem State.reg_setBank (s : State) (c k b : Nat) (x : Bank) (j m : Nat) : (s.setBank c k b x).reg j m = s.reg j m := rfl
@[simp] theorem State.reg_setLink (s : State) (p l : Nat) (x : HLink) (j m : Nat) : (s.setLink p l x).reg j m = s.reg j m := rfl
@[simp] theorem State.reg_setTen (s : State) (k : Nat) (x : Tenancy) (j m : Nat) : (s.setTen k x).reg j m = s.reg j m := rfl
@[simp] theorem State.reg_setKey (s : State) (k : Nat) (x : KeySlot) (j m : Nat) : (s.setKey k x).reg j m = s.reg j m := rfl
@[simp] theorem State.reg_setDie (s : State) (d : Nat) (x : DieShadow) (j m : Nat) : (s.setDie d x).reg j m = s.reg j m := rfl
@[simp] theorem State.reg_setAdc (s : State) (d : Nat) (x : Adc) (j m : Nat) : (s.setAdc d x).reg j m = s.reg j m := rfl
@[simp] theorem State.reg_setClk (s : State) (d : Nat) (x : Clocks) (j m : Nat) : (s.setClk d x).reg j m = s.reg j m := rfl
@[simp] theorem State.reg_setSession (s : State) (k : Nat) (x : Session) (j m : Nat) : (s.setSession k x).reg j m = s.reg j m := rfl
@[simp] theorem State.reg_setRecorder (s : State) (d : Nat) (x : Recorder) (j m : Nat) : (s.setRecorder d x).reg j m = s.reg j m := rfl

end Sys2Proof.Machine
end

