-- ==== Sys2Proof/Laws/Ops.lean ====
section
/-! SUPPORT. What the shared operations can do: the register file, reports, and the settling at the end
of every command, field by field. -/
namespace Sys2Proof.Machine

/-- Object keys of different objects differ. -/
theorem okey_ne {i k j l : Nat} (hk : k < 256) (hl : l < 256) (h : i ≠ j ∨ k ≠ l) : okey i k ≠ okey j l := by
  unfold okey; omega

/-- A register reads back the value written. -/
theorem State.reg_setReg_same (s : State) (i k v : Nat) : (s.setReg i k v).reg i k = v := by
  unfold State.reg
  rw [State.n_setReg, State.setReg_regs, look_put_same]

/-- A register other than the one written reads as before. -/
theorem State.reg_setReg_ne (s : State) {i k j l : Nat} (v : Nat) (h : okey j l ≠ okey i k) :
    (s.setReg i k v).reg j l = s.reg j l := by
  unfold State.reg
  unfold look
  rw [State.n_setReg, State.setReg_regs, look?_put_ne _ _ v h]

/-- Counting leaves every other register alone. -/
theorem State.reg_inc_ne (s : State) {i k j l : Nat} (h : okey j l ≠ okey i k) :
    (s.inc i k).reg j l = s.reg j l := s.reg_setReg_ne _ h

@[simp] theorem State.stage_build (s : State) (d : Nat) (x : Staged) : (s.stage d x).build = s.build := by
  simp only [State.stage]; repeat' split
  all_goals simp
@[simp] theorem State.stage_aon (s : State) (d : Nat) (x : Staged) : (s.stage d x).aon = s.aon := by
  simp only [State.stage]; repeat' split
  all_goals simp
@[simp] theorem State.stage_seq (s : State) (d : Nat) (x : Staged) : (s.stage d x).seq = s.seq := by
  simp only [State.stage]; repeat' split
  all_goals simp
@[simp] theorem State.stage_hosts (s : State) (d : Nat) (x : Staged) : (s.stage d x).hosts = s.hosts := by
  simp only [State.stage]; repeat' split
  all_goals simp
@[simp] theorem State.stage_ten (s : State) (d : Nat) (x : Staged) : (s.stage d x).ten = s.ten := by
  simp only [State.stage]; repeat' split
  all_goals simp
@[simp] theorem State.stage_dram (s : State) (d : Nat) (x : Staged) : (s.stage d x).dram = s.dram := by
  simp only [State.stage]; repeat' split
  all_goals simp
@[simp] theorem State.stage_shadow (s : State) (d : Nat) (x : Staged) : (s.stage d x).shadow = s.shadow := by
  simp only [State.stage]; repeat' split
  all_goals simp
@[simp] theorem State.stage_freeze (s : State) (d : Nat) (x : Staged) : (s.stage d x).freeze = s.freeze := by
  simp only [State.stage]; repeat' split
  all_goals simp
@[simp] theorem State.stage_sparing (s : State) (d : Nat) (x : Staged) : (s.stage d x).sparing = s.sparing := by
  simp only [State.stage]; repeat' split
  all_goals simp
@[simp] theorem State.stage_bat (s : State) (d : Nat) (x : Staged) : (s.stage d x).bat = s.bat := by
  simp only [State.stage]; repeat' split
  all_goals simp
@[simp] theorem State.stage_adc (s : State) (d : Nat) (x : Staged) : (s.stage d x).adc = s.adc := by
  simp only [State.stage]; repeat' split
  all_goals simp
@[simp] theorem State.stage_clocks (s : State) (d : Nat) (x : Staged) : (s.stage d x).clocks = s.clocks := by
  simp only [State.stage]; repeat' split
  all_goals simp
@[simp] theorem State.stage_mgmt (s : State) (d : Nat) (x : Staged) : (s.stage d x).mgmt = s.mgmt := by
  simp only [State.stage]; repeat' split
  all_goals simp
@[simp] theorem State.stage_bus (s : State) (d : Nat) (x : Staged) : (s.stage d x).bus = s.bus := by
  simp only [State.stage]; repeat' split
  all_goals simp
@[simp] theorem State.stage_wire (s : State) (d : Nat) (x : Staged) : (s.stage d x).wire = s.wire := by
  simp only [State.stage]; repeat' split
  all_goals simp
@[simp] theorem State.stage_fw (s : State) (d : Nat) (x : Staged) : (s.stage d x).fw = s.fw := by
  simp only [State.stage]; repeat' split
  all_goals simp
@[simp] theorem State.stage_doms (s : State) (d : Nat) (x : Staged) : (s.stage d x).doms = s.doms := by
  simp only [State.stage]; repeat' split
  all_goals simp
@[simp] theorem State.stage_usedW1 (s : State) (d : Nat) (x : Staged) : (s.stage d x).usedW1 = s.usedW1 := by
  simp only [State.stage]; repeat' split
  all_goals simp
@[simp] theorem State.stage_out (s : State) (d : Nat) (x : Staged) : (s.stage d x).out = s.out := by
  simp only [State.stage]; repeat' split
  all_goals simp
@[simp] theorem State.stage_freeCount (s : State) (d : Nat) (x : Staged) : (s.stage d x).freeCount = s.freeCount := by
  simp only [State.stage]; repeat' split
  all_goals simp
@[simp] theorem State.stage_pending (s : State) (d : Nat) (x : Staged) : (s.stage d x).pending = s.pending := by
  simp only [State.stage]; repeat' split
  all_goals simp
@[simp] theorem State.report_build (s : State) (d c v w : Nat) (l : List Nat) :
    (s.report d c v w l).build = s.build := State.stage_build ..
@[simp] theorem State.report_aon (s : State) (d c v w : Nat) (l : List Nat) :
    (s.report d c v w l).aon = s.aon := State.stage_aon ..
@[simp] theorem State.report_seq (s : State) (d c v w : Nat) (l : List Nat) :
    (s.report d c v w l).seq = s.seq := State.stage_seq ..
@[simp] theorem State.report_hosts (s : State) (d c v w : Nat) (l : List Nat) :
    (s.report d c v w l).hosts = s.hosts := State.stage_hosts ..
@[simp] theorem State.report_ten (s : State) (d c v w : Nat) (l : List Nat) :
    (s.report d c v w l).ten = s.ten := State.stage_ten ..
@[simp] theorem State.report_dram (s : State) (d c v w : Nat) (l : List Nat) :
    (s.report d c v w l).dram = s.dram := State.stage_dram ..
@[simp] theorem State.report_shadow (s : State) (d c v w : Nat) (l : List Nat) :
    (s.report d c v w l).shadow = s.shadow := State.stage_shadow ..
@[simp] theorem State.report_freeze (s : State) (d c v w : Nat) (l : List Nat) :
    (s.report d c v w l).freeze = s.freeze := State.stage_freeze ..
@[simp] theorem State.report_sparing (s : State) (d c v w : Nat) (l : List Nat) :
    (s.report d c v w l).sparing = s.sparing := State.stage_sparing ..
@[simp] theorem State.report_bat (s : State) (d c v w : Nat) (l : List Nat) :
    (s.report d c v w l).bat = s.bat := State.stage_bat ..
@[simp] theorem State.report_adc (s : State) (d c v w : Nat) (l : List Nat) :
    (s.report d c v w l).adc = s.adc := State.stage_adc ..
@[simp] theorem State.report_clocks (s : State) (d c v w : Nat) (l : List Nat) :
    (s.report d c v w l).clocks = s.clocks := State.stage_clocks ..
@[simp] theorem State.report_mgmt (s : State) (d c v w : Nat) (l : List Nat) :
    (s.report d c v w l).mgmt = s.mgmt := State.stage_mgmt ..
@[simp] theorem State.report_bus (s : State) (d c v w : Nat) (l : List Nat) :
    (s.report d c v w l).bus = s.bus := State.stage_bus ..
@[simp] theorem State.report_wire (s : State) (d c v w : Nat) (l : List Nat) :
    (s.report d c v w l).wire = s.wire := State.stage_wire ..
@[simp] theorem State.report_fw (s : State) (d c v w : Nat) (l : List Nat) :
    (s.report d c v w l).fw = s.fw := State.stage_fw ..
@[simp] theorem State.report_doms (s : State) (d c v w : Nat) (l : List Nat) :
    (s.report d c v w l).doms = s.doms := State.stage_doms ..
@[simp] theorem State.report_usedW1 (s : State) (d c v w : Nat) (l : List Nat) :
    (s.report d c v w l).usedW1 = s.usedW1 := State.stage_usedW1 ..
@[simp] theorem State.report_out (s : State) (d c v w : Nat) (l : List Nat) :
    (s.report d c v w l).out = s.out := State.stage_out ..
@[simp] theorem State.report_freeCount (s : State) (d c v w : Nat) (l : List Nat) :
    (s.report d c v w l).freeCount = s.freeCount := State.stage_freeCount ..
@[simp] theorem State.report_pending (s : State) (d c v w : Nat) (l : List Nat) :
    (s.report d c v w l).pending = s.pending := State.stage_pending ..

/-- A report changes no register but the two counters of its die's recorder. -/
theorem State.reg_stage (s : State) (d : Nat) (x : Staged) {j l : Nat}
    (h4 : okey j l ≠ okey (0x1210 + d) 4) (h5 : okey j l ≠ okey (0x1210 + d) 5) :
    (s.stage d x).reg j l = s.reg j l := by
  simp only [State.stage]; repeat' split
  all_goals first
    | rw [State.reg_setRecorder]
    | rw [State.reg_inc_ne _ h5, State.reg_setRecorder]
    | rw [State.reg_inc_ne _ h4, State.reg_setRecorder]
    | rfl

theorem State.reg_report (s : State) (d c v w : Nat) (a : List Nat) {j l : Nat}
    (h4 : okey j l ≠ okey (0x1210 + d) 4) (h5 : okey j l ≠ okey (0x1210 + d) 5) :
    (s.report d c v w a).reg j l = s.reg j l := State.reg_stage _ _ _ h4 h5

@[simp] theorem settleArm_build (s : State) : (settleArm s).build = s.build := by
  unfold settleArm; split <;> simp
@[simp] theorem settleShares_build (s : State) : (settleShares s).build = s.build := by
  unfold settleShares; repeat' split
  all_goals simp
@[simp] theorem settleArm_aon (s : State) : (settleArm s).aon = s.aon := by
  unfold settleArm; split <;> simp
@[simp] theorem settleShares_aon (s : State) : (settleShares s).aon = s.aon := by
  unfold settleShares; repeat' split
  all_goals simp
@[simp] theorem settleArm_seq (s : State) : (settleArm s).seq = s.seq := by
  unfold settleArm; split <;> simp
@[simp] theorem settleShares_seq (s : State) : (settleShares s).seq = s.seq := by
  unfold settleShares; repeat' split
  all_goals simp
@[simp] theorem settleArm_ten (s : State) : (settleArm s).ten = s.ten := by
  unfold settleArm; split <;> simp
@[simp] theorem settleShares_ten (s : State) : (settleShares s).ten = s.ten := by
  unfold settleShares; repeat' split
  all_goals simp
@[simp] theorem settleArm_dram (s : State) : (settleArm s).dram = s.dram := by
  unfold settleArm; split <;> simp
@[simp] theorem settleShares_dram (s : State) : (settleShares s).dram = s.dram := by
  unfold settleShares; repeat' split
  all_goals simp
@[simp] theorem settleArm_freeze (s : State) : (settleArm s).freeze = s.freeze := by
  unfold settleArm; split <;> simp
@[simp] theorem settleShares_freeze (s : State) : (settleShares s).freeze = s.freeze := by
  unfold settleShares; repeat' split
  all_goals simp
@[simp] theorem settleArm_sparing (s : State) : (settleArm s).sparing = s.sparing := by
  unfold settleArm; split <;> simp
@[simp] theorem settleShares_sparing (s : State) : (settleShares s).sparing = s.sparing := by
  unfold settleShares; repeat' split
  all_goals simp
@[simp] theorem settleArm_adc (s : State) : (settleArm s).adc = s.adc := by
  unfold settleArm; split <;> simp
@[simp] theorem settleShares_adc (s : State) : (settleShares s).adc = s.adc := by
  unfold settleShares; repeat' split
  all_goals simp
@[simp] theorem settleArm_clocks (s : State) : (settleArm s).clocks = s.clocks := by
  unfold settleArm; split <;> simp
@[simp] theorem settleShares_clocks (s : State) : (settleShares s).clocks = s.clocks := by
  unfold settleShares; repeat' split
  all_goals simp
@[simp] theorem settleArm_mgmt (s : State) : (settleArm s).mgmt = s.mgmt := by
  unfold settleArm; split <;> simp
@[simp] theorem settleShares_mgmt (s : State) : (settleShares s).mgmt = s.mgmt := by
  unfold settleShares; repeat' split
  all_goals simp
@[simp] theorem settleArm_bus (s : State) : (settleArm s).bus = s.bus := by
  unfold settleArm; split <;> simp
@[simp] theorem settleShares_bus (s : State) : (settleShares s).bus = s.bus := by
  unfold settleShares; repeat' split
  all_goals simp
@[simp] theorem settleArm_wire (s : State) : (settleArm s).wire = s.wire := by
  unfold settleArm; split <;> simp
@[simp] theorem settleShares_wire (s : State) : (settleShares s).wire = s.wire := by
  unfold settleShares; repeat' split
  all_goals simp
@[simp] theorem settleArm_fw (s : State) : (settleArm s).fw = s.fw := by
  unfold settleArm; split <;> simp
@[simp] theorem settleShares_fw (s : State) : (settleShares s).fw = s.fw := by
  unfold settleShares; repeat' split
  all_goals simp
@[simp] theorem settleArm_doms (s : State) : (settleArm s).doms = s.doms := by
  unfold settleArm; split <;> simp
@[simp] theorem settleShares_doms (s : State) : (settleShares s).doms = s.doms := by
  unfold settleShares; repeat' split
  all_goals simp
@[simp] theorem settleArm_usedW1 (s : State) : (settleArm s).usedW1 = s.usedW1 := by
  unfold settleArm; split <;> simp
@[simp] theorem settleShares_usedW1 (s : State) : (settleShares s).usedW1 = s.usedW1 := by
  unfold settleShares; repeat' split
  all_goals simp
@[simp] theorem settleArm_out (s : State) : (settleArm s).out = s.out := by
  unfold settleArm; split <;> simp
@[simp] theorem settleShares_out (s : State) : (settleShares s).out = s.out := by
  unfold settleShares; repeat' split
  all_goals simp
@[simp] theorem settleArm_freeCount (s : State) : (settleArm s).freeCount = s.freeCount := by
  unfold settleArm; split <;> simp
@[simp] theorem settleShares_freeCount (s : State) : (settleShares s).freeCount = s.freeCount := by
  unfold settleShares; repeat' split
  all_goals simp
@[simp] theorem settleArm_pending (s : State) : (settleArm s).pending = s.pending := by
  unfold settleArm; split <;> simp
@[simp] theorem settleShares_pending (s : State) : (settleShares s).pending = s.pending := by
  unfold settleShares; repeat' split
  all_goals simp
@[simp] theorem settleArm_hosts (s : State) : (settleArm s).hosts = s.hosts := by
  unfold settleArm; split <;> simp
@[simp] theorem settleShares_hosts (s : State) : (settleShares s).hosts = s.hosts := by
  unfold settleShares; repeat' split
  all_goals simp
@[simp] theorem settleArm_bat (s : State) : (settleArm s).bat = s.bat := by
  unfold settleArm; split <;> simp
@[simp] theorem settleShares_bat (s : State) : (settleShares s).bat = s.bat := by
  unfold settleShares; repeat' split
  all_goals simp
@[simp] theorem settleHealth_build (s : State) : (settleHealth s).build = s.build := by
  unfold settleHealth; dsimp only; split <;> simp
@[simp] theorem settleHealth_aon (s : State) : (settleHealth s).aon = s.aon := by
  unfold settleHealth; dsimp only; split <;> simp
@[simp] theorem settleHealth_seq (s : State) : (settleHealth s).seq = s.seq := by
  unfold settleHealth; dsimp only; split <;> simp
@[simp] theorem settleHealth_ten (s : State) : (settleHealth s).ten = s.ten := by
  unfold settleHealth; dsimp only; split <;> simp
@[simp] theorem settleHealth_dram (s : State) : (settleHealth s).dram = s.dram := by
  unfold settleHealth; dsimp only; split <;> simp
@[simp] theorem settleHealth_freeze (s : State) : (settleHealth s).freeze = s.freeze := by
  unfold settleHealth; dsimp only; split <;> simp
@[simp] theorem settleHealth_sparing (s : State) : (settleHealth s).sparing = s.sparing := by
  unfold settleHealth; dsimp only; split <;> simp
@[simp] theorem settleHealth_adc (s : State) : (settleHealth s).adc = s.adc := by
  unfold settleHealth; dsimp only; split <;> simp
@[simp] theorem settleHealth_clocks (s : State) : (settleHealth s).clocks = s.clocks := by
  unfold settleHealth; dsimp only; split <;> simp
@[simp] theorem settleHealth_mgmt (s : State) : (settleHealth s).mgmt = s.mgmt := by
  unfold settleHealth; dsimp only; split <;> simp
@[simp] theorem settleHealth_bus (s : State) : (settleHealth s).bus = s.bus := by
  unfold settleHealth; dsimp only; split <;> simp
@[simp] theorem settleHealth_wire (s : State) : (settleHealth s).wire = s.wire := by
  unfold settleHealth; dsimp only; split <;> simp
@[simp] theorem settleHealth_fw (s : State) : (settleHealth s).fw = s.fw := by
  unfold settleHealth; dsimp only; split <;> simp
@[simp] theorem settleHealth_doms (s : State) : (settleHealth s).doms = s.doms := by
  unfold settleHealth; dsimp only; split <;> simp
@[simp] theorem settleHealth_usedW1 (s : State) : (settleHealth s).usedW1 = s.usedW1 := by
  unfold settleHealth; dsimp only; split <;> simp
@[simp] theorem settleHealth_out (s : State) : (settleHealth s).out = s.out := by
  unfold settleHealth; dsimp only; split <;> simp
@[simp] theorem settleHealth_freeCount (s : State) : (settleHealth s).freeCount = s.freeCount := by
  unfold settleHealth; dsimp only; split <;> simp
@[simp] theorem settleHealth_pending (s : State) : (settleHealth s).pending = s.pending := by
  unfold settleHealth; dsimp only; split <;> simp
@[simp] theorem settleHealth_bat (s : State) : (settleHealth s).bat = s.bat := by
  unfold settleHealth; dsimp only; split <;> simp
@[simp] theorem settleHealth_shadow (s : State) : (settleHealth s).shadow = s.shadow := by
  unfold settleHealth; dsimp only; split <;> simp
@[simp] theorem settlePins_build (s : State) : (settlePins s).build = s.build := rfl
@[simp] theorem settlePins_aon (s : State) : (settlePins s).aon = s.aon := rfl
@[simp] theorem settlePins_seq (s : State) : (settlePins s).seq = s.seq := rfl
@[simp] theorem settlePins_ten (s : State) : (settlePins s).ten = s.ten := rfl
@[simp] theorem settlePins_dram (s : State) : (settlePins s).dram = s.dram := rfl
@[simp] theorem settlePins_freeze (s : State) : (settlePins s).freeze = s.freeze := rfl
@[simp] theorem settlePins_sparing (s : State) : (settlePins s).sparing = s.sparing := rfl
@[simp] theorem settlePins_adc (s : State) : (settlePins s).adc = s.adc := rfl
@[simp] theorem settlePins_clocks (s : State) : (settlePins s).clocks = s.clocks := rfl
@[simp] theorem settlePins_mgmt (s : State) : (settlePins s).mgmt = s.mgmt := rfl
@[simp] theorem settlePins_bus (s : State) : (settlePins s).bus = s.bus := rfl
@[simp] theorem settlePins_wire (s : State) : (settlePins s).wire = s.wire := rfl
@[simp] theorem settlePins_fw (s : State) : (settlePins s).fw = s.fw := rfl
@[simp] theorem settlePins_doms (s : State) : (settlePins s).doms = s.doms := rfl
@[simp] theorem settlePins_usedW1 (s : State) : (settlePins s).usedW1 = s.usedW1 := rfl
@[simp] theorem settlePins_out (s : State) : (settlePins s).out = s.out := rfl
@[simp] theorem settlePins_freeCount (s : State) : (settlePins s).freeCount = s.freeCount := rfl
@[simp] theorem settlePins_pending (s : State) : (settlePins s).pending = s.pending := rfl
@[simp] theorem settlePins_hosts (s : State) : (settlePins s).hosts = s.hosts := rfl
@[simp] theorem settlePins_shadow (s : State) : (settlePins s).shadow = s.shadow := rfl
@[simp] theorem settlePins_recs (s : State) : (settlePins s).recs = s.recs := rfl
@[simp] theorem settlePins_regs (s : State) : (settlePins s).regs = s.regs := rfl
@[simp] theorem settle_build (s : State) : (settle s).build = s.build := by simp [settle]
@[simp] theorem settle_aon (s : State) : (settle s).aon = s.aon := by simp [settle]
@[simp] theorem settle_seq (s : State) : (settle s).seq = s.seq := by simp [settle]
@[simp] theorem settle_ten (s : State) : (settle s).ten = s.ten := by simp [settle]
@[simp] theorem settle_dram (s : State) : (settle s).dram = s.dram := by simp [settle]
@[simp] theorem settle_freeze (s : State) : (settle s).freeze = s.freeze := by simp [settle]
@[simp] theorem settle_sparing (s : State) : (settle s).sparing = s.sparing := by simp [settle]
@[simp] theorem settle_adc (s : State) : (settle s).adc = s.adc := by simp [settle]
@[simp] theorem settle_clocks (s : State) : (settle s).clocks = s.clocks := by simp [settle]
@[simp] theorem settle_mgmt (s : State) : (settle s).mgmt = s.mgmt := by simp [settle]
@[simp] theorem settle_bus (s : State) : (settle s).bus = s.bus := by simp [settle]
@[simp] theorem settle_wire (s : State) : (settle s).wire = s.wire := by simp [settle]
@[simp] theorem settle_fw (s : State) : (settle s).fw = s.fw := by simp [settle]
@[simp] theorem settle_doms (s : State) : (settle s).doms = s.doms := by simp [settle]
@[simp] theorem settle_usedW1 (s : State) : (settle s).usedW1 = s.usedW1 := by simp [settle]
@[simp] theorem settle_out (s : State) : (settle s).out = s.out := by simp [settle]
@[simp] theorem settle_freeCount (s : State) : (settle s).freeCount = s.freeCount := by simp [settle]
@[simp] theorem settle_pending (s : State) : (settle s).pending = s.pending := by simp [settle]

/-- Settling changes two fields of the shadowing state at most. -/
theorem settle_shadow (s : State) :
    (settle s).shadow = { s.shadow with
      armed := (settle s).shadow.armed, scaled := (settle s).shadow.scaled } := by
  simp only [settle, settlePins_shadow, settleHealth_shadow, settleShares, settleArm]
  repeat' split
  all_goals simp

/-- Settling changes two fields of the hosts at most. -/
theorem settle_hosts (s : State) :
    (settle s).hosts = { s.hosts with
      maintenance := (settle s).hosts.maintenance, degraded := (settle s).hosts.degraded } := by
  simp only [settle, settlePins_hosts, settleHealth]
  split <;> simp

/-- Settling changes three pins of the battery at most. -/
theorem settle_bat (s : State) :
    (settle s).bat = { s.bat with
      chgEn := (settle s).bat.chgEn, learnPwm := (settle s).bat.learnPwm
      chgHeld := (settle s).bat.chgHeld } := by
  simp [settle, settlePins]

/-- Settling changes no register but the two counters of die 0's recorder. -/
theorem reg_settle (s : State) {j l : Nat} (h4 : okey j l ≠ okey 0x1210 4) (h5 : okey j l ≠ okey 0x1210 5) :
    (settle s).reg j l = s.reg j l := by
  have ha : (settleArm s).reg j l = s.reg j l := by
    unfold settleArm; split
    · exact State.reg_report _ _ _ _ _ _ h4 h5
    · rfl
  have hb (t : State) : (settleShares t).reg j l = t.reg j l := by
    unfold settleShares; repeat' split
    · rfl
    · exact State.reg_report _ _ _ _ _ _ h4 h5
    · rfl
  have hc (t : State) : (settleHealth t).reg j l = t.reg j l := by
    unfold settleHealth; dsimp only; split
    · rfl
    · exact State.reg_report _ _ _ _ _ _ h4 h5
  show (settleHealth (settleShares (settleArm s))).reg j l = _
  rw [hc, hb, ha]

/-- A meaning runs its effect on a clean output and settles, while the AON supply is on. -/
theorem act_on (f : State → State) {s : State} (h : s.aon.on = true) :
    act f s = .next (settle (f s.fresh)) := by simp [act, h]

/-- Without the AON supply a meaning only clears the output. -/
theorem act_off (f : State → State) {s : State} (h : s.aon.on = false) : act f s = .next s.fresh := by
  simp [act, h]

/-- Every meaning answers a next state. -/
theorem act_next (f : State → State) (s : State) : ∃ t, act f s = .next t := ⟨_, rfl⟩

/-- What is taken of a response's identifier is what went into it (15 R351, Table 15.5). -/
theorem headOf_ident (f : TxFrame) (hp : f.prio < 8) (hs : f.src < 128) (ht : f.tag < 256) :
    headOf f.ident = { prio := f.prio, src := f.src, tag := f.tag } := by
  have skip : ∀ {v w : Nat} (a : BitVec v) (b : BitVec w) (i n : Nat),
      (a ++ b).extractLsb' (w + i) n = a.extractLsb' i n := by
    intro v w a b i n
    rw [BitVec.extractLsb'_append_eq_ite, dif_neg (by omega), Nat.add_sub_cancel_left]
  have h1 : (f.ident.extractLsb' 0 8) = BitVec.ofNat 8 f.tag := BitVec.extractLsb'_append_eq_right
  have h2 : (f.ident.extractLsb' 8 7) = BitVec.ofNat 7 f.src :=
    (skip (w := 8) _ _ 0 7).trans BitVec.extractLsb'_append_eq_right
  have h3 : (f.ident.extractLsb' 26 3) = BitVec.ofNat 3 f.prio :=
    (skip (w := 8) _ _ 18 3).trans <| (skip (w := 7) _ _ 11 3).trans <| (skip (w := 7) _ _ 4 3).trans <|
      (skip (w := 4) _ _ 0 3).trans BitVec.extractLsb'_eq_self
  simp [headOf, h1, h2, h3, Nat.mod_eq_of_lt hp, Nat.mod_eq_of_lt hs, Nat.mod_eq_of_lt ht]

end Sys2Proof.Machine
end

