-- ==== Sys2Proof/Laws/Frame.lean ====
section
/-! SUPPORT. How frames are shown: settling keeps every part, frames compose, and a report keeps every
part. -/
namespace Sys2Proof.Machine

open Sys2Proof.Safety

theorem recorder_put_ne {s : State} {d e : Nat} (r : Recorder) (h : e ≠ d) :
    (s.setRecorder d r).recorder e = s.recorder e := look_put_ne _ _ _ h

theorem recorder_put_same {s : State} {d : Nat} (r : Recorder) : (s.setRecorder d r).recorder d = r :=
  look_put_same _ _ _ _

@[simp] theorem State.recorder_inc (s : State) (i k d : Nat) : (s.inc i k).recorder d = s.recorder d := rfl

/-- A report leaves the words of every ring. -/
theorem State.stage_ring (s : State) (d : Nat) (x : Staged) (e : Nat) :
    ((s.stage d x).recorder e).ring = (s.recorder e).ring := by
  have key (r : Recorder) (hr : r.ring = (s.recorder d).ring) :
      ((s.setRecorder d r).recorder e).ring = (s.recorder e).ring := by
    by_cases h : e = d
    · subst h; rw [recorder_put_same, hr]
    · rw [recorder_put_ne _ h]
  simp only [State.stage]
  repeat' split
  all_goals first
    | rfl
    | exact key _ rfl

theorem State.report_ring (s : State) (d c v w : Nat) (a : List Nat) (e : Nat) :
    ((s.report d c v w a).recorder e).ring = (s.recorder e).ring := State.stage_ring _ _ _ _

theorem settle_ring (s : State) (e : Nat) : ((settle s).recorder e).ring = (s.recorder e).ring := by
  have ha : ((settleArm s).recorder e).ring = (s.recorder e).ring := by
    unfold settleArm; split
    · exact State.report_ring ..
    · rfl
  have hb (t : State) : ((settleShares t).recorder e).ring = (t.recorder e).ring := by
    unfold settleShares; repeat' split
    · rfl
    · exact State.report_ring ..
    · rfl
  have hc (t : State) : ((settleHealth t).recorder e).ring = (t.recorder e).ring := by
    unfold settleHealth; dsimp only; split
    · rfl
    · exact State.report_ring ..
  show ((settleHealth (settleShares (settleArm s))).recorder e).ring = _
  rw [hc, hb, ha]

/-- Register keys that are no staging counter of die 0. -/
theorem stagingCount_ne {idx sub d k : Nat} (hs : sub < 256) (h : ¬ stagingCount idx sub) (hd : d < 8)
    (hk : k = 4 ∨ k = 5) : okey idx sub ≠ okey (0x1210 + d) k := by
  intro he; unfold okey at he
  apply h; unfold stagingCount; omega

/-- A part that a settled state keeps of s: `out` aside, what the unsettled one keeps. -/
theorem unchanged_settle {s t : State} {p : Part} (h : unchanged s t p) : unchanged s (settle t) p := by
  cases p <;> simp only [unchanged, settle_build, settle_aon, settle_seq, settle_ten, settle_dram,
    settle_freeze, settle_sparing, settle_adc, settle_clocks, settle_mgmt, settle_bus, settle_wire, settle_fw,
    settle_doms, settle_usedW1, settle_out, settle_freeCount, settle_pending] at h ⊢ <;> try exact h
  · rw [settle_hosts]; simpa using h
  · rw [settle_shadow]; simpa using h
  · rw [settle_bat]; simpa using h
  · intro d; rw [settle_ring]; exact h d
  · intro i k hk hn
    rw [reg_settle _ (stagingCount_ne hk hn (d := 0) (by omega) (.inl rfl))
      (stagingCount_ne hk hn (d := 0) (by omega) (.inr rfl))]
    exact h i k hk hn

/-- Frames of an effect are frames of the settled effect. -/
theorem Keeps.settle {s t : State} {l : List Part} (h : Keeps s t l) : Keeps s (settle t) l :=
  fun p hp => unchanged_settle (h p hp)

/-- The clean output on which an effect runs. -/
theorem Keeps.fresh (s : State) (l : List Part) : Keeps s s.fresh l := by
  intro p _; cases p <;> simp [unchanged, State.fresh, State.recorder, State.reg, State.n]

/-- A report keeps every part. -/
theorem unchanged_report {s t : State} {p : Part} (h : unchanged s t p) {d : Nat} (hd : d < 8)
    (c v w : Nat) (a : List Nat) : unchanged s (t.report d c v w a) p := by
  cases p <;> simp only [unchanged, State.report_build, State.report_aon, State.report_seq, State.report_ten,
    State.report_dram, State.report_freeze, State.report_sparing, State.report_adc, State.report_clocks,
    State.report_mgmt, State.report_bus, State.report_wire, State.report_fw, State.report_doms,
    State.report_usedW1, State.report_out, State.report_freeCount, State.report_pending,
    State.report_hosts, State.report_shadow, State.report_bat] at h ⊢ <;> try exact h
  · intro e; rw [State.report_ring]; exact h e
  · intro i k hk hn
    rw [State.reg_report _ _ _ _ _ _ (stagingCount_ne hk hn hd (.inl rfl))
      (stagingCount_ne hk hn hd (.inr rfl))]
    exact h i k hk hn

/-- A command whose meaning is an effect that gives what is wanted of the settled state. -/
theorem does_of {c : Instr} {s : State} {P : State → Prop} {f : State → State} (hon : s.aon.on = true)
    (hc : exec c s = act f s) (h : P (settle (f s.fresh))) : Does c s P :=
  ⟨_, by rw [hc, act_on f hon], h⟩

end Sys2Proof.Machine
end

