-- ==== Sys2Proof/Tests/Slice0.lean ====
section
/-! SUPPORT. Tests: ill-formed commands that the checks refuse, for every statement a state and operands that meet its
hypotheses, and single commands run on small states. -/
open Sys2Proof Sys2Proof.Machine Sys2Proof.Safety

namespace Sys2Proof.Tests

set_option Elab.async false

/-- The state a command answers. -/
def after (s : State) (c : Instr) : State :=
  match exec c s with
  | .next t => t
  | _ => s

/-- State 12 on the board of reset: rails up, ranks trained, and one host link. -/
def up : State :=
  { State.reset with
    seq := { State.reset.seq with st := 12, locked := [0, 1] }
    mgmt := { State.reset.mgmt with ready := true, watchdogArmed := true }
    bus := { State.reset.bus with st := 1 }
    hosts := { State.reset.hosts with maintenance := true, links := [(0, { noLink with st := 2, speed := 64, width := 16, tokens := 4, ideUp := true })] }
    dram := { State.reset.dram with
      quads := (List.range 8).map fun q => (q, { noQuad with st := 0, rate := 8000, trained := true })
      ranks := (List.range 16).map fun c => (2 * c, { noRank with train := 1, st := 1, trained := true, density := 32, stack := 4 }) }
    freeze := { State.reset.freeze with thaw := 5 }
    fw := { State.reset.fw with booted := some 0 }
    regs := [0x6010, 0x6018, 0x6110, 0x6118].map (fun i => (okey i 1, 1)) ++
      (List.range 48).map fun i => (okey (0x7140 + i) 9, 3) }
def mb : Origin := .mailbox 0 0

/-- A tenancy of the first four drifts, under home key 0. -/
def tenant : Tenancy := { noTen with st := 1, base := 0, limit := 4, mode := 0, rights := 2 }
def withTen (s : State) (x : Tenancy) : State :=
  (s.setTen 0 x).setKey 0 { noKey with st := 2, material := 7, gen := 1, ten := 0 }
def inTen : State := withTen up tenant
def inSt (s : State) (st : Nat) : State := { s with seq := { s.seq with st := st } }

/-- A charged pack behind an armed persistence (11 R272, R273; 07 R179). -/
def armed : State :=
  { inTen with
    bat := { inTen.bat with
      present := true, q := 3000000, fcc := 3000000, anchored := true, counting := true, limit := 10 ^ 12, loadAt := some 0
      timeLost := false, temps := [(0, 250)], chgEn := true }
    hosts := { inTen.hosts with maintenance := false }
    shadow := { inTen.shadow with armed := true, counter := some 1, epoch := 1, sealedAll := some 0 } }

/-- The same with the pool used up by a tenancy without a share (07 R173). -/
def held : State := { armed with shadow := { armed.shadow with lead := [(0, 10 ^ 8)] } }
def rd (id cls : Nat) : Req :=
  { src := .host, id := id, port := 0, link := 0, tag := 3, op := .read, dpa := 0x1000, data := 0, be := 0, cls := cls, ten := 0
    key := ⟨false, 0, 1⟩, born := 0, enter := 0, arr := 0, met := false, promoted := false, silent := false, answered := false, confirmed := false
    locked := false }
def isUp (s : State) (n : Nat) : State := s.setLink 0 0 { s.hlink 0 0 with st := n }

/-! For every statement with hypotheses, a state and operands that meet them, clause by clause. -/
theorem test_meets_StepRunsTheFrontCommand :
    ({ up with pending := [.testReset] } : State).pending = .testReset :: [] := rfl

theorem test_meets_IdleStepTicksTheClock :
    let s := { up with aon := { up.aon with now := 999 } }
    s.pending = [] ∧ s.aon.on = true ∧ s.aon.slewLeft = 0 := by decide +kernel

theorem test_meets_WithoutAonSupplyOnlyThePowerOnActs :
    ({ up with aon := { up.aon with on := false } } : State).aon.on = false ∧ Instr.testReset ≠ .aonPowerOn := by
  decide +kernel

theorem test_meets_the_invariants :
    (ArmedIsBacked armed ∧ ScaledAgrees armed ∧ PinsAgree armed ∧ Settled armed ∧ armed.shadow.armed = true) ∧
      ∃ t, step armed = .next t := by
  refine ⟨?_, _, rfl⟩
  unfold ArmedIsBacked ScaledAgrees PinsAgree Settled
  decide +kernel

/-- The link's decoder 0 maps 256 MiB from 2 ^ 40 on to DPA 0 on. -/
def decoded : State := inTen.setLink 0 0 { inTen.hlink 0 0 with hdm := [(0, 2 ^ 40), (1, 2 ^ 28)] }

theorem test_meets_ReadJoinsItsChannelQueue :
    (TakesRequests inTen 0 0 ∧ inTen.mediaReady = true ∧ Admitted inTen 0 0 0 0 false ∧
      inTen.coverOf (0 / driftBytes) = some 0 ∧ WayOpen inTen 0 0 ∧ (inTen.chan (subOfLine inTen 0)).writes = []) ∧
    Admitted decoded 0 0 (2 ^ 40 + 64) 64 false := by
  unfold TakesRequests WayOpen Admitted
  decide +kernel

theorem test_meets_WriteJoinsItsChannelQueueAndCompletes :
    (TakesRequests inTen 0 0 ∧ inTen.mediaReady = true ∧ Admitted inTen 0 0 0 0 true ∧ inTen.hasCredit 0 .write = true ∧
      inTen.coverOf (0 / driftBytes) = some 0 ∧ WayOpen inTen 0 0 ∧ WritesSettled inTen 0 ∧
      (inTen.chan (subOfLine inTen 0)).writes = [] ∧ inTen.tenHeld 0 = false) ∧
    (let s := { held with shadow := { held.shadow with firn := [(0, fDirty)] } }
     TakesRequests s 0 0 ∧ s.mediaReady = true ∧ Admitted s 0 0 0 0 true ∧ s.hasCredit 0 .write = true ∧
      s.coverOf (0 / driftBytes) = some 0 ∧ WayOpen s 0 0 ∧ WritesSettled s 0 ∧ (s.chan (subOfLine s 0)).writes = [] ∧
      s.tenHeld 0 = true ∧ isSnow (s.firn (flakeOf 0)) = true) ∧
    inTen.waitsBehind 0 = false ∧ inTen.writeThrough = false := by
  unfold TakesRequests WayOpen Admitted WritesSettled
  decide +kernel

theorem test_meets_HeldTenancysWriteWaits :
    TakesRequests held 0 0 ∧ held.mediaReady = true ∧ Admitted held 0 0 0x7FFFC0 0x7FFFC0 true ∧
      held.hasCredit 0 .write = true ∧ held.coverOf (0x7FFFC0 / driftBytes) = some 0 ∧ WayOpen held 0 0x7FFFC0 ∧ held.tenHeld 0 = true ∧
      isSnow (held.firn (flakeOf 0x7FFFC0)) = false ∧
    ({ armed with shadow := { armed.shadow with held := [{ rd 7 2 with op := .write }] } } : State).waitsBehind 0 = true := by
  unfold TakesRequests WayOpen Admitted
  decide +kernel

theorem test_meets_RefusedRequestsAreAnswered :
    (TakesRequests inTen 0 0 ∧ inTen.mediaReady = true ∧ Refused inTen 0 0 0x800000 0x800000 0xFFFF false ∧
      Refused inTen 0 0 0x800000 0x800000 0xFFFF true ∧ inTen.hasCredit 0 .write = true) ∧
    (TakesRequests decoded 0 0 ∧ decoded.mediaReady = true ∧ Refused decoded 0 0 64 64 0xFFFF false) ∧
    (TakesRequests (inSt inTen 11) 0 0 ∧ (inSt inTen 11).mediaReady = false ∧
      (inSt inTen 11).hasCredit 0 .write = true) := by
  unfold TakesRequests Safety.Refused
  decide +kernel

theorem test_meets_LinksTrainAndMeter :
    up.aon.on = true ∧ 0 < 2 * up.n ∧
    ((isUp up 1).linkUsable 0 0 = true ∧ ((isUp up 1).hlink 0 0).st ≤ 1 ∧
      0 < linkSpeed (speedLimit ((isUp up 1).reg (ixPort 0) 2)) 64) ∧
    (up.hlink 0 0).st = 2 ∧ (up.hlink 0 0).ideUp = true := by decide +kernel

theorem test_meets_ResetsClearLinksAndTheirReads :
    up.aon.on = true ∧ 0 < 2 * up.n ∧ up.perst 0 = false ∧ 2 ≤ (up.hlink 0 0).st ∧
    (let s := { up with hosts := { up.hosts with perstLow := 2 } }
     s.perst 1 = true ∧ s.portPowered 1 = true ∧ s.portPads 1 = true ∧ s.dieOut (dieOfPort 1) = false ∧ s.portStopped 1 = false ∧ s.hosts.stopped = false ∧ 8 ≤ s.seq.st ∧
      (s.hlink 1 0).st = 0) := by decide +kernel

theorem test_meets_GpfAndCxlIo :
    let s := { up with
      hosts := { up.hosts with gpf := [⟨0, 0, 5⟩, ⟨0, 0, 9⟩] }
      dram := { up.dram with chans := [(0, { noChan with writes := [{ rd 7 2 with op := .write }] })] } }
    s.aon.on = true ∧ s.hosts.stopped = false ∧ (s.hlink 0 0).st = 2 ∧
    (∃ f ∈ s.hosts.gpf, (∀ q ∈ s.writesUnderWay, f.upTo ≤ q.id) ∧ (∀ e ∈ s.dram.chans, ∀ q ∈ e.2.writes, f.upTo ≤ q.id)) ∧
    (∃ f ∈ s.hosts.gpf, s.flushHeld f = true) ∧
    hdmTakes 2 16 = true ∧ hdmTakes 3 16384 = true ∧ hdmTakes 2 3 = false ∧ hdmTakes 3 128 = false ∧
    ioImplemented (.hdm 3 3) = true ∧ ioImplemented (.msix 15) = true ∧ ioImplemented (.unimplemented 0) = false ∧
    (s.hlink 1 0).st ≠ 2 ∧ ({ s with hosts := { s.hosts with stopped := true } } : State).hosts.stopped = true := by
  decide +kernel
def atLink (l : DieLink) : State :=
  { up with aon := { up.aon with now := 1000000 }, hosts := { up.hosts with dieLinks := [(0, l)] } }

theorem test_meets_DieLinksRetrainAndFail :
    let a := atLink ⟨1, 17, 1, 0, false⟩
    let b := atLink ⟨1, 17, 0, 0, false⟩
    let c := atLink ⟨2, 0, 0, 1, false⟩
    let d := atLink ⟨2, 0, 0, 2, false⟩
    let e := atLink ⟨1, 0, 999999, 0, false⟩
    a.aon.on = true ∧ a.bonded 0 0 = true ∧
    ((a.dieLink 0 0).st = 1 ∧ a.aon.now - (a.dieLink 0 0).since < 1000000 ∧ 0 < (a.dieLink 0 0).replays ∧
      16 < (a.dieLink 0 0).replays) ∧
    (e.bonded 0 0 = true ∧ (e.dieLink 0 0).st = 1 ∧ (e.dieLink 0 0).replays = 0) ∧
    (b.bonded 0 0 = true ∧ (b.dieLink 0 0).st = 1 ∧ 1000000 ≤ b.aon.now - (b.dieLink 0 0).since) ∧
    (c.bonded 0 0 = true ∧ (c.dieLink 0 0).st = 2 ∧ (c.dieLink 0 0).fails < 2 ∧
      ∀ f ∈ c.hosts.flits, f.key ≠ dieLinkKey 0 0) ∧
    (d.bonded 0 0 = true ∧ (d.dieLink 0 0).st = 2 ∧ 2 ≤ (d.dieLink 0 0).fails) ∧
    (∀ h ∈ a.hosts.routeHolds, h.ingress = 0 ∧ h.owner = 1 → h.held = []) := by decide +kernel

theorem test_meets_InformationCommandsAnswer :
    MailboxOpen up 0 0 ∧ up.realm mb = .hostOwner ∧ (131071 + 1 ≤ 131072 ∧ 4096 ≤ 4096) ∧
      (up.poisonEntries.filter fun e => decide (64 * e.line < 64) && decide (0 < 64 * (e.line + e.len))).length ≤ 254 ∧
      0 + 0 ≤ (up.celOf 0 0).length ∧ ((up.hlink 0 0).log 3).recs.length ≤ 31 := by
  unfold MailboxOpen
  refine ⟨by decide +kernel, by decide +kernel, by decide, by decide +kernel, Nat.zero_le _, by decide +kernel⟩

theorem test_meets_TenantRealmGetsUnsupported :
    let s := up.setReg (ixPort 0) 3 0
    MailboxOpen s 0 0 ∧ s.reg (ixPort 0) 3 ≠ 1 ∧ leAt ([1] : Bytes) 0 1 = 1 := by
  unfold MailboxOpen
  decide +kernel

theorem test_meets_SetTimestampYieldsToTimeSync :
    let s := { up with aon := { up.aon with now := 10000000000, rackSyncAt := some 0 } }
    MailboxOpen s 0 0 ∧ s.aon.rackSyncAt = some 0 ∧ s.aon.now - 0 ≤ 10000000000 := by
  unfold MailboxOpen
  decide +kernel
def logged : State := up.setLink 0 0 { up.hlink 0 0 with fatal := { recs := [⟨9, 3, .media, []⟩], overflow := false } }

theorem test_meets_MailboxSettingsAreKept :
    MailboxOpen logged 0 0 ∧ logged.realm mb = .hostOwner ∧ logged.aon.rackSyncAt = none ∧
      (∀ h ∈ [9], ∃ r ∈ ((logged.hlink 0 0).log 3).recs, r.handle = h) ∧
      131072 - 4096 + (List.replicate 4096 (0 : Byte)).length ≤ 131072 := by
  unfold MailboxOpen
  decide +kernel

theorem test_meets_PoisonWritesJoinTheWriteQueue :
    (MailboxOpen up 0 0 ∧ 0 < 2 * up.n ∧ up.realm mb = .hostOwner ∧ up.mayPoison 0 0 = false) ∧
    (let s := { inTen with shadow := { inTen.shadow with firn := [(0, fDirty)] } }.setReg (ixPort 0) 5 1
     MailboxOpen s 0 0 ∧ s.realm mb = .hostOwner ∧ s.mayPoison 0 64 = true ∧ s.mediaReady = true ∧ WayOpen s 0 64 ∧
      WritesSettled s 64 ∧ isSnow (s.firn (flakeOf 64)) = true ∧ (s.chan (subOfLine s 64)).writes = []) := by
  unfold MailboxOpen WayOpen WritesSettled
  decide +kernel

/-- The row of an object. -/
def rowAt (c : Cls) (sub : Nat) : ObjRow := (findRow sub (c.rows 2)).getD (row sub .u8 .roAll 0 0 0 .ledger)

/-- Whether an object may be used, as a computation. -/
def mayUse (s : State) (o : Origin) (idx sub : Nat) (write : Bool) : Bool :=
  s.aon.on && s.reaches o && s.inSession o && decide (0 < sub) &&
    match classify s.n idx with
    | none => false
    | some c =>
      match findRow sub (c.rows s.n) with
      | none => false
      | some r => if write then (s.rightOf o c r idx).writes else (s.rightOf o c r idx).reads

theorem mayUse_sound {s : State} {o : Origin} {idx sub : Nat} {w : Bool} (h : mayUse s o idx sub w = true) :
    MayUse s o idx sub w := by
  unfold mayUse at h
  cases hc : classify s.n idx with
  | none => simp [hc] at h
  | some c =>
    cases hr : findRow sub (c.rows s.n) with
    | none => simp [hc, hr] at h
    | some r =>
      simp only [hc, hr, Bool.and_eq_true, decide_eq_true_eq] at h
      exact ⟨h.1.1.1.1, h.1.1.1.2, h.1.1.2, h.1.2, c, r, hc, hr, h.2⟩

/-- The payload of a Dictionary Access (02 Table 02.5). -/
def access (op sub idx off len : Nat) : Bytes :=
  leBytes 1 op ++ leBytes 1 sub ++ leBytes 2 idx ++ leBytes 4 off ++ leBytes 4 len

theorem test_meets_DictionaryAccessReadsAndWrites :
    (let p := access 0 1 0x5000 0 1
     (p.length = 12 ∧ leAt p 0 1 = 0 ∧ leAt p 1 1 = (rowAt .classPkg 1).sub ∧ leAt p 4 4 = 0) ∧
      MayRead up mb .classPkg (rowAt .classPkg 1) (leAt p 2 2) (leAt p 8 4)) ∧
    (let p := access 1 1 0x5000 0 1 ++ [64]
     (up.realm mb = .hostOwner ∧ p.length = 12 + leAt p 8 4 ∧ leAt p 8 4 ≤ 4084 ∧ leAt p 0 1 = 1 ∧ leAt p 1 1 = (rowAt .classPkg 1).sub) ∧
      MayWrite up mb .classPkg (rowAt .classPkg 1) (leAt p 2 2) (leAt p 4 4) (p.drop 12) ∧
      plainObject .classPkg (rowAt .classPkg 1).sub = true ∧
      up.barred .classPkg (rowAt .classPkg 1).sub (up.legal .classPkg (rowAt .classPkg 1).sub
        (clampRaw (rowAt .classPkg 1) (leNat (p.drop 12)))) = false) := by
  unfold MayRead MayWrite
  simp only [reduceCtorEq, false_and, not_false_eq_true, implies_true, and_true]
  decide +kernel

theorem test_meets_RecorderStreamReturnsWholeRecords :
    let p : Bytes := [1, 1, 0, 0, 0, 0, 0, 0, 0xF8, 0x0F]
    MailboxOpen up 0 0 ∧ up.realm mb = .hostOwner ∧ p.length = 10 ∧ leAt p 0 1 < up.n ∧ leAt p 8 2 ≤ 4088 := by
  unfold MailboxOpen
  decide +kernel
def spdm (x : Spdm) : State := up.setLink 0 0 { up.hlink 0 0 with spdm := x, ideKeyed := true }

theorem test_meets_SpdmConnectsAndHoldsSessions :
    (up.aon.on = true ∧ up.doeOn 0 0 = true ∧ (up.hlink 0 0).spdm.stage = 0) ∧
    (let s := spdm ⟨2, false, false, 0⟩
     s.doeOn 0 0 = true ∧ 2 ≤ (s.hlink 0 0).spdm.stage ∧ 15 % 16 = 15 ∧ (s.hlink 0 0).spdm.stage < 3) ∧
    (let s := spdm ⟨3, true, false, 0⟩
     s.doeOn 0 0 = true ∧ 3 ≤ (s.hlink 0 0).spdm.stage ∧ (s.hlink 0 0).spdm.handshake = true ∧
      (s.hlink 0 0).spdm.session = false) ∧
    (let s := spdm ⟨3, false, true, 0⟩
     s.doeOn 0 0 = true ∧ 3 ≤ (s.hlink 0 0).spdm.stage ∧ (s.hlink 0 0).spdm.session = true) := by decide +kernel

theorem test_meets_SpdmAttestsTheDevice :
    SpdmAt (spdm ⟨3, false, false, 0⟩) 0 0 3 ∧ 0 ≤ Config.certChain.length ∧ 1 ≤ 10 ∧ 10 ≤ 10 := by
  unfold SpdmAt
  exact ⟨by decide +kernel, Nat.zero_le _, by decide, by decide⟩

theorem test_meets_IdeKeysEstablishTheStream :
    let s := spdm ⟨3, false, true, 0⟩
    SpdmAt s 0 0 3 ∧ 0 < 2 * s.n ∧ (s.hlink 0 0).spdm.session = true ∧ (s.hlink 0 0).ideUp = true ∧
      let g := s.setLink 0 0 { s.hlink 0 0 with ideUp := false }
      SpdmAt g 0 0 3 ∧ (g.hlink 0 0).spdm.session = true ∧ (g.hlink 0 0).ideKeyed = true ∧ (g.hlink 0 0).ideUp = false := by
  unfold SpdmAt
  decide +kernel
def aReport : Report := ⟨0x2010, 1, [1, 2], false⟩
def entry : Staged :=
  { typ := 0x2010, cause := none, args := [], sev := 1, vis := 0, payload := [1, 2], time := 1000000, tv := false
    count := 1, single := false }

/-- The same for a cause of Table 02.7. -/
def media : Staged := { entry with cause := some cMedia }
def queued (l : List Staged) : State := up.setRecorder 1 { noRecorder with queue := l }

theorem test_meets_ReportsQueueForTheirRing :
    (up.aon.on = true ∧ Settled up ∧ 1 < up.n ∧ up.seq.st ≠ 14 ∧ coalesce entry (up.recorder 1).queue = none ∧
      (up.recorder 1).queue.length < 63) ∧
    (let s := queued [entry]
     Settled s ∧ coalesce entry (s.recorder 1).queue = some [{ entry with count := 2 }]) := by
  unfold Settled
  decide +kernel

theorem test_meets_RecordsAreWrittenInOrder :
    (let s := queued [media]
     s.aon.on = true ∧ Settled s ∧ 1 < s.n ∧ (s.recorder 1).lost = 0 ∧ (s.recorder 1).queue = [media] ∧ media.vis ≤ 1 ∧
      oneToken ≤ s.tokenLevel 1 ∧ media.kind = some .media ∧
      (0, 0) ∈ s.ownerLinks ∧ ((s.hlink 0 0).log media.sev).recs.length < 256) ∧
    (Settled up ∧ (up.recorder 1).waits = false) ∧
    (let s := up.setRecorder 1 { noRecorder with queue := [media], tokens := 0 }
     Settled s ∧ s.tokenLevel 1 < oneToken) := by
  unfold Settled
  decide +kernel

theorem test_meets_RecordReadMovesTheRealmsCursor :
    Settled up ∧ MailboxOpen up 0 0 ∧ 1 < up.n ∧ up.realm mb = .hostOwner := by
  unfold Settled MailboxOpen
  decide +kernel
def keyed (k : KeySlot) : State := { inTen with ten := { inTen.ten with keys := [(0, k)] } }

theorem test_meets_TenancyCommandsFollowTheirTable :
    (let s := ({ up with ten := { up.ten with
        table := [(0, { tenant with st := 0 })], keys := [(0, { noKey with st := 1, material := 7 })] } } : State)
     TakesNow s mb ∧ s.noEntry = false ∧ s.createReason 0 = none ∧ (s.tenancy 0).st = 0 ∧ 2 ^ 27 - 1 < 2 ^ 27) ∧
    (TakesNow inTen mb ∧ inTen.noEntry = false ∧ (inTen.createReason 0).isSome = true ∧ (inTen.tenancy 0).st = 1) ∧
    (let s := withTen up { tenant with newBase := 2, newLimit := 6 }
     TakesNow s mb ∧ s.resizeReason 0 = none) ∧
    (let s := withTen up { tenant with st := 2 }
     TakesNow s mb ∧ (s.tenancy 0).st = 2 ∧ (s.tenancy 0).st ≠ 1) ∧
    (let s := inTen.setKey 1024 { noKey with st := 1, material := 9 }
     TakesNow s mb ∧ s.noTransit = false ∧ s.rekeyReason 0 = none) := by
  unfold TakesNow
  decide +kernel
def fillOp (v : Nat) : TenOp := { caller := callerOf mb, idx := 0x3000, sub := 9, value := v, data := [] }
def filling (v : Nat) : State := { inTen with ten := { inTen.ten with filling := some (fillOp v) } }

theorem test_meets_TenancyHardwareStepsComplete :
    ((filling 1).aon.on = true ∧ (filling 1).ten.waiting = [] ∧ 0 < 1024 ∧
      (filling 1).ten.filling = some (fillOp 1) ∧ (fillOp 1).idx = 0x3000 + 0 ∧ (fillOp 1).value = 1) ∧
    ((filling 2).ten.filling = some (fillOp 2) ∧ (fillOp 2).value = 2 ∧ (filling 2).leavers (fillOp 2) = false ∧
      ∀ m, (filling 2).firn m ≠ fRestoring) ∧
    (let e : Retiring := ⟨0, 1, callerOf mb, false⟩
     let s := withTen up { tenant with st := 3 }
     ({ s with ten := { s.ten with retiring := [e] } } : State).ten.retiring.find? (fun e => decide (e.ten = 0)) = some e ∧
     (s.tenancy 0).st = 3 ∧ s.hosts.stopped = false ∧ (∀ e ∈ s.ten.retiring, e.ten ≠ 0) ∧ ∀ e ∈ s.shadow.firn, s.firn e.1 ≠ fRestoring) ∧
    (({ up with ten := { up.ten with refused := [⟨callerOf mb, stRefused⟩] } } : State).ten.refused =
      { caller := callerOf (.mailbox 0 0), status := stRefused } :: []) ∧
    (let data : Bytes := List.replicate 32 1 ++ List.replicate 32 2
     TakesNow up mb ∧ up.realm mb = .hostOwner ∧ (up.hlink 0 0).ideUp = true ∧ data.length = 64 ∧
      data.take 32 ≠ data.drop 32 ∧ (up.keySlot 1023).st ≤ 1) ∧
    (let s := (withTen up { tenant with transit := 63, watermark := 8388544 }).setKey 1087 { noKey with st := 4, material := 9, ten := 0 }
     s.transitOf 0 = some 1087 ∧ s.seq.st = 12 ∧ s.freeze.active = false ∧ s.thawing = false ∧ (s.keySlot 1087).st = 4 ∧
      s.tenHeld 0 = false ∧ (s.tenancy 0).limit * driftBytes ≤ (s.tenancy 0).watermark + 64 ∧
      s.awaitsRetry (.sweep 0) = false ∧ s.isLost (s.place (s.tenancy 0).watermark).rank = false ∧
      s.turnOf (s.physOf (s.tenancy 0).watermark) (s.place (s.tenancy 0).watermark).off (s.tenancy 0).watermark 7 = true) ∧
    (let s := withTen up { tenant with mode := 1 }
     TakesNow s mb ∧ (s.tenancy 0).st = 1 ∧ (s.tenancy 0).mode = 1 ∧ s.reg (ixPer 0x5820 0) (subPer 0) ≠ 1) := by
  unfold TakesNow
  refine ⟨by decide +kernel, ⟨by decide +kernel, by decide +kernel, by decide +kernel, fun m => ?_⟩, by decide +kernel, by decide +kernel,
    by decide +kernel, by decide +kernel, by decide +kernel⟩
  show fTrimmed ≠ fRestoring
  decide
def chanIs (c : Chan) : State := inTen.setChan 0 c
def wr : Req := { rd 5 2 with op := .write, data := 9, confirmed := true }
def opened (s : State) : State :=
  let b := s.bankOfReq (rd 4 2)
  s.setBank 0 b.1 b.2.1 { noBank with openRow := some b.2.2 }
def burst (q : Req) (retry : Bool) : Issued := { req := q, rank := 0, off := 512, retry := retry }

/-- The response of a request to a line of die 0 has its way back to port 0. -/
def homeward (s : State) (q : Req) : Bool :=
  (s.route (s.place q.dpa).die (dieOfPort q.port)).isSome && decide (s.waitsAt (s.place q.dpa).die (dieOfPort q.port) = none)

theorem test_meets_CommandSlotsAndBurstsServeRequests :
    (let s := chanIs { noChan with reads := [rd 4 2] }
     s.aon.on = true ∧ (rd 4 2).src = .host ∧ s.quadRuns 0 = true ∧ (s.chan 0).slice = none ∧ s.urgentBank 0 = none ∧
      (s.chan 0).writes = [] ∧
      (s.chan 0).reads = [rd 4 2] ∧ s.readReady 0 (rd 4 2) = true ∧ s.rowHit 0 (rd 4 2) = false ∧ s.mayActivate 0 (s.prioOf (rd 4 2)) = true ∧
      (opened s).mayColumn 0 ((opened s).prioOf (rd 4 2)) = true ∧
      (opened s).rowHit 0 (rd 4 2) = true ∧ (opened s).readReady 0 (rd 4 2) = true ∧ (opened s).urgentBank 0 = none) ∧
    (let s := opened (chanIs { noChan with writes := [wr] })
     s.quadRuns 0 = true ∧ (s.chan 0).slice = none ∧ s.urgentBank 0 = none ∧ (s.chan 0).reads = [] ∧
      (s.chan 0).writes = [wr] ∧ ((s.chan 0).batch = true → (s.chan 0).deep = false) ∧ s.mayColumn 0 (s.prioOf wr) = true ∧ s.writeReady 0 wr = true ∧ s.rowHit 0 wr = true ∧ s.keyLive wr.key = true ∧
      s.redirectOf (s.place wr.dpa).rank = none ∧ s.isLost (s.place wr.dpa).rank = false) ∧
    (let q := { wr with op := .partialWrite, be := 1 }
     let s := opened (chanIs { noChan with writes := [q] })
     s.urgentBank 0 = none ∧ s.writeReady 0 q = true ∧ s.rowHit 0 q = true ∧ s.mayColumn 0 (s.prioOf q) = true) ∧
    (let q := { wr with op := .partialWrite, be := 1, locked := true, answered := true }
     let s := chanIs { noChan with writes := [q], issued := [burst q false] }
     s.cellOf (burst q false) = .data 0 (some 7) ∧ q.silent = false ∧ s.keyLive q.key = true ∧
      s.redirectOf (s.place q.dpa).rank = none ∧ s.isLost (s.place q.dpa).rank = false ∧
      ∀ w ∈ (s.chan 0).writes, w.answered = true) ∧
    (let s := chanIs { noChan with issued := [burst (rd 4 2) false] }
     s.cellOf (burst (rd 4 2) false) = .data 0 (some 7) ∧ (rd 4 2).silent = false ∧ s.hosts.stopped = false ∧
      s.keyLive (rd 4 2).key = true ∧ homeward s (rd 4 2) = true ∧ s.cellOf (burst (rd 4 2) true) = .data 0 (some 7) ∧
      (s.chan 0).issued = burst (rd 4 2) false :: []) ∧
    (let s := chanIs { noChan with reads := [rd 4 3] }
     let s := { s with aon := { s.aon with now := 10 ^ 9 } }
     s.reg 0x5000 2 * 1000 ≤ s.aon.now - (rd 4 3).enter ∧ (s.chan 0).reads = [rd 4 3] ∧ (s.chan 0).writes = [] ∧ (rd 4 3).cls = 3 ∧ (rd 4 3).promoted = false) ∧
    ((up.setBank 0 1 255 { noBank with openRow := some 3 }).bank 0 1 255).openRow.isSome = true := by decide +kernel

theorem test_meets_RefreshAndCareOfRanks :
    (up.aon.on = true ∧ 30 < 16 * up.n ∧ up.quadRuns 30 = true ∧ (up.chan 30).slice = none ∧ up.capOf 30 ≠ 0 ∧
      up.banksIdle 30 (30 % 2) (up.refBanks 30 3 3) = true ∧ (up.rank 30).selfRefresh = false ∧ up.mayMr4 30 = true ∧ (up.rank 30).refresh = 0 ∧ (up.rank 30).refresh ≠ 2 ∧
      15 < 8 * up.n) ∧
    (∀ c ∈ [{ noChan with reads := [rd 4 2] }, { noChan with slice := some 0 }],
      let s := chanIs c
      s.quadRuns 0 = true ∧ s.capOf 0 ≠ 0 ∧ (s.rank 0).selfRefresh = false ∧
      ((s.chan 0).slice.isSome = true ∨ s.banksIdle 0 0 (s.refBanks 0 0 0) = false) ∧
      (s.bank 0 0 ((s.refBanks 0 0 0).headD 0)).postponed < s.reg (ixChan 0) 6) ∧
    (let s := { up with build := { up.build with rfm := [(30, (32, 96))] } }.setBank 30 0 255 { noBank with raa := 96 }
     let rfm := (List.range 8).map fun g => (255 / 32 * 8 + g) * 4 + 255 % 4
     s.quadRuns 30 = true ∧ (s.chan 30).slice = none ∧ s.rfmOf (30 / 2 * 2 + 0) = some (32, 96) ∧
      96 ≤ (s.bank 30 0 255).raa ∧ s.p1Barred 30 0 rfm = false ∧ ∀ x ∈ rfm, s.class0On 30 0 x = []) ∧
    (let s := up.setBank 0 0 0 { noBank with refreshing := true }
     ∃ x ∈ s.runningBanks 0 0 0 0, (s.bank 0 0 x).refreshing = true) ∧
    (let s := up.setRank 0 { up.rank 0 with refresh := 1, normalCount := 15 }
     s.capOf 0 ≠ 0 ∧ s.mayMr4 0 = true ∧ (s.rank 0).refresh = 1 ∧ 15 ≤ (s.rank 0).normalCount) ∧
    ((up.scrubOf 15).inFlight = false ∧ (up.quad (15 / 8) (15 % 8 / 2)).st ≤ 1 ∧ up.freeze.active = false ∧
      up.scrubMay (2 * 15 + (up.scrubOf 15).k) = true ∧
      ∀ e ∈ (up.chan (subOf (2 * 15 + (up.scrubOf 15).k) ((up.scrubOf 15).line * 64))).writes,
        e.dpa ≠ up.dpaOfPhys (2 * 15 + (up.scrubOf 15).k) ((up.scrubOf 15).line * 64)) ∧
    (let i := { burst { rd 4 2 with src := .scrub 0 0, dpa := up.dpaOfRank (up.logicalOf 0) 0 } false with off := 0 }
     let s := ({ up with dram := { up.dram with scrub := [(0, ⟨0, 0, true, 0, 0⟩)] } } : State).setChan 0
       { noChan with issued := [i] }
     (s.chan 0).issued = [i] ∧ i.retry = false ∧ i.req.src = .scrub i.rank i.off ∧ (s.scrubOf 0).k < 2 ∧
      i.rank = 2 * 0 + (s.scrubOf 0).k ∧ i.off = (s.scrubOf 0).line * 64 ∧ ((s.scrubOf 0).line + 1) * 64 < s.capOf i.rank ∧
      s.cellAt i.req.dpa i.rank i.off = .data 0 none) ∧
    (let s := up.setRank 0 { up.rank 0 with st := 3 }
     (s.rank 0).st = 3 ∧ (s.rank 0).initPass = false ∧ s.freeze.active = false ∧ s.slotFree (2 * (0 / 2)) 10 = true ∧
      s.slotFree (2 * (0 / 2) + 1) 10 = true) := by decide +kernel

/-- A sweep of n codes that passes on so many from one on. -/
def eye (lo width n : Nat) : Sweep := List.replicate lo 0 ++ List.replicate width 16 ++ List.replicate (n - lo - width) 0

/-- A run in which every delay eye has one width and every reference eye another. -/
def sweptRun (density width refWidth : Nat) : Attempt :=
  let e : EyeSweeps := ⟨eye 112 16 128, eye 0 refWidth 126, eye 40 width 128⟩
  .swept density 4 (List.replicate 20 ⟨e, e⟩) true (List.replicate 20 1000)
def isOk {α : Type} (x : Except Nat α) : Bool :=
  match x with
  | .ok _ => true
  | .error _ => false
def isError {α : Type} (x : Except Nat α) (n : Nat) : Bool :=
  match x with
  | .ok _ => false
  | .error m => decide (m = n)
def untrained : State :=
  { inSt up 9 with dram := { up.dram with quads := [], ranks := [] } }

/-- The eyes at their minima pass, one code less fails (05 R117, R118); a rank position that trains in its second run,
and one that fails in both. -/
def goodRank : RankTrain := ⟨.gateFails 32 4, sweptRun 32 16 10⟩
def badRank : RankTrain := ⟨sweptRun 32 15 10, sweptRun 32 16 9⟩

theorem test_meets_TrainingSettlesEveryRank :
    (let s := untrained
     let res := [goodRank, silentTrain, badRank, silentTrain]
     s.aon.on = true ∧ s.seq.st = 9 ∧ s.quadDone 1 3 = false ∧ 1 < s.n ∧ 3 < 4 ∧ 2 < 4 ∧ s.anyOpen = false ∧
      s.pllOut 1 (6 + 3) = false ∧ s.fallsBack 1 3 (s.barMixed res) = false ∧ res[0]? = some goodRank ∧ (s.barMixed res)[0]? = some goodRank ∧
      startsSilent goodRank = false ∧ isOk (trainOutcome goodRank) = true ∧
      (s.barMixed res)[2]? = some badRank ∧ startsSilent badRank = false ∧ isError (trainOutcome badRank) 4 = true ∧
      (s.barMixed res)[1]? = some silentTrain ∧ startsSilent silentTrain = true ∧ look? s.dram.population 29 = none) ∧
    (let s := { untrained with dram := { untrained.dram with population := [(28, ⟨32, 4⟩)] } }
     s.fallsBack 1 3 (s.barMixed [silentTrain, silentTrain, silentTrain, silentTrain]) = false ∧
      (look? s.dram.population 28).isSome = true ∧ isError (trainOutcome silentTrain) 1 = true) ∧
    (let res := [goodRank, ⟨sweptRun 16 16 10, .silent⟩, goodRank, silentTrain]
     untrained.fallsBack 1 3 (untrained.barMixed res) = false ∧ res[0]? = some goodRank ∧
      (untrained.barMixed res)[0]? = some silentTrain ∧ goodRank ≠ silentTrain) ∧
    (look? untrained.build.ranks 28).isSome = true ∧ look? untrained.build.ranks 29 = none := by decide +kernel

/-- Rank 0 trained, its intervals long expired, with the queues and measurements of its channel. -/
def driftOf (k : Rank → Rank) (c : Chan) : State :=
  let s := up.setRank 0 (k { up.rank 0 with base := List.replicate 20 1000, edges := List.replicate 20 (40, 55) })
  let s := { s with aon := { s.aon with now := 10 ^ 12 } }.setChan 0 c
  (s.setDom (ixTrainRank 0) 2 (List.replicate 40 60)).setDom (ixTrainRank 0) 3 (List.replicate 40 60)
def counts (c : Nat) : List Nat := List.replicate 20 c

theorem test_meets_DriftIsTrackedAndRecalibrated_checks :
    (let s := driftOf id noChan
     s.aon.on = true ∧ s.measured 0 = true ∧ s.passed (s.rank 0).oscAt 1 (s.reg (ixTrain 0) 3) = true ∧
      s.passed (s.rank 0).probeAt 1 (s.reg (ixTrain 0) 4) = true ∧ s.mayCheck 0 = true ∧
      s.driftsFar 0 (counts 1000) = false ∧ s.driftsFar 0 (counts 900) = true ∧ (s.rank 0).train = 1 ∧
      s.probesMatch 0 (List.replicate 20 (2 ^ 128 - 1)) = true ∧ s.probesMatch 0 (counts 0) = false) ∧
    (let s := driftOf (fun k => { k with oscDue := some 0, probeDue := some 0 }) { noChan with reads := [rd 4 3] }
     s.measured 0 = true ∧ s.mayCheck 0 = false ∧ s.mayForce 0 = true ∧
      s.overdue (s.rank 0).oscDue (s.reg (ixTrain 0) 3) = true ∧ s.overdue (s.rank 0).probeDue (s.reg (ixTrain 0) 4) = true ∧
      s.driftsFar 0 (counts 1000) = false ∧ s.probesMatch 0 (List.replicate 20 (2 ^ 128 - 1)) = true) := by
  decide +kernel

/-- A running recalibration with so many slices measured, each code with this many matching bursts. -/
def recalling (a b matching : Nat) (k : Rank → Rank) (c : Chan) : State :=
  let m := List.replicate 10 matching
  driftOf (fun x => k { x with train := 4, recalWrite := true, wantWrite := true, meas0 := List.replicate a m, meas1 := List.replicate b m }) c

/-- The outcome of the last slice on subchannel 0. -/
def lastEyes (s : State) (matching : Nat) : Except Nat (List EyeFound) :=
  let m := (s.rank 0).meas0 ++ [List.replicate 10 matching]
  s.recalEyes 0 true (sweepsOf (m.take 49) ((s.rank 0).meas1.take 49)) (sweepsOf (m.drop 49) ((s.rank 0).meas1.drop 49))

theorem test_meets_DriftIsTrackedAndRecalibrated_slices :
    (let s := recalling 0 65 16 id noChan
     0 / 2 = 1 / 2 ∧ (s.rank 0).train = 4 ∧ 0 < (s.rank 0).slices 1 ∧ s.maySlice 1 = true ∧ s.slotFree 1 4 = true) ∧
    (let s := recalling 64 66 16 id { noChan with slice := some 0 }
     (s.chan 0).slice = some 0 ∧ (s.rank 0).train = 4 ∧ 1 < (s.rank 0).slices 0) ∧
    (∀ matching ∈ [0, 16],
      let s := recalling 65 66 matching id { noChan with slice := some 0 }
      (s.chan 0).slice = some 0 ∧ (s.rank 0).slices 0 ≤ 1 ∧ (s.rank 0).slices 1 = 0 ∧ (s.rank 0).recalWrite = true ∧
        (s.rank 0).wantRead = false) ∧
    isOk (lastEyes (recalling 65 66 16 id noChan) 16) = true ∧ isError (lastEyes (recalling 65 66 0 id noChan) 0) 0 = true := by
  decide +kernel

theorem test_meets_DriftIsTrackedAndRecalibrated_idle :
    ((up.quad 1 3).st = 0 ∧ up.quadEmpty 1 3 = true) ∧
    (let s := up.setReg (ixQuad 1 3) 2 1
     s.reg (ixQuad 1 3) 2 = 1 ∧ (s.quad 1 3).st ≤ 1 ∧ s.quadEmpty 1 3 = true ∧ s.engineNeeds 1 3 = false ∧
      s.recalRuns 1 3 = false) ∧
    (let s := (driftOf id noChan).setQuad 0 0 { up.quad 0 0 with st := 2 }
     let shut := List.replicate 20 (eye 0 15 49)
     let w : WakeCheck := ⟨counts 1000, List.replicate 20 (2 ^ 128 - 1)⟩
     let v : WakeRecal := ⟨shut, List.replicate 20 (eye 0 17 17), counts 1000⟩
     (s.quad 0 0).st = 2 ∧ (s.quad 0 0).hibEntry = false ∧ [w][0]? = some w ∧ [v][0]? = some v ∧ (s.rank (16 * 0 + 4 * 0 + 0)).train = 1 ∧
      s.driftsFar 0 w.osc = false ∧ s.probesMatch 0 w.probe = true ∧ s.probesMatch 0 (counts 0) = false ∧
      isError (s.recalEyes 0 false v.delay v.ref) 0 = true) := by decide +kernel

def note (applied : Bool) : Notice := ⟨5, 0, 0, 0, applied⟩
def noticed (c m : Nat) (applied : Bool) : State :=
  let s := withTen up { tenant with mode := m }
  { s with shadow := { s.shadow with notices := [note applied], firn := [(0, c)] } }

theorem test_meets_NoticesAndAdmission :
    (∀ c ∈ [fPumping, fClean, fPoisoned, fDirty, fStale, fVolatile], ∀ m ∈ [0, 1, 2],
      let s := noticed c m false
      s.aon.on = true ∧ 0 < s.n ∧ s.coreStopped 0 = false ∧ s.firn 0 = c ∧ s.flakeMode 0 = m ∧ s.tenOf (0 * flakeBytes) = some 0 ∧
        s.shadow.notices.find? (fun e => decide (s.homeDie e.flake = 0) && !e.applied && s.linkOpen (dieOfSub e.sc) 0) =
          some (note false) ∧
        s.firnHit (s.driftOf 0) = false ∧ s.firnAsked (s.driftOf 0) = false ∧
        s.isLost (s.place (s.firnLine (s.driftOf 0))).rank = false) ∧
    (∀ l ∈ [[], [note false]],
      let s := noticed fDirty 0 true
      let s := { s with shadow := { s.shadow with notices := note true :: l, cache := [(0, [0])] } }
      s.firnHit (s.driftOf 0) = true ∧
        takeNotice (fun e => decide (s.homeDie e.flake = 0) && e.applied && s.linkOpen 0 (dieOfSub e.sc) &&
          s.firnHit (s.driftOf e.flake)) s.shadow.notices = some (note true, l)) ∧
    (let s := { up with shadow := { up.shadow with held := [wr] } }
     (s.shadow.held.find? fun e => decide ((s.place e.dpa).die = 0) && !(s.shadow.staged.elem e.id)) = some wr ∧
      s.stageOcc 0 < 1024) ∧
    (let s := { up with shadow := { up.shadow with
        held := { wr with id := 6 } :: List.replicate 1024 wr, staged := [5] } }
     (s.shadow.held.find? fun e => decide ((s.place e.dpa).die = 0) && !(s.shadow.staged.elem e.id)) =
       some { wr with id := 6 } ∧ 1024 ≤ s.stageOcc 0) ∧
    (let s := { armed with shadow := { armed.shadow with held := [wr], staged := [5] } }
     s.nextAdmitted 0 = some wr ∧ wr.op = .write ∧ (s.chan (s.subOfReq wr)).writes = [] ∧
      s.isLost (s.place wr.dpa).rank = false ∧ s.waitsAt (s.place wr.dpa).die (dieOfPort wr.port) = none ∧
      s.shadow.notices = [] ∧ (wr.src = .host)) ∧
    Sparse.wf 0 (up.die 0).unsent = true := by decide +kernel
def drafting (s : State) : State :=
  s.setDie 1 { s.die 1 with closing := some (s.draftSeal 1 1), phase := 4 }

theorem test_meets_EpochsCloseAndPersistenceArms :
    (armed.aon.on = true ∧ 1 < armed.n ∧ armed.freeze.active = false ∧ armed.shadow.arming = false ∧
      armed.shadow.counter = some 1 ∧ armed.seq.st = 12 ∧ armed.closingAny = false ∧ armed.dieOut 1 = false) ∧
    ((drafting armed).closingAny = true ∧ (drafting armed).shadow.boundaryDue = false ∧
      ((drafting armed).die 1).closing = some (armed.draftSeal 1 1) ∧ ((drafting armed).die 1).phase = 4 ∧
      (drafting armed).dieOut 1 = false) ∧
    (let s := { armed with shadow := { armed.shadow with armed := false } }
     s.shadow.armed = false ∧ s.shadow.arming = false ∧ s.seq.st = 12 ∧ s.shadow.counter = some 1 ∧
      s.armable (gib 2) = true) ∧
    (let s := { armed with shadow := { armed.shadow with armed := false, counter := none } }
     s.shadow.counter = none ∧ s.armable (gib 1) = true) ∧
    (let s := { inTen with shadow := { inTen.shadow with counter := some 1 } }
     s.shadow.armed = false ∧ s.shadow.counter = some 1 ∧ s.armable (gib 2) = false) := by decide +kernel

/-- A block of LUN 1 of die 0, and pages of it. -/
def blk : Nat := 2 ^ 27 + 2 ^ 18 + 100
def pg (i : Nat) : Nat := blk * 2 ^ 20 + i * 256
def pump (n : Nat) (ready : Bool) : Pump := ⟨n, 0, ready, 1, 0, [], none, false⟩
def aUnit (running : Bool) (num : Nat) : Machine.PUnit :=
  { num := num, lun := 1, blk := blk, pages := [pg 0], running := running, map := false, moves := [⟨num, none, false, false⟩]
    jobs := [] }

/-- LUN 1 with the block open from its second page on. -/
def filling1 : Sparse Lun := [(1, { noLun with openData := some (blk, 1) })]

/-- Die 0's shadow engine in the armed state, with firn states. -/
def die0 (x : DieShadow) (firn : Sparse Nat) : State :=
  ({ armed with shadow := { armed.shadow with firn := firn } } : State).setDie 0 x

theorem test_meets_PumpsMoveSnowToFlash :
    (let s := die0 { noDieShadow with first := [0] } [(0, fDirty)]
     s.aon.on = true ∧ 0 < s.n ∧ freePump (s.die 0).pumps = some 0 ∧
      ((if s.freeze.active then s.pickFreeze 0 else s.pickFlake 0).map (·.flake)) = some 0 ∧ s.pumpsRun 0 = true ∧
      s.homeIn 0 (fun c => decide (9 ≤ c)) = []) ∧
    (let s := die0 { noDieShadow with pumps := [pump 127 false] } [(0, fPumping)]
     (s.die 0).pumps.find? (fun p => decide (p.num = 127) && !p.ready) = some (pump 127 false) ∧
      (pump 127 false).moving = none ∧ s.pumpReads 0 127 = false ∧ (0 + 1) * flakeBytes ≤ s.assignable ∧
      s.pumpedDram (pump 127 false) 255 = true ∧ s.redirectOf (s.place (0 * flakeBytes + 64 * 255)).rank = none) ∧
    (let s := die0 { noDieShadow with pumps := [pump 127 true], units := [aUnit false 4], luns := filling1 } [(0, fPumping)]
     (s.die 0).pumps.find? (fun p => decide (p.num = 127) && p.ready) = some (pump 127 true) ∧
      s.nextChannel 0 false = some 0 ∧ s.openUnit 0 0 = some (aUnit false 4) ∧ s.nextPage 0 (aUnit false 4) = some 1 ∧
      s.flashHalted 0 = false ∧ s.metered (pump 127 true).prio = false ∧ (s.lunOf 0 1).erasing = none) ∧
    (let s := die0 { noDieShadow with units := [aUnit false 4], luns := filling1 } []
     (s.die 0).units.find? (fun u => decide (u.num = 4)) = some (aUnit false 4) ∧ (aUnit false 4).running = false ∧
      (aUnit false 4).pages ≠ [] ∧ s.flashHalted 0 = false ∧ (s.lunOf 0 1).erasing = none ∧
      (s.nandOf 0 (1 / 32)).all (fun nd => nd.supported && decide (1 < nd.pagesPerBlock)) = true ∧
      s.nextPage 0 (aUnit false 4) = some 1 ∧ s.readsFor 0 1 = false ∧ s.programs 0 1 = false) ∧
    (let s := die0 { noDieShadow with units := [aUnit true 0] } [(0, fPumping)]
     (s.die 0).units.find? (fun u => decide (u.num = 0) && u.running) = some (aUnit true 0) ∧
      (aUnit true 0).moves.length ≤ (aUnit true 0).pages.length ∧ ((aUnit true 0).moves.map (·.flake)).Nodup ∧
      (aUnit true 0).jobs = [] ∧ s.flashHalted 0 = false ∧
      (∀ v ∈ (aUnit true 0).moves, v.old = none ∧ v.inFreeze = false ∧ s.firn v.flake = fPumping ∧
        v.stale = false ∧ (s.flakeTen v.flake).isSome = true) ∧
      (s.die 0).phase = 0 ∧ (s.die 0).jobs = [] ∧ (s.lunOf 0 1).erasing = none ∧ (s.die 0).moraine.length < moraineTop) := by decide +kernel

theorem test_meets_PumpsMoveSnowToFlash_uncut :
    (die0 { noDieShadow with pumps := [pump 127 false] } [(0, fPumping)]).linesCut 0 0 = false := by decide +kernel
def lun1 (x : Lun) : State := die0 { noDieShadow with luns := [(1, x)] } []
def aPage : Page :=
  { typ := 1, format := 1, ten := 0, mapNum := 0xFFFFFFFF, flake := 0, epoch := 1, progSeq := 1, body := .data 0 []
    tweak := pg 0, unreadable := false }

/-- Flake 0 CLEAN on page 0 of the block. -/
def clean (x : DieShadow) : State :=
  let s := die0 { x with pages := [(pg 0, aPage)], blocks := [(blk, 3)] } [(0, fClean)]
  { s with shadow := { s.shadow with fmap := [(0, pg 0)] } }
def heldRead (level purpose : Nat) (res : Option Bool) : PRead := ⟨pg 0, 0, purpose, false, level, res⟩

theorem test_meets_GlacierIsKept :
    (let s := die0 { noDieShadow with blocks := [(blk, 3)] } []
     s.aon.on = true ∧ 0 < s.n ∧ s.flashHalted 0 = false ∧ lunOfBlk blk = 1 ∧ (s.allLuns 0).elem 1 = true ∧
      (s.lunOf 0 1).erasing = none ∧ s.mayStartErase 0 = true ∧ s.readsFor 0 1 = false ∧ s.programs 0 1 = false ∧
      s.mayErase 0 blk = true) ∧
    (let s := lun1 { noLun with erasing := some blk, susp := 2, suspends := 64 }
     (s.lunOf 0 1).erasing = some blk ∧ (s.lunOf 0 1).susp < 3 ∧ (s.die 0).phase = 0 ∧ (s.die 0).jobs = [] ∧
      (s.die 0).moraine.length < moraineTop ∧ (s.die 0).units.find? (fun u => decide (u.lun = 1) && u.running) = none ∧
      ((s.lunOf 0 1).notReady.filter fun t => decide (s.aon.now - t < 3600000000000)).length < 3) ∧
    (let s := lun1 { noLun with erasing := some blk, notReady := [0, 0, 0] }
     3 ≤ ((s.lunOf 0 1).notReady.filter fun t => decide (s.aon.now - t < 3600000000000)).length ∧
      (s.lunOf 0 1).failed = false ∧ (s.allLuns 0).elem 1 = true) ∧
    (let s := die0 { noDieShadow with units := [aUnit true 0], nextUnit := 1 } []
     (s.die 0).units.find? (fun u => decide (u.lun = 1) && u.running) = some (aUnit true 0) ∧
      (((s.die 0).units.filter fun u => decide (u.lun = 1) && u.running) = [aUnit true 0]) ∧
      (aUnit true 0).num < (s.die 0).nextUnit) := by
  decide +kernel

/-- An erase on LUN 1 that is asked to make way, by a read or by a filled unit. -/
def suspending (susp : Nat) (x : DieShadow) : State :=
  die0 { x with luns := [(1, { noLun with erasing := some blk, susp := susp })], pages := [(pg 0, aPage)] } []

theorem test_meets_GlacierIsKept_suspension :
    (let s := suspending 1 { noDieShadow with reads := [heldRead 0 0 none] }
     (s.lunOf 0 1).susp = 1 ∧ s.readsFor 0 1 = true) ∧
    (let s := suspending 2 { noDieShadow with units := [{ aUnit false 4 with pages := [pg 0, pg 1, pg 2] }] }
     (s.lunOf 0 1).susp = 2 ∧ s.readyUnits 0 1 ≠ []) ∧
    (let s := suspending 1 noDieShadow
     (s.lunOf 0 1).susp = 1 ∧ s.readsFor 0 1 = false ∧ s.programs 0 1 = false ∧ s.readyUnits 0 1 = []) := by
  decide +kernel

theorem test_meets_GlacierIsKept_reads :
    (let s := clean { noDieShadow with reads := [heldRead 8 0 none] }
     takeRead (fun r => decide (r.page = pg 0) && r.res.isNone) (s.die 0).reads = some (heldRead 8 0 none, []) ∧
      (heldRead 8 0 none).purpose ≤ 1 ∧ s.lunReads 0 (lunOfBlk (blkOfPage (pg 0))) = true ∧ (s.cleanAt 0 (pg 0)).isSome = true ∧
      (decodes [.clean, .weak] && s.pageReads 0 (pg 0)) = true ∧ (decodes [.clean, .fails] && s.pageReads 0 (pg 0)) = false) ∧
    (let s := clean { noDieShadow with relocate := [pg 0] }
     s.flashWorks 0 = true ∧ pg 0 ∈ (s.die 0).relocate ∧ s.isMapPage 0 (pg 0) = false ∧ s.cleanAt 0 (pg 0) = some 0 ∧
      freePump (s.die 0).pumps = some 0 ∧
      ((s.die 0).pumps.filter fun p => p.moving.isSome).length < (s.gcPumps 0).1 ∧
      s.nextVerify 0 = some (pg 0) ∧ s.eraseSpent 0 (lunOfBlk (blkOfPage (pg 0))) = false ∧ s.programs 0 (lunOfBlk (blkOfPage (pg 0))) = false ∧
      (decodes [.weak] && s.pageReads 0 (pg 0)) = true ∧ (decodes [.fails] && s.pageReads 0 (pg 0)) = false ∧
      (s.lunOf 0 1).failed = false) ∧
    (let s := clean { noDieShadow with relocate := [pg 0], mapAddr := [(7, pg 0)] }
     s.flashWorks 0 = true ∧ s.isMapPage 0 (pg 0) = true) := by
  decide +kernel

theorem test_meets_GlacierIsKept_limit :
    (∀ held ∈ [false, true],
      let s := clean { noDieShadow with luns := [(1, { noLun with erasing := some blk, suspends := 64 })], verifyHeld := held }
      s.flashWorks 0 = true ∧ s.nextVerify 0 = some (pg 0) ∧ s.programs 0 1 = false ∧ s.eraseSpent 0 1 = true) ∧
    (let s := { clean noDieShadow with shadow := { (clean noDieShadow).shadow with firn := [(0, fUnrestored)] } }
     (s.lunOf 0 1).failed = false ∧ s.homeDie 0 = 0 ∧ look? s.shadow.fmap 0 = some (pg 0) ∧ lunOfBlk (blkOfPage (pg 0)) = 1 ∧
      s.firn 0 = fUnrestored ∧ s.activeLuns 0 0 ≠ []) := by
  decide +kernel

theorem test_meets_GlacierIsKept_collection :
    let s := die0 { noDieShadow with blocks := [(blk, 3)] } []
    let nd := (look? s.build.nand 0).map fun nd => { nd with planes := 1, blocksPerPlane := 1 }
    let s := { s with build := { s.build with nand := nd.toList.map fun nd => (0, nd) } }
    s.flashWorks 0 = true ∧ s.thawing = false ∧ (s.allLuns 0).elem 1 = true ∧ s.lowOn 0 1 1 = true ∧
      s.gcVictim 0 = some blk := by decide +kernel

theorem test_meets_PowerFailStartsTheFreeze :
    (armed.aon.on = true ∧ armed.mayFreeze = true ∧ armed.freezesPlainly = false ∧ armed.seq.st = 12) ∧
    (up.mayFreeze = true ∧ up.freezesPlainly = true ∧ up.seq.st = 12) ∧
    (∃ e ∈ (noticed fClean 0 false).shadow.notices, e.applied = false ∧ (noticed fClean 0 false).firn e.flake = fClean ∧
      (noticed fClean 0 false).flakeMode e.flake = 0 ∧ (noticed fClean 0 false).writesUnderWay = [] ∧
      (noticed fClean 0 false).mayFreeze = true) ∧ (inSt up 14).mayFreeze = false := by decide +kernel
def freezing : State :=
  { armed with
    seq := { armed.seq with st := 13, reached := 12 }
    freeze := { armed.freeze with active := true, source := 1, detect := 1000000 } }

theorem test_meets_FreezeSealsAndEnds :
    (let s := freezing
     s.aon.on = true ∧ 1 < s.n ∧ s.freeze.active = true ∧ s.freezeDies.elem 1 = true ∧ s.freeze.drained.elem 1 = false ∧
      s.pickFreeze 1 = none ∧ (s.die 1).pumps = [] ∧ (s.die 1).units = []) ∧
    (let s := ({ freezing with freeze := { freezing.freeze with drained := [1] } } : State).setDie 1 { noDieShadow with phase := 4 }
     (s.die 1).phase = 4 ∧ s.freeze.active = true ∧ s.freezeSeals = true ∧ s.freeze.drained.elem 1 = true ∧ s.freeze.sealedBy.elem 1 = false) ∧
    (let s := { freezing with freeze := { freezing.freeze with drained := [0, 1], sealedBy := [0, 1] } }
     s.freeze.active = true ∧ ∀ d ∈ s.freezeDies, d ∈ s.freeze.sealedBy) ∧
    (let s := { (inSt up 14).setReg 0x7101 2 1 with aon := { up.aon with holdRunning := true, wakeStored := [2] } }
     s.seq.st = 14 ∧ s.aon.pwrfailLow = false ∧ s.aon.senseLow = false ∧ s.aon.holdRunning = true ∧ s.seq.release = [] ∧
      (s.reg 0x7101 2 = 1 → s.aon.wakeStored ≠ [])) := by decide +kernel

theorem test_meets_SequencerStatesAdvance :
    (State.reset.aon.on = true ∧ State.reset.riseTo = some 1 ∧ State.reset.seq.holds = []) ∧
    ((inSt up 11).riseTo = some 12 ∧ (inSt up 11).seq.holds = [] ∧ (inSt up 11).seq.st ≤ 11) ∧
    ((inSt up 12).riseTo = none) ∧ (inSt up 14).seq.st = 14 ∧
    ((inSt up 13).seq.st = 13 ∧ (inSt up 13).freeze.active = false ∧ (inSt up 13).seq.holds = [] ∧
      ({ inSt up 13 with freeze := { up.freeze with sealedBy := [0] } } : State).freeze.sealedBy ≠ []) ∧
    (freezing.seq.st = 13 ∧ freezing.freeze.active = true) := by decide +kernel
def aSeal : Seal :=
  { epoch := 1, root := pg 3, openBlocks := [], snowline := 0, budget := 0, whole := true, sweeps := [], checkpoints := [], swept := [], saved := 0
    lost := 0, source := 1, time := 0, duration := 0, thawRunning := false, progSeq := 9 }

/-- Page i of the block as a page of the map of die 0, of map page number 0. -/
def mapPage (i typ : Nat) (body : PageBody) : Nat × Page :=
  (pg i, { aPage with typ := typ, ten := 0xFFFF, mapNum := 0, flake := 0, body := body, tweak := pg i })

/-- State 11 of a thaw on the freeze path: die 0 has a seal and the map it leads to. -/
def thawing (mode : Nat) (img : Sparse Nat) : State :=
  let s := withTen up { tenant with mode := mode }
  let s := { inSt s 11 with freeze := { s.freeze with thaw := 2, recovery := 1, epoch := 1 } }
  (s.setDie 0 { noDieShadow with
    freezeSeal := some aSeal
    pages := [mapPage 1 2 (.map 0 0 [(0, pg 0)] img []), mapPage 2 3 (.index 0 0 [(0, pg 1)]), mapPage 3 4 (.index 0 0 [(0, pg 2)])] }).setReg
    0x6810 1 2

theorem test_meets_ThawResolvesEveryFlake :
    (let s := inSt (die0 { noDieShadow with intents := [(1, blk)] } []) 10
     s.aon.on = true ∧ 0 < s.n ∧ (s.allLuns 0).elem 1 = true ∧ look 0 (s.die 0).intents 1 = blk ∧ blk ≠ 0 ∧ s.seq.st = 10 ∧
      (s.die 0).moraine.length < moraineTop) ∧
    (∀ c ∈ [fClean, fPoisoned], ∀ mode ∈ [0, 1, 2],
      let s := thawing mode [(0, c)]
      s.seq.st = 11 ∧ s.freeze.thaw = 2 ∧ s.workingDies.elem 0 = true ∧ s.freeze.restored.elem 0 = false ∧
        s.freeze.recovery = 1 ∧ s.usedSeal 0 = some aSeal ∧
        s.imageOf 0 aSeal [] = some ⟨[(0, c)], [(0, pg 0)], [], [], [(0, pg 1)], [(0, pg 2)], pg 3⟩ ∧ s.lostRanks = [] ∧
        s.homeDie 0 = 0 ∧ ([] : List Nat).elem (s.homeIdx 0 / 2048) = false ∧
        s.flakeTen 0 = some 0 ∧ (s.tenancy 0).mode = mode ∧ look 0 [(0, pg 0)] 0 = pg 0 ∧ pg 0 ≠ 0) ∧
    ((thawing 0 []).homeDie (2 ^ 20) = 0 ∧ (thawing 0 []).flakeTen (2 ^ 20) = none) ∧
    ((thawing 0 []).workingDies.elem 1 = true ∧ (thawing 0 []).freeze.restored.elem 1 = false ∧
      (thawing 0 []).freeze.recovery ≠ 0 ∧ (thawing 0 []).usedSeal 1 = none ∧
      (thawing 0 []).anySeal = true ∧ ((thawing 0 []).setDie 0 noDieShadow).usedSeal 1 = none ∧
      ((thawing 0 []).setDie 0 noDieShadow).anySeal = false) ∧
    ((thawing 0 []).usedSeal 0 = some aSeal ∧ (thawing 0 []).imageOf 0 aSeal [pg 3] = none) ∧
    (let s := { thawing 0 [] with freeze := { (thawing 0 []).freeze with restored := [0, 1] } }
     s.seq.st = 11 ∧ s.freeze.thaw = 2 ∧ s.freeze.recovery ≠ 2 ∧ s.freeze.recovery ≠ 0 ∧ [1] ≠ ([] : List Nat) ∧ (∀ d ∈ s.workingDies, d ∈ s.freeze.restored) ∧
      s.freeze.mode ≠ 0 ∧ ({ s with freeze := { s.freeze with mode := 0 } } : State).freeze.mode = 0) ∧
    (let s := { thawing 0 [] with freeze := { (thawing 0 []).freeze with restored := [0, 1], recovery := 2 } }
     let s := (s.setDie 0 { s.die 0 with phase := 4 }).setDie 1 { s.die 1 with phase := 4 }
     s.seq.st = 11 ∧ s.freeze.thaw = 2 ∧ (∀ d ∈ s.workingDies, d ∈ s.freeze.restored ∧ (s.die d).phase = 4)) ∧
    (let s := { thawing 0 [] with freeze := { (thawing 0 []).freeze with restored := [0, 1], recovery := 0 } }
     ∀ d ∈ s.workingDies, d ∈ s.freeze.restored ∧ s.freeze.recovery ≠ 2) := by
  decide +kernel

/-- A board of one small rank on each die, thawing from the freeze path. -/
def small (thaw : Nat) (dflt : Bool) (x : DieShadow) (firn : Sparse Nat) : State :=
  let s := withTen up { tenant with limit := 1 }
  let r := { noRank with train := 1, st := 1, trained := true, density := 1, stack := 1 }
  let s := { s with
    dram := { s.dram with ranks := [(0, r), (16, r)] }
    shadow := { s.shadow with firn := firn, fmap := [(0, pg 0)] }
    freeze := { s.freeze with thaw := thaw, recovery := 1, markDflt := dflt } }
  s.setDie 0 x
def fetched (ok : Bool) : PRead := ⟨pg 0, 0, 0, false, 0, some ok⟩

theorem look?_mem {α : Type} {m : Sparse α} {a : Nat} {v : α} (h : look? m a = some v) : (a, v) ∈ m := by
  induction m with
  | nil => simp at h
  | cons e m ih =>
    unfold look? at h
    split at h
    · cases h
      subst_vars
      exact List.mem_cons_self ..
    · exact List.mem_cons_of_mem _ (ih h)

theorem awake_of_quads (s : State) (h : ∀ e ∈ s.dram.quads, e.2.st ≠ 3) (m : Nat) : s.flakeAwake m = true := by
  have hq : ∀ d q, (s.quad d q).st ≠ 3 := by
    intro d q
    unfold State.quad look
    cases hl : look? s.dram.quads (4 * d + q) with
    | none => decide
    | some x => exact h _ (look?_mem hl)
  simp [State.flakeAwake, hq]
def restoring : State := small 3 false noDieShadow [(0, fUnrestored), (2, fPoisoned)]

theorem test_meets_ThawRestoresDram_turn :
    ∀ c ∈ [fTrimmed, fPoisoned],
      let s := small 3 false noDieShadow [(0, c)]
      s.restores 0 = true ∧ s.homeDie 0 = 0 ∧ s.mark (s.driftOf 0) = false ∧ s.freeze.filled.elem 0 = false ∧
        s.nextDrift 0 = some (s.driftOf 0) ∧ s.freeze.fetchWait = [] ∧ s.firn 0 = c ∧ s.restoreTurn 0 = true := by decide +kernel

theorem test_meets_ThawRestoresDram :
    (restoring.aon.on = true ∧ 0 < restoring.n ∧ 255 < 256 ∧ restoring.restores 0 = true ∧
      restoring.nextDrift 0 = some 0 ∧ restoring.mark 0 = false ∧
      (∀ m ∈ [(0, fUnrestored), (1, fTrimmed), (2, fPoisoned)], restoring.homeDie m.1 = 0 ∧ restoring.driftOf m.1 = 0 ∧
        restoring.firn m.1 = m.2 ∧ restoring.freeze.filled.elem m.1 = false)) ∧
    (∀ ok ∈ [true, false],
      let s := small 3 false { noDieShadow with reads := [fetched ok], pages := [(pg 0, aPage)] } [(0, fRestoring)]
      takeRead (fun r => decide (r.flake = 0) && decide (r.purpose = 0) && r.res.isSome) (s.die 0).reads =
          some (fetched ok, []) ∧ s.firn 0 = fRestoring ∧
        s.freeze.fetchWait.filter (fun q => decide (flakeOf q.dpa = 0)) = [] ∧
        (s.page 0 (fetched ok).page).body = .data 0 [] ∧ s.thawing = true ∧ s.restoreTurn 0 = true) ∧
    (let s := small 4 true noDieShadow []
     s.freeze.thaw = 4 ∧ s.freeze.active = false ∧ s.seq.st ≠ 13 ∧ s.seq.st ≠ 14 ∧ s.allMarked = true) ∧
    (up.seq.st = 12 ∧ up.freeze.active = false ∧ Sparse.wf 0 up.shadow.heat = true) := by
  decide +kernel

theorem test_meets_ThawRestoresDram_awake : ∀ m, restoring.flakeAwake m = true :=
  awake_of_quads restoring (by decide +kernel)

/-- A line that has its physical line to itself. -/
theorem test_meets_ThawRestoresDram_own : OwnLine restoring 0 255 := by
  unfold OwnLine
  decide +kernel

/-- Rank 2 carried by spare 4 (10 R243). -/
def redir (w : Nat) (rebuild : Bool) : Redirect := ⟨4, 2, w, false, rebuild, 1, false, 0, []⟩
def copying (w : Nat) (rebuild : Bool) (firn : Sparse Nat) : State :=
  { clean noDieShadow with
    shadow := { (clean noDieShadow).shadow with firn := firn }, sparing := { redirect := [(2, redir w rebuild)], heals := [] } }

/-- The first DPA of logical rank 2. -/
def dpa2 : Nat := (copying 0 false []).dpaOfRank 2 0

/-- A tenancy over that line. -/
def copyingTen (rebuild : Bool) (c : Nat) : State :=
  withTen (copying 0 rebuild [(flakeOf dpa2, c)]) { tenant with base := dpa2 / driftBytes, limit := dpa2 / driftBytes + 1 }
def aHeal : Heal := ⟨0, 1 <<< 255, pg 0, []⟩
def healing (ok : Bool) (c : Nat) : State :=
  let s := small 5 true { noDieShadow with reads := [⟨pg 0, 0, 1, false, 0, some ok⟩], pages := [(pg 0, aPage)] } [(0, c)]
  { s with sparing := { redirect := [], heals := [(0, [aHeal])] } }

theorem test_meets_RanksAreSparedAndHealed :
    (let s := (up.setRank 30 { up.rank 30 with ueBuckets := [1000] }).setRank 28 { up.rank 28 with st := 3 }
     s.aon.on = true ∧ 1 < s.n ∧ 30 < 16 * s.n ∧ s.reached 30 1 = true ∧ (s.rank 30).st = 1 ∧ s.logicalOf 30 = 30 ∧
      s.redirectOf 30 = none ∧ s.pickSpare 30 = some 28 ∧ (s.rank 28).st = 3) ∧
    (let s := up.setRank 30 { up.rank 30 with train := 3 }
     s.reached 30 7 = true ∧ (s.rank 30).st = 1 ∧ s.logicalOf 30 = 30 ∧ s.redirectOf 30 = none ∧ s.pickSpare 30 = none ∧
      s.freeze.thaw ≠ 1 ∧ ∀ y ∈ s.sparing.redirect, y.2.queued = true → (s.rank y.2.source).st ≠ 9) ∧
    (let s := (up.setRank 30 { up.rank 30 with ueBuckets := [1000] }).setRank 28 { up.rank 28 with st := 3 }
     let s := { s with sparing := { redirect := [(24, ⟨26, 24, 0, false, false, 1, false, 0, []⟩)], heals := [] } }
     s.reached 30 1 = true ∧ (s.rank 30).st = 1 ∧ s.logicalOf 30 = 30 ∧ s.redirectOf 30 = none ∧ s.pickSpare 30 = some 28 ∧
      (s.rank 28).st = 3 ∧ s.migrating (dieOfRank 30) = true) ∧
    (let s := up.setRank 30 { up.rank 30 with st := 3, train := 3 }
     s.reached 30 7 = true ∧ (s.rank 30).st = 3) ∧
    (let s := (up.setRank 30 { up.rank 30 with train := 3 }).setRank 28 { up.rank 28 with st := 3 }
     s.reached 30 7 = true ∧ s.pickSpare 30 = some 28 ∧ ∀ y ∈ s.sparing.redirect, y.2.queued = false) := by decide +kernel

theorem test_meets_RanksAreSparedAndHealed_copies :
    ((copying 0 false []).freeze.active = false ∧ (copying 0 false []).runningCopy 0 = some (2, redir 0 false) ∧
      (copying 0 false []).awaitsRetry (.migrate 2 0) = false ∧ (copying 0 false []).turnOf 2 0 dpa2 7 = true ∧
      (copying 0 false []).turnOf 4 0 dpa2 7 = true ∧ 0 + 64 < (copying 0 false []).crank) ∧
    (let s := copying ((copying 0 false []).crank - 64) false []
     s.crank ≤ s.crank - 64 + 64 ∧ (redir 0 false).source ≠ (redir 0 false).carrier ∧
      ∀ y ∈ s.sparing.redirect, y.2.queued = false) ∧
    (∀ c ∈ [fTrimmed, fDirty, fVolatile],
      let s := copyingTen true c
      s.sparing.redirect.find? (fun e =>
          decide (dieOfRank e.1 = 0) && decide (e.2.source = 2) && !e.2.complete && e.2.rebuild) = some (2, redir 0 true) ∧
        s.rebuildDue 2 2 = none ∧ s.slotTurn 4 0 7 = true ∧ (redir 0 true).early.elem (0 / 64) = false ∧ dpa2 < s.assignable ∧
        (s.coverOf (dpa2 / driftBytes)).isSome = true ∧ s.firn (flakeOf dpa2) = c) := by decide +kernel

theorem test_meets_RanksAreSparedAndHealed_rebuild :
    let s := copyingTen true fClean
    let n := flakeOf dpa2
    s.freeze.active = false ∧ s.rebuildDue 2 2 = none ∧ s.firn n = fClean ∧ s.rebuildTurn n 7 = true ∧
      s.dieOut (s.homeDie n) = false ∧ (s.die (s.homeDie n)).reads = [] ∧ n * flakeBytes < s.assignable := by decide +kernel

theorem test_meets_RanksAreSparedAndHealed_heals :
    (∀ ok ∈ [true, false], ∀ c ∈ [fClean, fDirty],
      let s := healing ok c
      takeRead (fun r => decide (r.flake = 0) && decide (r.purpose = 1) && r.res.isSome) (s.die 0).reads =
          some (⟨pg 0, 0, 1, false, 0, some ok⟩, []) ∧
        (s.healsOf 0).find? (fun h => decide (h.flake = 0)) = some aHeal ∧ s.fmapOf 0 = aHeal.page ∧ s.firn 0 = c ∧
        s.healTurn aHeal = true ∧ (s.flakeTen 0).isSome = true ∧ (s.page 0 (pg 0)).body = .data 0 []) := by decide +kernel

/-- A migration's read of rank 2 that has come back uncorrectable. -/
def moved2 (retry : Bool) : Issued :=
  { burst { rd 4 2 with src := .migrate 2 0, dpa := dpa2 } retry with rank := 2, off := 0 }

theorem test_meets_RanksAreSparedAndHealed_page :
    (let s := (copyingTen false fClean).setChan 2 { noChan with issued := [moved2 true] }
     takeIssued (fun i => i.retry) (s.chan 2).issued = some (moved2 true, []) ∧
      (moved2 true).req.src = .migrate (moved2 true).rank 0 ∧ (moved2 true).req.dpa < s.assignable ∧
      s.firn (flakeOf (moved2 true).req.dpa) = fClean) ∧
    (let m := flakeOf dpa2
     let rd : PRead := ⟨pg 0, m, 3, false, 0, none⟩
     let s := (copyingTen false fClean).setChan 2 { noChan with issued := [moved2 false] }
     let s := s.setDie 0 { s.die 0 with reads := [rd] }
     let s := { s with shadow := { s.shadow with fmap := [(m, pg 0)] } }
     moved2 false ∈ (s.chan 2).issued ∧ (moved2 false).waitsPage m = true ∧ s.dpaOfRank 2 0 = dpa2 ∧
      (moved2 false).rank = (redir 0 false).source ∧ (moved2 false).off = (redir 0 false).watermark ∧
      s.runningCopy (dieOfRank 2) = some (2, redir 0 false) ∧
      (s.dram.chans.flatMap fun x => x.2.issued.filter fun j => j.waitsPage m) = [moved2 false] ∧
      takeRead (fun r => decide (r.page = pg 0) && r.res.isNone) (s.die 0).reads = some (rd, []) ∧
      s.flashHalted 0 = false ∧ s.lunReads 0 (lunOfBlk (blkOfPage (pg 0))) = true ∧ decodes [.weak] = true ∧
      s.pageReads 0 (pg 0) = true ∧ dpa2 < s.assignable ∧ (s.coverOf (dpa2 / driftBytes)).isSome = true ∧
      s.firn m = fClean ∧ s.fmapOf m = pg 0 ∧ (s.pageLine m dpa2 true).isSome = true) := by decide +kernel

theorem test_meets_QuadrantsHibernateAndReturn :
    (let s := [17, 19, 21, 23, 25, 27].foldl (fun t r => t.setRank r (up.rank 28))
        ((up.setReg 0x6911 6 15).setQuad 1 3 { up.quad 1 3 with st := 2 })
     let s := { s with aon := { s.aon with now := 10 ^ 13 } }
     s.aon.on = true ∧ 1 < s.n ∧ 3 < 4 ∧ s.mayHibernate 1 3 = true) ∧ up.mayHibernate 1 3 = false ∧
    (let s := up.setQuad 1 3 { up.quad 1 3 with st := 2, hibEntry := true }
     (s.quad 1 3).st = 2 ∧ (s.quad 1 3).hibEntry = true ∧ (s.quad 1 3).returning = false ∧ s.seq.st = 12) ∧
    (let s := up.setQuad 1 3 { up.quad 1 3 with st := 3 }
     (s.quad 1 3).st = 3 ∧ (s.quad 1 3).returning = false ∧ s.seq.st = 12 ∧ s.freeze.active = false) := by decide +kernel
def pack (b : Battery → Battery) : State := { armed with bat := b armed.bat }.setReg 0x7000 1 3000000

theorem test_meets_BatteryAccountFollowsItsEvents :
    (let s := pack fun b => { b with volts := 60000, amps := 1, learn := 1 }
     s.aon.on = true ∧ s.fullNow = true) ∧
    (let s := pack fun b => { b with q := 600000 }
     s.bat.counting = true ∧ s.bat.present = true ∧ 100 * (s.charge - s.allowance) ≤ s.reg 0x7000 4 * s.bat.fcc) ∧
    armed.mgmt.ready = true ∧ armed.dieOut 0 = false ∧ ({ armed with mgmt := { armed.mgmt with ready := false } } : State).mgmt.ready = false ∧
    (let s := { armed with aon := { armed.aon with now := 10 ^ 12 } }
     s.loadLate = true ∧ s.bat.decayAt = none ∧ s.bat.atFloor = false) ∧
    (let s := pack fun b => { b with decayAt := some 0 }
     let s := { s with aon := { s.aon with now := 30000000000 } }
     s.bat.decayAt = some 0 ∧ 30000000000 ≤ s.aon.now - 0) ∧
    (armed.bat.counting = true ∧ armed.bat.present = true) ∧
    (let s := pack fun b => { b with present := false }
     s.bat.present = false ∧ s.bat.counting = true) ∧
    (up.bat.present = false ∧ up.bat.counting = false) := by decide +kernel

theorem test_meets_LearnCyclesRunTheirSteps :
    (MayUse (pack id) (.mailbox 0 0) 0x7001 1 true ∧ (pack id).aon.on = true ∧ (pack id).mayLearn = true) ∧
    (MayUse up (.mailbox 0 0) 0x7001 1 true ∧ up.mayLearn = false) ∧
    (let s := pack fun b => { b with lost := true }
     MayUse s (.mailbox 0 0) 0x7004 1 true ∧ (List.replicate 16 (0 : Byte)).length = 16 ∧ s.bat.lost = true ∧
      s.bat.restored = false) ∧
    (let s := (pack id).setReg 0x7001 2 1000000 |>.setReg 0x7300 6 1
     s.timeValid = true ∧ s.reg 0x7001 2 ≠ 0 ∧ s.reg 0x7001 2 ≤ s.aon.deviceTime ∧ s.mayLearn = true) ∧
    (let s := pack fun b => { b with learn := 2, acc := -10 ^ 15, learnBase := 0 }
     s.bat.learn = 2 ∧ (100 - s.reg 0x7000 4) * s.bat.fcc ≤ 100 * s.countedOut) ∧
    (let s := pack fun b => { b with learn := 3 }
     s.bat.learn = 3 ∧ s.snowline < gib 1) ∧
    (let s := pack fun b => { b with learn := 4, volts := 0 }
     s.bat.learn = 4 ∧ s.bat.volts < s.reg 0x7000 0x0B) ∧
    ((pack fun b => { b with temp := 401 }).learnEvent .temperature).1 = true ∧
      (({ up with aon := { up.aon with now := 10 ^ 14 } } : State).learnEvent .timeLimit).1 = true := by
  refine ⟨⟨mayUse_sound (by decide +kernel), ?_⟩, ⟨mayUse_sound (by decide +kernel), ?_⟩,
    ⟨mayUse_sound (by decide +kernel), ?_⟩, ?_⟩ <;> decide +kernel

/-- Rail 1 of die 1 in a state. -/
def railIs (st : Nat) : State := up.setReg (ixRail 1 1) 9 st
def drainOf (dom port : Nat) : Drain := ⟨1, dom, callerOf (.mailbox port 0), false⟩
def draining (l : List Drain) : State := { up with seq := { up.seq with drains := l } }

theorem test_meets_RailsAndDomainsAreSupervised :
    (up.aon.on = true ∧ 1 < up.n ∧ (railIs 1).nextRail 1 = some 1 ∧ (railIs 1).railsRun 1 = true) ∧
    ((railIs 2).railSt 1 1 = 2 ∧ (railIs 2).mayFail 1 1 1 = true ∧ (railIs 2).lastAttempt 1 1 = false) ∧
    (up.railSt 1 1 = 3 ∧ up.mayFail 1 1 4 = true ∧ up.mayFail 1 23 4 = true) ∧
    ((railIs 4).railsRun 1 = true ∧ (railIs 4).railSt 1 1 = 4 ∧ (railIs 4).lastAttempt 1 1 = false ∧
      (railIs 4).parentsGood 1 1 = true) ∧
    (let s := { inSt up 14 with seq := { (inSt up 14).seq with release := [1] } }
     s.seq.release.elem 1 = true ∧ (s.nextRelease 1).isSome = true) ∧
    (let s := { State.reset with seq := { State.reset.seq with release := [1] } }
     s.seq.release.elem 1 = true ∧ s.nextRelease 1 = none ∧ s.freeze.active = false) ∧
    (∀ d ∈ [0, 1],
      let s := { inSt up 11 with seq := { (inSt up 11).seq with holds := [d] } }
      1 ≤ s.seq.st ∧ s.seq.st ≤ 11 ∧ s.seq.holds ≠ [] ∧ d ∈ s.seq.holds) ∧ (0 ∉ [1]) ∧
    (up.portBusy 2 = false ∧ up.portBusy 3 = false ∧ 2 ^ 30 - 1 < 2 ^ 30) ∧
    (let s := inTen.setChan 0 { noChan with reads := [{ rd 4 2 with port := 3 }] }
     9 ≤ 12 ∧ bitOf (2 ^ 30 - 1) (12 - 1) = true ∧ bitOf (s.reg 0x7111 2) (12 - 1) = false ∧
      s.portBusy (portOfDomain 1 12) = true) ∧
    (∀ l ∈ [[drainOf 12 0], [drainOf 12 0, drainOf 11 0], [drainOf 12 3, drainOf 11 3]],
      let s := draining l
      let x := l.headD (drainOf 12 0)
      s.seq.drains.filter (fun y => decide (y.die = 1) && decide (y.dom = 12) && !y.held) = [x] ∧
        s.seq.drains.find? (fun y => decide (y.die = 1) && decide (y.dom = 12) && !y.held) = some x ∧
        s.portBusy (portOfDomain 1 12) = false ∧ x.caller.gone = false ∧
        ((∃ y ∈ s.seq.drains.filter (fun y => decide (y ≠ x)), x.sameWrite y = true ∧ y.held = false) ∨ l.length = 1) ∧
        (x.caller.arrivedBy 3 = true ∨ x = drainOf 12 0)) ∧
    (let s := (up.setReg 0x7101 1 1000000).setReg 0x7300 6 1
     s.reg 0x7101 1 ≠ 0 ∧ s.reg 0x7101 1 ≤ s.aon.deviceTime ∧ s.timeValid = true) ∧ (3 ≤ up.seq.st ∧ up.seq.st ≤ 12) := by
  decide +kernel

theorem test_meets_RailsAndDomainsAreSupervised_rights :
    MayUse up mb 0x7111 2 true ∧ MayUse up mb 0x7111 4 true :=
  ⟨mayUse_sound (by decide +kernel), mayUse_sound (by decide +kernel)⟩

/-- Die 1's converter. -/
def adcIs (a : Adc) : State := up.setAdc 1 { a with running := true }
def trig (e code delay : Nat) (s : State) : State :=
  ((s.setReg (ixAdc 1 + 5 + e) 1 1).setReg (ixAdc 1 + 5 + e) 6 code).setReg (ixAdc 1 + 5 + e) 7 delay

theorem test_meets_ConverterServesItsEntries :
    (∀ a ∈ [noAdc, { noAdc with current := some 31 }, { noAdc with pending := [15] }, { noAdc with delayed := [15] }],
      ∀ delay ∈ [0, 1],
      let s := trig 15 2 delay (adcIs a)
      s.aon.on = true ∧ 1 < s.n ∧ Listens s 1 2 15 ∧ s.entryRuns 1 15 = true ∧ s.entryReg 1 15 7 = delay ∧
        s.timerRuns 1 2 = false ∧ (s.setAdc 1 { s.adcOf 1 with started := [2] }).timerRuns 1 2 = true) ∧
    (let s := adcIs { noAdc with current := some 31, injCh := 29 }
     (s.adcOf 1).current = some 31 ∧ s.adcRuns 1 = true ∧ (s.adcOf 1).pending = [] ∧ (s.adcOf 1).swapDue = false) ∧
    (∀ dest ∈ [1, 16, 32],
      let s := (adcIs { noAdc with current := some 15 }).setReg (ixAdc 1 + 5 + 15) 0x0A dest
      (s.adcOf 1).current = some 15 ∧ s.adcRuns 1 = true ∧ s.entryReg 1 15 0x0A = dest ∧ s.burstLength 1 15 = 1 ∧
        s.throttled 1 = false ∧ s.throttleDwelt 1 = true) ∧
    (let s := up.setAdc 0 { noAdc with running := true, current := some 0 }
     s.adcRuns 0 = true ∧ (s.adcOf 0).current = some 0 ∧ s.entryReg 0 0 0x0A = 2) ∧
    (-800 ≤ dieTemp20 1000 ∧ dieTemp20 1000 < 2000 ∧ 2000 ≤ dieTemp20 1500 ∧ dieTemp20 1500 ≤ 3000) ∧
    (let s := adcIs { noAdc with calibrated := true }
     s.adcFrozen = false ∧ s.entryRuns 1 1 = true ∧ (s.adcOf 1).stopped = false ∧ (s.adcOf 1).current = none) ∧
    (let s := adcIs { noAdc with calibrated := true, current := some 15, deferred := true }
     s.entryRuns 1 1 = true ∧ (s.adcOf 1).current ≠ none ∧ (s.adcOf 1).deferred = true ∧ (s.adcOf 1).calibrated = true) := by
  unfold Listens
  decide +kernel

theorem test_meets_ConverterServesItsEntries_learn :
    ∀ a ∈ [noAdc, { noAdc with current := some 31 }, { noAdc with pending := [4, 15] }],
      let s := (((up.setAdc 0 { a with running := true }).setReg (ixAdc 0 + 5 + 15) 1 1).setReg (ixAdc 0 + 5 + 15) 6 5)
      Listens s 0 4 4 ∧ s.entryRuns 0 4 = true ∧ Listens s 0 5 15 ∧ s.entryRuns 0 15 = true := by
  unfold Listens
  decide +kernel

theorem test_meets_ConverterServesItsEntries_rights :
    MayUse up mb (ixAdc 1) 8 true ∧ MayUse up .twoWire (ixAdc 1) 0x0C true ∧ MayUse up mb (ixAdc 1) 6 false :=
  ⟨mayUse_sound (by decide +kernel), mayUse_sound (by decide +kernel), mayUse_sound (by decide +kernel)⟩
def head : OdpHead := ⟨3, 5, 1⟩

/-- Session 3 open to node 5. -/
def sess (rx tx fails : Nat) : State :=
  let s := up.setSession 3 { noSession with isOpen := true, node := 5, rxCtr := rx, txCtr := tx, fails := fails }
  { s with bus := { s.bus with rackKey := some 1 } }

/-- A frame under the next counter of an open session is taken, whatever its MAC is. -/
theorem takesCtr_next {s : State} {sid node : Nat} (f : TxFrame) (h1 : sid < 4) (h2 : (s.session sid).isOpen = true)
    (h3 : (s.session sid).node = node) (h4 : (s.session sid).rxCtr + 1 ≤ lastCtr) :
    TakesCtr s sid node f (f.macOf (s.session sid).ks ((s.session sid).rxCtr + 1)) ((s.session sid).rxCtr + 1) :=
  ⟨h1, h2, h3, by omega, by omega, h4, rfl, by omega⟩

/-- Some MAC matches none of four counters. -/
theorem noCtr_exists (s : State) (sid : Nat) (f : TxFrame) : ∃ mac, NoCtr s sid f mac := by
  let m := fun k : Nat => f.macOf (s.session sid).ks ((s.session sid).rxCtr + 1 + k)
  obtain ⟨mac, -, h⟩ := Finset.exists_mem_notMem_of_card_lt_card
    (s := (Finset.range 4).image m) (t := (Finset.range 5).image (BitVec.ofNat 64))
    (Nat.lt_of_le_of_lt (Finset.card_image_le (s := Finset.range 4)) (by decide))
  refine ⟨mac, fun c h1 h2 e => h ?_⟩
  refine Finset.mem_image.2 ⟨c - (s.session sid).rxCtr - 1, by simp; omega, ?_⟩
  rw [← e]
  simp only [m]
  congr 1
  omega

theorem test_meets_SessionCountersFollowTheirRule :
    (let s := sess 7 7 0
     HearsFrom s head.src ∧ 3 < 4 ∧ 8 < lastCtr ∧ (s.session 3).txCtr + 1 < lastCtr ∧
      ∀ f, ∃ mac, TakesCtr s 3 head.src f mac 8) ∧
    (let s := sess (lastCtr - 1) (lastCtr - 1) 0
     HearsFrom s head.src ∧ (s.session 3).txCtr + 1 = lastCtr ∧ ∀ f, ∃ mac, TakesCtr s 3 head.src f mac lastCtr) ∧
    (let s := sess 7 7 7
     HearsFrom s head.src ∧ (s.session 3).isOpen = true ∧ (s.session 3).node = head.src ∧
      ∀ f, ∃ mac, NoCtr s 3 f mac) ∧
    (HearsFrom up head.src ∧ (up.session 3).isOpen = false) ∧ (sess 7 7 0).session 3 ≠ noSession := by
  refine ⟨⟨?_, ?_, ?_, ?_, fun f => ⟨_, takesCtr_next f ?_ ?_ ?_ ?_⟩⟩, ⟨?_, ?_, fun f => ⟨_, takesCtr_next f ?_ ?_ ?_ ?_⟩⟩,
    ⟨?_, ?_, ?_, noCtr_exists _ 3⟩, ?_, ?_⟩ <;> (try unfold HearsFrom) <;> decide +kernel

/-- The same session with a segmented transfer, or receiving an image. -/
def seg (rx : Bool) (data : Bytes) (total next : Nat) : Segment :=
  { num := 9, sid := 3, head := head, rx := rx, idx := 0x5000, sub := 1, off := 0, total := total, data := data
    next := next, paused := !rx, lastAt := 0 }
def segs (g : Segment) : State := { sess 7 7 0 with bus := { (sess 7 7 0).bus with segments := [g] } }
def image (len : Nat) (byDesc : Bool) : Transfer :=
  { byDesc := byDesc, onBus := byDesc, slot := 1, len := len, id := 0, hash := [], chunks := [], bufs := [], nextPage := 0
    programming := false, ended := false }
def loading (s : State) (x : Transfer) : State := { s with fw := { s.fw with slot1 := 1, transfer := some x } }

/-- In a session a frame comes in its turn under the next counter, whatever its content. -/
theorem inTurn_next {s : State} {h : OdpHead} {sid : Nat} (f : TxFrame) (h0 : HearsFrom s h.src) (h1 : sid < 4)
    (h2 : (s.session sid).isOpen = true) (h3 : (s.session sid).node = h.src)
    (h4 : (s.session sid).rxCtr + 1 < lastCtr) (h5 : (s.session sid).txCtr + 2 < lastCtr) :
    ∃ mac, InTurn s h sid f mac ((s.session sid).rxCtr + 1) :=
  ⟨_, h0, takesCtr_next f h1 h2 h3 (by omega), h4, h5⟩

theorem test_meets_FieldBusServicesDoTheirWork_turn :
    ∀ s ∈ [sess 7 7 0, segs (seg true [] 1 1), segs (seg false [] 60 2), loading (sess 7 7 0) (image 100 true)],
      ∀ f, ∃ mac, InTurn s head 3 f mac ((s.session 3).rxCtr + 1) := by
  intro s hs f
  have h : HearsFrom s head.src ∧ (s.session 3).isOpen = true ∧ (s.session 3).node = head.src ∧
      (s.session 3).rxCtr + 1 < lastCtr ∧ (s.session 3).txCtr + 2 < lastCtr := by
    revert s
    unfold HearsFrom
    decide +kernel
  exact inTurn_next f h.1 (by decide) h.2.1 h.2.2.1 h.2.2.2.1 h.2.2.2.2

theorem test_meets_FieldBusServicesDoTheirWork :
    (let s := sess 7 7 0
     HearsFrom s head.src ∧ s.bus.rackKey = some 1 ∧ (s.session 0).isOpen = false ∧
      s.sessionBusy 3 = false ∧ s.segmentsFull 3 = false ∧ s.busTransfer = none ∧ up.bus.rackKey = none ∧
      (List.replicate 40 (0 : Byte)).length ≤ 40 ∧ 41 ≠ (List.replicate 40 (0 : Byte)).length ∧ 4084 ≤ 4084 ∧
      slottedIndex 0x5000 1 = false ∧ classify s.n 0 = none ∧ slottedIndex 0 1 = false) := by
  unfold HearsFrom
  decide +kernel

theorem test_meets_FieldBusServicesDoTheirWork_transfers :
    (let s := segs (seg true [] 1 1)
     s.sessionBusy 3 = true ∧
      s.bus.segments.find? (fun e => e.rx && decide (e.sid = 3)) = some (seg true [] 1 1) ∧ (1 + 1) % 16 ≠ 0 ∧
      ([] ++ [(64 : Byte)]).length = (seg true [] 1 1).total ∧ ([] ++ ([] : Bytes)).length ≠ (seg true [] 1 1).total ∧
      s.bus.segments.find? (fun e => decide (e.num = 9)) = some (seg true [] 1 1) ∧ (s.session 3).isOpen = true ∧
      (s.session 3).node = head.src ∧ (s.session 3).txCtr + 1 < lastCtr) ∧
    (let s := segs (seg true [] 1 1)
     ({ s with aon := { s.aon with now := 10 ^ 9 } } : State).segmentLate (seg true [] 1 1) = true) := by
  decide +kernel

theorem test_meets_FieldBusServicesDoTheirWork_sending :
    (∀ data ∈ [([] : Bytes), List.replicate 52 7],
      let s := segs (seg false data 60 2)
      1 + 1 = (seg false data 60 2).next ∧ data.length ≤ 52 ∧
      s.bus.segments.find? (fun e => !e.rx && decide (e.sid = 3) && decide (e.head.src = head.src) &&
        decide (e.head.tag = head.tag)) = some (seg false data 60 2)) := by
  decide +kernel

theorem test_meets_FieldBusServicesDoTheirWork_image :
    (∀ tokens ∈ [0, 16],
      let s := loading { sess 7 7 0 with bus := { (sess 7 7 0).bus with tokens := tokens } } (image 100 true)
      s.busTransfer = some (image 100 true) ∧ 2 < (image 100 true).count ∧
        [(1 : Byte), 2, 3, 4].length = min 48 ((image 100 true).len - 48 * 2) ∧ s.bus.tokens = tokens ∧
        (image 100 true).fits (48 * 2) 4 = true) := by
  decide +kernel

theorem test_meets_FieldBusServicesDoTheirWork_objects :
    let s := afterFrame (sess 7 7 0) 3 8
    MayRead (sess 7 7 0).heard (.fieldBus head 31) .ident (rowAt .ident 2) 0x1000 mostBytes ∧
      MayRead s (.fieldBus head 3) .classPkg (rowAt .classPkg 1) 0x5000 mostBytes ∧
      MayWrite s (.fieldBus head 3) .classPkg (rowAt .classPkg 1) 0x5000 0 [64] ∧ plainObject .classPkg 1 = true ∧
      (rowAt .classPkg 1).sub = 1 ∧ s.barred .classPkg 1 (s.legal .classPkg 1 (clampRaw (rowAt .classPkg 1) 64)) = false := by
  unfold MayRead MayWrite
  simp only [reduceCtorEq, false_and, not_false_eq_true, implies_true, and_true]
  decide +kernel

/-- A read that goes on without a session is under session number 31. -/
theorem test_meets_FieldBusServicesDoTheirWork_plain :
    let g := { seg false [] 60 2 with sid := 31 }
    HearsFrom (segs g) head.src ∧ 4 ≤ 31 ∧ (segs g).bus.segments.find? (fun e => !e.rx && decide (e.sid = 31) &&
      decide (e.head.src = head.src) && decide (e.head.tag = head.tag)) = some g := by
  unfold HearsFrom
  decide +kernel

/-- Every session is open to another node: an OPEN has no place. -/
theorem test_meets_FieldBusServicesDoTheirWork_full :
    let s := [0, 1, 2, 3].foldl (fun t k => t.setSession k { noSession with isOpen := true, node := 6 }) up
    HearsFrom s head.src ∧ ∀ j, j < 4 → (s.session j).isOpen = true ∧ (s.session j).node ≠ head.src := by
  unfold HearsFrom
  decide +kernel
def synced (rack : Nat) : State :=
  { sess 7 7 6 with
    bus := { (sess 7 7 6).bus with syncs := [(2, rack, 0)], tx := [respBare head 1 31 []] }
    aon := { up.aon with now := 2000000000 } }

theorem test_meets_BusConfinementAndTimeSync :
    (let s := synced 5
     s.aon.on = true ∧ s.busLive = true ∧ s.mgmt.ready = true ∧
      s.bus.syncs.find? (fun x => decide (s.aon.now - x.2.2 ≤ 2000000000) && decide (x.1 = 2)) = some (2, 5, 0) ∧
      5 ≠ s.build.node ∧ s.reg 0x1102 1 < 1004 ∧ s.reg 0x1102 1 < 1005 ∧ s.bus.tx.head?.any (fun f => decide (1000000000 ≤ s.aon.now - f.queuedAt)) = true ∧ 1 ≤ s.bus.st ∧
      (s.session 3).isOpen = true ∧ HearsFrom s 5 ∧ (s.session 3).node = 5 ∧ (s.session 3).fails < 7) ∧
    ({ sess 7 7 0 with aon := { up.aon with now := 10 ^ 14 } } : State).sessionIdle 3 = true ∧
    ({ up with bus := { up.bus with st := 3 } } : State).bus.st = 3 := by
  unfold HearsFrom
  decide +kernel

theorem test_meets_BusConfinementAndTimeSync_follow :
    ∃ mac, (synced 5).followVerifies head ⟨2, 1004⟩ mac = true ∧ (synced 5).followVerifies head ⟨2, 1004⟩ (mac + 1) = false := by
  refine ⟨(followFrame head ⟨2, 1004⟩).macOf (timeKey 1) (1004 % 2 ^ 32), ?_, ?_⟩ <;>
    simp [State.followVerifies, show (synced 5).bus.rackKey = some 1 from rfl]

/-- The two-wire port with a control block (17 Table 17.1): index, subindex, length, offset, command and data. -/
def wireIs (w : Wire → Wire) : State := { up with wire := w up.wire }
def block (isWrite : Bool) : State :=
  wireIs fun w => { w with mem := [(1, 0x70), (2, 4), (3, 1), (16, 50)], armed := some ⟨isWrite⟩ }

theorem test_meets_TwoWirePortDoesItsOperations :
    (up.aon.on = true ∧ up.wireAcks = true ∧ up.wire.armed = none ∧ up.wire.busy = none ∧
      (15 : Byte).toNat + [(1 : Byte)].length ≤ 256 ∧ (inSt up 13).wireAcks = false) ∧
    ((wireIs fun w => { w with busy := some ⟨false⟩ }).wire.busy.isSome = true ∧ (7 : Byte) ≠ 15) ∧
    (∀ w ∈ [true, false], (block w).wire.armed = some { isWrite := w } ∧ leNat ((block w).wireBytes 0 2) = 0x7000 ∧
      leNat ((block w).wireBytes 2 1) = 4 ∧ leNat ((block w).wireBytes 4 3) = 0 ∧
      1 = min 240 (leNat ((block w).wireBytes 3 1))) ∧ (rowAt .bat0 4).sub = 4 ∧
    (let s := wireIs fun w => { w with notify := some (1, 0) }
     s.sidebandOn = true ∧ s.wire.attempting = false ∧ s.wire.lastEnd = 0 ∧ s.spaced s.wire.notifyAt = true) ∧
    (let s := wireIs fun w => { w with notify := some (1, 0), lastEnd := 1, retries := 7 }
     let s := { s with aon := { s.aon with now := 128000000 } }
     s.wire.attempting = false ∧ s.sidebandOn = true ∧ s.wire.lastEnd ≠ 0 ∧ s.retryDue = true ∧ s.wire.retries < 8) ∧
    (let s := wireIs fun w => { w with notify := some (1, 0), lastEnd := 1, retries := 8, attempting := true }
     8 ≤ s.wire.retries ∧ 1 ≤ s.bus.st ∧ s.domainOn 0 7 = true ∧ s.spaced s.bus.attn1 = true) ∧
    (let s := wireIs fun w => { w with notify := some (1, 0), lastEnd := 1, retries := 7, attempting := true }
     s.wire.notify = some (1, 0) ∧ s.wire.attempting = true ∧ s.wire.lastEnd ≠ 0 ∧ s.wire.retries < 8 ∧
      NotifyEnd.noFreeBus ≠ .success ∧ 1 ≤ s.bus.st ∧ s.domainOn 0 7 = true ∧ s.spaced s.bus.attn1 = true) := by decide +kernel

theorem test_meets_TwoWirePortDoesItsOperations_objects :
    MayRead (block false) .twoWire .bat0 (rowAt .bat0 4) 0x7000 1 ∧
      MayWrite (block true) .twoWire .bat0 (rowAt .bat0 4) 0x7000 0 ((block true).wireBytes 0x10 1) ∧
      plainObject .bat0 4 = true ∧ (block true).barred .bat0 4 50 = false := by
  unfold MayRead MayWrite
  simp only [reduceCtorEq, false_and, not_false_eq_true, implies_true, and_true]
  decide +kernel

theorem test_meets_WritesOutsideTheRangeTakeTheNearestValue :
    let write := fun (o : Origin) (c : Cls) (sub idx : Nat) (data : Bytes) =>
      MayWrite up o c (rowAt c sub) idx 0 data ∧ plainObject c (rowAt c sub).sub = true ∧
        up.barred c (rowAt c sub).sub (up.legal c (rowAt c sub).sub (clampRaw (rowAt c sub) (leNat data))) = false
    write .twoWire .bat0 4 0x7000 [51] ∧ write .twoWire .bat0 4 0x7000 [9] ∧ write .twoWire (.entry 1 15) 3 0x7234 [7] ∧
      write mb .bat3 4 0x7003 (leBytes 8 16383) ∧
      MayWrite up .twoWire (.timer 1 2) (rowAt (.timer 1 2) 1) (ixAdc 1 + 3) 0 (leBytes 4 100) ∧
      up.barred (.timer 1 2) 1 (up.legal (.timer 1 2) 1 (clampRaw (rowAt (.timer 1 2) 1) 100)) = false := by
  unfold MayWrite
  decide +kernel

theorem test_meets_DictionaryWritesAreChecked :
    (up.aon.on = true ∧ up.reaches mb = true ∧ slottedIndex 0x5000 1 = false ∧ classify up.n 0x5FFF = none ∧
      classify up.n 0x5000 = some .classPkg ∧ findRow 255 (Cls.classPkg.rows up.n) = none ∧
      findRow 1 (Cls.classPkg.rows up.n) = some (rowAt .classPkg 1) ∧
      (up.rightOf mb .classPkg (rowAt .classPkg 1) 0x5000).writes = true ∧ 0 < (rowAt .classPkg 1).ty.size ∧
      [(0 : Byte), 1].length ≠ (rowAt .classPkg 1).ty.size) ∧
    (up.rightOf mb .ident (rowAt .ident 2) 0x1000).writes = false ∧
    ((up.rightOf (.fieldBus head 31) .classPkg (rowAt .classPkg 1) 0x5000).writes = true ∧
      up.inSession (.fieldBus head 31) = false) ∧
    (15 < 8 * up.n ∧ up.class0Uses [15] = false ∧ 1 < up.n ∧ up.class0Uses (chansOf 1 3) = false) ∧
    (let s := withTen up { tenant with cls := 0 }
     s.class0Uses [0] = true ∧ s.class0Uses (chansOf 0 0) = true) := by decide +kernel

theorem test_meets_DictionaryWritesAreChecked_state :
    MayWrite inTen mb .map (rowAt .map 1) 0x2800 0 [2] ∧ plainObject .map 1 = true ∧ slottedIndex 0x2800 1 = false ∧
      inTen.barred .map 1 (inTen.legal .map 1 (clampRaw (rowAt .map 1) 2)) = true := by
  unfold MayWrite
  decide +kernel

theorem test_meets_DictionaryWritesAreChecked_target :
    MayWrite up mb (.classPort 0) (rowAt (.classPort 0) 1) 0x5010 0 (leBytes 4 2000) ∧ slottedIndex 0x5010 1 = false ∧
      up.barred (.classPort 0) 1 (up.legal (.classPort 0) 1 (clampRaw (rowAt (.classPort 0) 1) 2000)) = false ∧
      up.reg 0x5010 1 ≠ 2000 ∧ up.seq.st ≠ 14 ∧ (up.recorder 0).queue.length < 32 := by
  unfold MayWrite
  decide +kernel

theorem test_meets_DictionaryWritesAreChecked_rights :
    MayUse up mb (ixChan 15) 5 true ∧ MayUse up mb (ixQuad 1 3) 2 true ∧ MayUse up mb 0x1110 1 true :=
  ⟨mayUse_sound (by decide +kernel), mayUse_sound (by decide +kernel), mayUse_sound (by decide +kernel)⟩
def mail : Transfer := { image (16 * 2 ^ 20) false with len := 16 * 2 ^ 20 }
def staged (k : Nat) : State := { up with fw := { up.fw with slot0 := if k = 0 then 2 else 4, slot1 := if k = 1 then 2 else 0 } }

theorem test_meets_FirmwareTransfersAndActivations :
    (MailboxOpen up 0 0 ∧ up.realm mb = .hostOwner ∧ (List.replicate 4096 (0 : Byte)).length ≤ 4096 ∧
      up.openBarred (mib 16) = false ∧ up.mailTransfer = none ∧ up.receiving = none ∧ up.slotSt (1 - 1) ≠ 2) ∧
    ((loading up mail).receiving.isSome = true ∧ (loading up mail).mailTransfer = some mail ∧
      128 * 131071 + 128 ≤ mail.len ∧ mail.fits (128 * 131071) 128 = true ∧ 1 ≠ mail.slot + 1 ∧ 0 < 128 * 131071 + 128) ∧
    (let x := { mail with bufs := [⟨3, []⟩, ⟨4, []⟩] }
     x.fits (16384 * 9) 128 = false) ∧
    (let s := up.setReg 0x1302 1 5
     s.receiving = none ∧ s.openBarred (mib 16) = true) ∧
    (let s := (staged 1).setReg 0x7300 6 1
     MailboxOpen s 0 0 ∧ s.slotSt (2 - 1) = 2 ∧ s.timeValid = true ∧ s.slotSt (2 - 2) ≠ 2 ∧ s.slotIn 2 ≠ none ∧
      s.aon.deviceTime + 1000000 ≤ 2000000 ∧ 1999999 < s.aon.deviceTime + 1000000) ∧
    (let s := ((staged 1).setReg 0x7300 6 1).setReg 0x1302 1 1000000
     s.reg 0x1302 1 ≠ 0 ∧ s.timeValid = true ∧ s.reg 0x1302 1 ≤ s.aon.deviceTime ∧ s.seq.st = 12 ∧
      s.freeze.active = false ∧ s.mgmt.heldInReset = false ∧ s.dieOut 0 = false ∧ s.slotIn 2 ≠ none) ∧
    (let x := { mail with programming := true }
     let s := loading up x
     s.receiving = some x ∧ x.programming = true ∧ s.slotErased = true ∧ s.slotFits x.slot = true ∧
      (s.bootAddr 8 x.slot x.nextPage).isSome = true ∧
      ({ s with fw := { s.fw with bootErase := [(s.bootAddr 0 x.slot 0).getD 0 / 2 ^ 20] } } : State).slotErased = false) ∧
    (let x := image (48 * 1000) true
     (loading up x).receiving = some x ∧ x.byDesc = true ∧ 48 * 999 + 48 ≤ x.len ∧ x.fits (48 * 999) 48 = true) ∧
    ((List.replicate 64 (1 : Byte)).length = 64 ∧ up.openBarred (leAt (leBytes 64 (16 * 2 ^ 20)) 0 4) = false ∧
      up.openBarred (leAt (leBytes 64 (16 * 2 ^ 20 + 1)) 0 4) = true) ∧ (up.reaches mb = true ∧ up.realm mb ≠ .tenant ∧
      up.reaches (.fieldBus head 31) = true ∧ up.segmentsFull 31 = false) := by
  unfold MailboxOpen
  decide +kernel

theorem test_meets_FirmwareTransfersAndActivations_rights :
    MayUse up mb 0x1301 1 true ∧ MayUse (loading up mail) mb 0x1301 7 true ∧ MayUse (loading up mail) mb 0x1301 8 true ∧
      MayUse up mb 0x1302 1 true :=
  ⟨mayUse_sound (by decide +kernel), mayUse_sound (by decide +kernel), mayUse_sound (by decide +kernel),
    mayUse_sound (by decide +kernel)⟩

theorem test_meets_ClockFaultsAndManagementRestarts :
    (up.aon.on = true ∧ 1 < up.n ∧ isPll 10 = true ∧ up.clockRuns 1 10 = true ∧ (up.seq.st ≠ 0 ∧ up.seq.st ≠ 14) ∧
      (up.clk 0).holdover = false ∧ 1 ≤ up.seq.st) ∧
    (∀ d ∈ [0, 1], ∀ k ∈ [1, 2, 5], k ∈ ((up.setClk d { noClocks with unlocked := [k] }).clk d).unlocked) ∧
    (up.clockRuns 1 23 = true ∧ (inSt up 14).clockRuns 1 23 = false ∧ up.clockRuns 1 24 = true) ∧
    (up.mgmt.heldInReset = false ∧ up.dieOut 0 = false ∧ up.ten.settling = none ∧ up.freeze.active = false ∧ 3 ≤ up.seq.st ∧ up.seq.st ≠ 13 ∧ up.seq.st ≠ 14 ∧
      up.mgmt.ready = true ∧ up.mgmt.watchdogArmed = true) ∧
    (∀ fails ∈ [0, 1, 2],
      let s := { up with mgmt := { up.mgmt with ready := false, restarting := some 3, fails := fails } }
      let s := { s with aon := { s.aon with now := 10000000000 } }
      s.mgmt.restarting = some 3 ∧ s.mgmt.fails = fails ∧ 10000000000 ≤ s.aon.now - s.mgmt.since) ∧
    (({ up with fw := { up.fw with trying := some 1 } } : State).fw.trying = some 1) ∧ (inSt up 14).seq.st = 14 := by
  decide +kernel

theorem test_meets_ClockFaultsAndManagementRestarts_right : MayUse up mb 0x7300 1 true := mayUse_sound (by decide +kernel)

theorem test_meets_AonSupplyLossKeepsTheLedgersAlone :
    up.aon.on = true ∧ ({ up with aon := { up.aon with on := false } } : State).aon.on = false ∧
      objKeep up.n (okey 0x7000 4) = .ledger ∧ objKeep up.n (okey 0x7300 3) ≠ .ledger ∧ up.ten.retiring = [] ∧ up.ten.settling = none ∧
      (up.bat.counting = false ∨ Config.cutsRecord up.freeCount = false) := by
  decide +kernel

/-! Worked examples of the spec, one command or one computation each. -/
/-- 16, 05, 07: objects of global rank 91, and of tenancy 300. -/
theorem test_object_indices :
    ixRank 91 = 0x45A2 ∧ ixTrainRank 91 = 0x4DA2 ∧ ixChan 45 = 0x45A0 ∧ ixQuad 5 2 = 0x4583 ∧ ixPer 0x5810 300 = 0x5812 ∧
      subPer 300 = 0x2D ∧ ixShadow 5 = 0x5D40 ∧ ixFlash 4 13 = 0x641D ∧ ixRail 3 6 = 0x718E ∧ ixPort 5 = 0x2210 := by decide

/-- A full SW7408: 128 ranks of 1 TiB, the spare at local rank 15, 12 LUNs on every flash channel. -/
def full : State :=
  { up with
    build := { up.build with
      variant := .sw7408
      nand := (List.range 128).flatMap fun f => (up.build.nand.take 1).map fun e => (f, { e.2 with ces := 6 }) }
    dram := { up.dram with
      ranks := (List.range 128).map fun r => (r, { noRank with train := 1, st := 1, trained := true, density := 64, stack := 8 })
      spareMask := (List.range 8).map fun d => (d, 2 ^ 15) }
    regs := (List.range 8).flatMap fun d => (List.range 16).map fun f => (okey (ixFlash d f) 1, 1) }

/-- 03: the decode of DPA 0x0123456789C0. -/
theorem test_decode_of_a_dpa : full.place 0x0123456789C0 = { die := 3, rank := 50, off := 0x48D14F1C0 } ∧
    flakeOf 0x0123456789C0 = 0x048D159E ∧ full.homeDie 0x048D159E = 3 ∧ full.mapTotal 0 = 491520 := by decide +kernel

/-- 09, 11: t0 of a full SW7408 is 0.20114 s; kt is 0.80 at 0 degrees and 1.00 at 20 degrees. -/
theorem test_energy_terms : full.t0 = 201140 ∧ ktOf 0 = 8000 ∧ ktOf 200 = 10000 := by decide +kernel

/-- The small SW7402: one 256 GiB rank on every channel, the last of each die the spare. -/
def small02 : State := { armed with dram := { armed.dram with spareMask := [(0, 2 ^ 14), (1, 2 ^ 14)] } }

/-- 03: A and U_d; 09: the map, and the budget limited by freeze time. -/
theorem test_small_sw7402 : small02.usable 0 = gib 1792 ∧ small02.assignable = gib 3584 - mib 1680 ∧
    small02.mapBytes 0 = 939999232 ∧ small02.freezeCeiling = 333333333333 ∧ small02.budget = 333333331968 ∧ small02.limiting = 1 := by decide +kernel

/-- 08: the fields of entry 0x8B2C_0123_4000, channel 1, chip enable 3, LUN 0. -/
theorem test_page_address_fields : lunOfBlk (blkOfPage 0x8B2C01234000) = 32 + 4 * 3 ∧
    blkOfPage 0x8B2C01234000 % 2 ^ 18 = 2 * 2 ^ 16 + 0xC012 := by decide

/-- 05: one nibble's read delay sweep passes at codes 12–19 and 38–71. -/
theorem test_widest_run :
    let l := eye 12 8 38 ++ List.replicate 34 16 ++ List.replicate 56 0
    widestRun delayMinimum l = some (38, 34) ∧ (widestRun delayMinimum l).map centreOf = some 54 := by decide +kernel

/-- 01: die 0 reaches die 6 by link B to die 2, then C; with link A of die 0 down on a SW7404, die 1 is
three hops away. -/
theorem test_routes : full.route 0 6 = some [(0, 1), (2, 2)] ∧ full.route 6 0 = some [(6, 1), (4, 2)] ∧
    (let s := { up with build := { up.build with variant := .sw7404 }, hosts := { up.hosts with dieLinks := [(0, ⟨3, 0, 0, 0, false⟩)] } }
     s.route 0 1 = some [(0, 1), (2, 0), (3, 1)]) := by decide +kernel

/-- 15: node 1 reads the part number of a SW7408 strapped as node 18. -/
theorem test_read_of_the_part_number :
    let s := { full with regs := up.regs, build := { full.build with node := 18 } }
    headOf 0x1049015A = ⟨4, 1, 0x5A⟩ ∧
    (after s (.odpRead ⟨4, 1, 0x5A⟩ 0x1000 1 0)).bus.tx.map (fun f => (f.ident, f.bytes.take 18)) =
      [(0x1040925A, [0x9F, 14, 0, 0, 0, 0, 0, 0, 6, 0, 0, 0, 0x53, 0x57, 0x37, 0x34, 0x30, 0x38])] := by decide +kernel

/-- 17: the board reads Q = 1,050 C over the two-wire port: the transaction arms the read, which leaves the
control block and window of the example. -/
theorem test_two_wire_read_of_q :
    (after up (.twoWireWrite [0, 2, 0x70, 4, 4, 0, 0, 0, 1] .stop)).wire.armed = some ⟨false⟩ ∧
    (let s := { up with
        bat := { up.bat with q := 1050000, anchored := true, present := true }
        wire := { up.wire with mem := [(0, 2), (1, 0x70), (2, 4), (3, 4)], armed := some ⟨false⟩ } }
     (after s .twoWireReadCommand).wireBytes 8 12 = [0, 0, 2, 4, 0, 0, 0, 0, 0x90, 0x05, 0x10, 0]) := by decide +kernel

/-- 19: the loss record of die 3's storm. -/
theorem test_loss_record :
    let r := { noRecorder with nextSeq := 0x12A40, lost := 37, lostFirst := 0x3B9ACA00, lostLast := 0x3B9ACA00 }
    let s := (full.setRecorder 3 r).setReg 0x7300 6 1
    (List.range 5).map (look 0 ((after s (.recordWrite 3)).recorder 3).ring) =
      [0x00012A4012011060, 0x000100003B9ACA00, 0x25, 0x3B9ACA00, 0x00012A40FFFED5BF] := by decide +kernel

/-- 13: entry 0 of die 0 sees −5 mV, code −46, after 100.82 us: −1.0107 A. -/
theorem test_charge_count :
    let s := up.setAdc 0 { noAdc with running := true, current := some 0 }
    let t := after s (.conversionComplete 0 [-5000] 20164)
    t.bat.acc = -46 * 20164 ∧ t.bat.amps = -1011 := by decide +kernel

/-- 20: a die at 100.1 degrees engages its throttle; at 96.9 degrees within the dwell it stays engaged. -/
def heat (engaged : Nat) (now : Nat) : State :=
  let s := ((adcIs { noAdc with current := some 5, throttleAt := some 10000000, judged := true }).setReg (ixAdc 1 + 10) 0x0A 32)
  { s with aon := { s.aon with now := now } }.setReg 0x1011 6 engaged

theorem test_throttle :
    (after (heat 0 120000000) (.conversionComplete 1 [656103] 0)).reg 0x1011 6 = 1 ∧
    (after (heat 1 50000000) (.conversionComplete 1 [650391] 0)).reg 0x1011 6 = 1 ∧
    (after (heat 1 120000000) (.conversionComplete 1 [650391] 0)).reg 0x1011 6 = 0 := by decide +kernel

/-- 06: a class 1 target of 1,000 ns over two hops: q is 908 ns. -/
theorem test_urgency :
    let q := { rd 4 1 with dpa := 6 * 2 ^ 21 }
    let s := fun age : Nat => { full with aon := { full.aon with now := age } }.setReg 0x5010 1 1000
    (s 0).allowanceOf q = 908 ∧ [453, 454, 681, 795, 908].map (fun a => (s a).urgency q) = [0, 2, 4, 6, 7] := by
  decide +kernel

/-- 12: rail 6 of die 3 reads below half its target in mid-window on its second attempt. -/
theorem test_rail_fails :
    let s := inSt { full with regs := (List.range 192).map (fun i => (okey (0x7140 + i) 9, 3)), seq := { full.seq with cfg := [(okey (ixRail 3 6) 6, 1250), (okey (ixRail 3 6) 1, 4), (okey (ixRail 3 6) 7, 2)] } } 4
    let s := (((s.setReg (ixRail 3 6) 9 2).setReg (ixRail 3 6) 0x0B 2).setReg (ixRail 3 6) 0x0C 180).setAdc 3 { noAdc with running := true }
    let t := after s (.railFail 3 6 3)
    t.reg 0x718E 9 = 4 ∧ t.reg 0x718E 0x0A = 3 ∧ t.reg 0x718E 0x0B = 2 ∧ t.valueOf .board 0x7113 5 = 0x40 := by decide +kernel

/-- The zero line of a fresh tenancy, and a write that reads back (04 R86, R104). -/
theorem test_read_returns_the_line :
    let s := chanIs { noChan with issued := [burst (rd 4 2) false] }
    (after s (.dramReadComplete 0 [])).out = [.memData 0 0 3 0 false] := by decide +kernel

theorem test_write_joins :
    ((after inTen (.cxlMemWrite 0 0 7 0x1000 5)).chan 0).writes.map (fun q => (q.dpa, q.data)) = [(0x1000, 5)] ∧
      (after inTen (.cxlMemWrite 0 0 7 0x1000 5)).out = [.cmp 0 0 7] := by decide +kernel

theorem test_fence : ((after inTen (.fence mb 0)).tenancy 0).st = 2 := by decide +kernel

theorem test_power_fail_freezes :
    (after armed .pwrfailDetect).seq.st = 13 ∧ (after armed .pwrfailDetect).freeze.active = true ∧
      (after armed .pwrfailDetect).hosts.stopped = true := by decide +kernel

theorem test_idle_tick : (match step up with | .next t => t.aon.now | _ => 0) = 1 := by decide +kernel

/-! Ill-formed commands: one for every check of WellFormed.lean. -/
def goodHead : OdpHead := ⟨7, 126, 255⟩

theorem test_wf_addresses_refused :
    ∀ c ∈ [Instr.cxlMemRead 16 0 0 0, .cxlMemRead 0 4 0 0, .cxlMemRead 0 0 65536 0, .cxlMemRead 0 0 0 (2 ^ 52),
      .cxlMemRead 0 0 0 32, .cxlMemWrite 0 0 0 1 0, .cxlMemPartialWrite 0 0 0 1 0 0, .perstNFall 16, .perstNRise 16,
      .class0TokenRefill 0 4, .cxlIoRequest 0 0 (.hdm 4 0) none, .cxlIoRequest 0 0 (.hdm 0 4) none,
      .cxlIoRequest 0 0 (.msix 16) none, .linkTrainingDone 0 0 ⟨16, true, true⟩, .flitCrcFailure 8 0, .flitCrcFailure 0 3,
      .linkRetrain 0 3, .linkRetrainEnd 0 3 true [], .routeHoldEnd 8 0, .getEventRecords 0 0 4,
      .clearEventRecords 0 0 4 true [], .clearEventRecords 0 0 0 false [65536], .setEventInterruptPolicy 0 0 (2 ^ 32),
      .setAlertConfig 0 0 (2 ^ 64), .setShutdownState 0 0 256, .transferFwEnd 0 0 256 0 [], .getPoisonList 0 0 1 0,
      .tableAccess 0 0 65536, .getCertificate 0 0 0 0 (2 ^ 32)], c.wf = false := by decide +kernel

theorem test_wf_numbers_refused :
    ∀ c ∈ [Instr.create .twoWire 1024, .create (.mailbox 16 0) 0, .create (.fieldBus ⟨0, 0, 0⟩ 0) 0, .create (.fieldBus ⟨0, 127, 0⟩ 0) 0,
      .create (.fieldBus ⟨0, 1, 0⟩ 32) 0, .tenancyFieldWrite .twoWire 0 256 0, .tenancyFieldWrite .twoWire 0 2 (2 ^ 64),
      .keyLoad .twoWire 0x33FF [], .keyLoad .twoWire 0x3840 [], .keyZeroise .twoWire 0x3400 256, .commandSlot 128,
      .pageIdleTimeout 0 2 0, .pageIdleTimeout 0 0 256, .refreshDue 0 128 0 0, .refreshDue 0 0 8 0, .refreshDue 0 0 0 4,
      .mr4Poll 0 .single 256, .dramReadComplete 0 [10], .dramReadComplete 0 [2, 1], .retryReadComplete 0 [1, 1],
      .caParityError 64 none, .caParityError 0 (some 128), .quadrantIdle 0 4, .trainingDone 0 0 [silentTrain],
      .trainingDone 0 0 (List.replicate 4 ⟨.gateFails 8 1, .silent⟩), .trainingDone 0 0 (List.replicate 4 ⟨.silent, .gateFails 16 3⟩),
      .trainingDone 0 0 (List.replicate 4 ⟨.swept 32 4 [] true (counts 1), .silent⟩), .trainingTimeLimit 0 [none], .trainingTimeLimit 32 (List.replicate 4 none),
      .oscillatorCheck 0 (counts 65536), .edgeProbe 0 (counts (2 ^ 128)), .checkForced ⟨0, .osc []⟩, .idleDeepExit 0 0 [] [],
      .recalSliceEnd 0 0 (List.replicate 10 17) (counts 1), .recalSliceEnd 0 0 [16] (counts 1), .pumpReadDone 0 128 ⟨[], [], []⟩,
      .pumpReadDone 0 0 ⟨[256], [], []⟩, .pumpReadDone 0 0 ⟨[3, 3], [], []⟩, .pumpReadDone 0 0 ⟨[], [(0, 10)], []⟩, .pumpReadDone 0 0 ⟨[], [(3, 0), (3, 1)], []⟩, .pumpReadDone 0 0 ⟨[], [], [256]⟩,
      .pumpTransfer 0 0 (2 ^ 28), .eraseStatus 0 512 true, .pageReadResult 0 256 [.clean], .verifyRead 0 0 ⟨9, List.replicate 4 .weak⟩, .lunFail 0 (.lun 512), .lunFail 0 (.channel 16),
      .intentReerase 0 0 true 32769, .mapRestoreDone ⟨0, [1], []⟩, .mapRestoreDone ⟨0, [], [1]⟩, .recoverySeal [8], .recoverySeal [1, 0], .pageReadBack [1], .rekeySweepLine ⟨1024, []⟩,
      .restoreFetch 0 (2 ^ 34), .rankRetireTrigger 0 0, .rankRetireTrigger 0 8], c.wf = false := by decide +kernel

theorem test_wf_management_refused :
    ∀ c ∈ [Instr.railPowerGood 0 24, .railFail 0 0 0, .railFail 0 0 6, .domainSwitchOff .twoWire 0 (2 ^ 32),
      .domainDrainEnd 0 0, .domainDrainEnd 0 31, .wake 127, .adcTimerFire 0 4, .entryPending 0 16,
      .injectedRequest .twoWire 0 (2 ^ 32), .captureArm .twoWire 0 256,
      .pllLossOfLock 0 0, .pllLossOfLock 0 26, .pllRelockEnd 8 1 true, .objectWrite .twoWire 65536 0 0 [],
      .objectWrite .twoWire 0 256 0 [], .objectWrite .twoWire 0 0 (2 ^ 32) [], .odpRead ⟨8, 1, 0⟩ 0 0 0,
      .odpRead ⟨0, 0, 0⟩ 0 0 0, .odpRead ⟨0, 1, 256⟩ 0 0 0, .odpClose goodHead 32 0,
      .sync 65536, .follow goodHead ⟨0, 2 ^ 48⟩ 0, .macFailure 128 0, .sessionIdleTimeout 4, .twoWireRead 257 .stop,
      .activationArm .twoWire (2 ^ 48), .eventReport 0 ⟨65536, 0, [], false⟩, .eventReport 0 ⟨0, 4, [], false⟩,
      .eventReport 0 ⟨0, 0, List.replicate 241 0, false⟩, .busError true 9], c.wf = false := by decide +kernel

/-- Payloads are bounded by 16 MiB. -/
theorem test_wf_bytes_refused (b : Bytes) (h : 2 ^ 24 < b.length) : (Instr.setLsa 0 0 0 b).wf = false := by
  simp [Instr.wf, okBytes]
  omega

theorem test_wf_samples_refused (l : List Int) (h : 4096 * 4096 < l.length) : (Instr.conversionComplete 0 l 0).wf = false := by
  simp [Instr.wf]
  omega

theorem test_wf_limits_accepted :
    ∀ c ∈ [Instr.cxlMemRead 15 3 65535 (2 ^ 52 - 64), .keyLoad (.mailbox 15 3) 0x383F [], .railFail 7 23 5,
      .trainingDone 7 3 [goodRank, badRank, silentTrain, ⟨.unidentified, .levellingFails 64 8⟩], .pumpReadDone 7 127 ⟨[0, 255], [(255, 9)], [254]⟩,
      .odpRead goodHead 65535 255 (2 ^ 32 - 1), .eventReport 7 ⟨65535, 3, List.replicate 240 0, true⟩,
      .busError false 8], c.wf = true := by decide +kernel

/-- The table gives its rows no bits. -/
theorem test_decode_spells_none (nbits w : Nat) : decodeTableWord nbits w = none := rfl

end Sys2Proof.Tests
end

section
/-! PROOFS. The die-to-die links (01 R12 to R19): what a link reads after a write to it, which effects leave
every link as it was, and how a frame grows by a write to the hosts or to a counter. -/
namespace Sys2Proof.Machine

open Sys2Proof.Safety

/-- The die-to-die links of two states are the same: so are the package and what is listed of its links. -/
def SameDieLinks (s t : State) : Prop := t.build = s.build ∧ t.hosts.dieLinks = s.hosts.dieLinks

theorem SameDieLinks.refl (s : State) : SameDieLinks s s := ⟨rfl, rfl⟩

theorem SameDieLinks.trans {s t u : State} (h : SameDieLinks s t) (h' : SameDieLinks t u) : SameDieLinks s u :=
  ⟨h'.1.trans h.1, h'.2.trans h.2⟩

theorem SameDieLinks.bonded {s t : State} (h : SameDieLinks s t) (d lk : Nat) : t.bonded d lk = s.bonded d lk := by
  unfold State.bonded State.n; rw [h.1]

theorem SameDieLinks.dieLink {s t : State} (h : SameDieLinks s t) (d lk : Nat) :
    t.dieLink d lk = s.dieLink d lk := by
  unfold State.dieLink; rw [h.bonded, h.2]

@[simp] theorem State.bonded_fresh (s : State) (d lk : Nat) : s.fresh.bonded d lk = s.bonded d lk := rfl
@[simp] theorem State.dieLink_fresh (s : State) (d lk : Nat) : s.fresh.dieLink d lk = s.dieLink d lk := rfl

/-- A bonded link reads back what is written to it. -/
theorem State.dieLink_setDieLink_same {s : State} {d lk : Nat} (h : s.bonded d lk = true) (x : DieLink) :
    (s.setDieLink d lk x).dieLink d lk = x := by
  have hb : (s.setDieLink d lk x).bonded d lk = true := h
  rw [State.dieLink, if_pos hb]
  exact look_put_same _ _ _ _

theorem sameDieLinks_settle (s : State) : SameDieLinks s (settle s) :=
  ⟨settle_build s, by rw [settle_hosts]⟩

@[simp] theorem dieLink_settle (s : State) (d lk : Nat) : (settle s).dieLink d lk = s.dieLink d lk :=
  (sameDieLinks_settle s).dieLink d lk

theorem sameDieLinks_report (s : State) (d c v w : Nat) (a : List Nat) : SameDieLinks s (s.report d c v w a) :=
  ⟨State.report_build .., by rw [State.report_hosts]⟩

theorem sameDieLinks_inc (s : State) (i k : Nat) : SameDieLinks s (s.inc i k) := ⟨rfl, rfl⟩

/-- An effect run for each element of a list leaves the links where it does for one. -/
theorem sameDieLinks_foldl {α : Type} {f : State → α → State} (h : ∀ t a, SameDieLinks t (f t a)) (l : List α)
    (s : State) : SameDieLinks s (l.foldl f s) := by
  induction l generalizing s with
  | nil => exact .refl s
  | cons a l ih => exact (h s a).trans (ih _)

theorem sameDieLinks_noteLatency (s : State) (q : Req) : SameDieLinks s (s.noteLatency q) := by
  unfold State.noteLatency; split <;> exact ⟨rfl, rfl⟩

theorem sameDieLinks_sendData (s : State) (q : Req) (data : Line) (poison : Bool) :
    SameDieLinks s (s.sendData q data poison) := by
  unfold State.sendData; split
  · exact .refl s
  · exact sameDieLinks_noteLatency s q

theorem sameDieLinks_sendCmp (s : State) (q : Req) : SameDieLinks s (s.sendCmp q) := by
  unfold State.sendCmp; split
  · exact .refl s
  · exact sameDieLinks_noteLatency s q

theorem sameDieLinks_respRefuse (s : State) (q : Req) : SameDieLinks s (s.respRefuse q) := by
  unfold State.respRefuse
  have cmp : SameDieLinks s (if q.answered then s else s.sendCmp q) := by
    split
    · exact .refl s
    · exact sameDieLinks_sendCmp s q
  cases q.op with
  | read => exact sameDieLinks_sendData ..
  | write => exact cmp
  | partialWrite => exact cmp
  | clearPoison => exact .refl s
  | injectPoison => exact .refl s

theorem sameDieLinks_listPoison (s : State) (d o n : Nat) (inj : Bool) :
    SameDieLinks s (s.listPoison d o n inj) := by
  unfold State.listPoison State.addPoison; split
  · exact ⟨rfl, rfl⟩
  · exact sameDieLinks_report { s with hosts := _ } ..

/-- The unreachable-line response leaves every link. -/
theorem sameDieLinks_unreachable (s : State) (q : Req) : SameDieLinks s (s.unreachable q) := by
  have listed : SameDieLinks s (if q.op.writes then s.listPoison (s.place q.dpa).die q.dpa 1 false else s) := by
    split
    · exact sameDieLinks_listPoison ..
    · exact .refl s
  exact listed.trans ((sameDieLinks_report ..).trans (sameDieLinks_respRefuse ..))

theorem sameDieLinks_failFlit (s : State) (f : Flit) : SameDieLinks s (s.failFlit f) := by
  unfold State.failFlit
  cases f.body with
  | request q => exact sameDieLinks_unreachable s q
  | data q l p => exact (sameDieLinks_report ..).trans (sameDieLinks_sendData ..)
  | cmp q => exact sameDieLinks_sendCmp s q

theorem sameDieLinks_failFlits (s : State) (key : Nat) : SameDieLinks s (s.failFlits key) :=
  .trans (t := { s with hosts := { s.hosts with flits := s.hosts.flits.filter fun f => !decide (f.key = key) } })
    ⟨rfl, rfl⟩ (sameDieLinks_foldl sameDieLinks_failFlit _ _)

theorem sameDieLinks_failBack (s : State) (p : Req → Bool) : SameDieLinks s (s.failBack p) :=
  .trans (t := s.withdraw p) ⟨rfl, rfl⟩ (sameDieLinks_foldl sameDieLinks_unreachable _ _)

theorem sameDieLinks_holdChanged (s old : State) : SameDieLinks s (s.holdChanged old) := ⟨rfl, rfl⟩

/-- A link that is taken down is down, whatever is failed back with it (01 R18). -/
theorem State.dieLink_fabricDown {s : State} {d lk : Nat} (h : s.bonded d lk = true) (inFlight : List Nat)
    (cut : Bool) : (s.fabricDown d lk inFlight cut).dieLink d lk = { downDieLink with cut := cut } := by
  have same : SameDieLinks (s.setDieLink d lk { downDieLink with cut := cut }) (s.fabricDown d lk inFlight cut) := by
    unfold State.fabricDown
    refine .trans (sameDieLinks_failFlits _ (dieLinkKey d lk)) ?_
    refine .trans (sameDieLinks_failBack _ fun q => inFlight.elem q.id && !q.answered) ?_
    refine .trans (sameDieLinks_holdChanged _ s) ?_
    exact .trans (sameDieLinks_report ..) (sameDieLinks_report ..)
  rw [same.dieLink, State.dieLink_setDieLink_same h]

/-- Nothing is sent at a link at which no flit waits. -/
theorem State.sendFlits_of_none_waits {s : State} {key : Nat} (h : ∀ f ∈ s.hosts.flits, f.key ≠ key) :
    s.sendFlits key = s := by
  have noneHere : s.hosts.flits.filter (fun f => decide (f.key = key)) = [] :=
    List.filter_eq_nil_iff.2 fun f hf => by simpa using h f hf
  have allKept : s.hosts.flits.filter (fun f => !decide (f.key = key)) = s.hosts.flits :=
    List.filter_eq_self.2 fun f hf => by simpa using h f hf
  simp [State.sendFlits, sendOrder, noneHere, allKept]

/-! Frames: an effect that writes the hosts, or counts, keeps every part that it does not name. -/

theorem keeps_setHosts {s t : State} {l : List Part} (h : Keeps s t l) (hl : Part.hosts ∈ l) (x : Hosts) :
    Keeps s { t with hosts := x } l := by
  intro p hp
  have hk := h p hp
  cases p with
  | hosts => exact absurd hl hp
  | _ => exact hk

theorem keeps_inc {s t : State} {l : List Part} (h : Keeps s t l) (hl : Part.regs ∈ l) (i k : Nat) :
    Keeps s (t.inc i k) l := by
  intro p hp
  have hk := h p hp
  cases p with
  | regs => exact absurd hl hp
  | _ => exact hk

theorem keeps_setDieLink {s t : State} {l : List Part} (h : Keeps s t l) (hl : Part.hosts ∈ l) (d lk : Nat)
    (x : DieLink) : Keeps s (t.setDieLink d lk x) l := keeps_setHosts h hl _

/-- Counting leaves the objects that are not named. -/
theorem regsBut_inc {s t : State} {l : List (Nat × Nat)} (h : RegsBut s t l) {i k : Nat} (hm : (i, k) ∈ l)
    (hk : k < 256) : RegsBut s (t.inc i k) l := by
  intro idx sub hs hn hnot
  have hne : idx ≠ i ∨ sub ≠ k := by
    by_contra! he
    exact hnot (by rw [he.1, he.2]; exact hm)
  rw [State.reg_inc_ne _ (okey_ne hs hk hne), h idx sub hs hn hnot]

/-- Settling leaves every object but the staging counters. -/
theorem reg_settle_of_not_stagingCount (s : State) {idx sub : Nat} (hs : sub < 256) (h : ¬ stagingCount idx sub) :
    (settle s).reg idx sub = s.reg idx sub :=
  reg_settle _ (stagingCount_ne (d := 0) hs h (by decide) (.inl rfl))
    (stagingCount_ne (d := 0) hs h (by decide) (.inr rfl))

theorem regsBut_settle {s t : State} {l : List (Nat × Nat)} (h : RegsBut s t l) : RegsBut s (settle t) l :=
  fun idx sub hs hn hnot => (reg_settle_of_not_stagingCount t hs hn).trans (h idx sub hs hn hnot)

theorem State.reg_inc_same (s : State) (i k : Nat) : (s.inc i k).reg i k = min u32max (s.reg i k + 1) :=
  s.reg_setReg_same i k _

theorem hostsAre_settle (s : State) : hostsAre (settle s) s.hosts := by
  unfold hostsAre; rw [settle_hosts]

/-- A command does what the state into which its effect turns the clean one, settled, meets. -/
theorem does_of_effect {c : Instr} {s t : State} {P : State → Prop} {f : State → State} (hon : s.aon.on = true)
    (hc : exec c s = act f s) (hf : f s.fresh = t) (h : P (settle t)) : Does c s P :=
  does_of hon hc (hf ▸ h)

/-- A write to a bonded link, settled: the link reads it, and only the hosts have changed. -/
theorem settle_setDieLink {s : State} {d lk : Nat} (h : s.bonded d lk = true) (x : DieLink) :
    (settle (s.fresh.setDieLink d lk x)).dieLink d lk = x ∧
      Keeps s (settle (s.fresh.setDieLink d lk x)) [.hosts] :=
  ⟨(dieLink_settle ..).trans (State.dieLink_setDieLink_same (s := s.fresh) h x),
    Keeps.settle (keeps_setDieLink (Keeps.fresh s _) (by simp) d lk x)⟩

end Sys2Proof.Machine
end

section
/-! PROOFS. Die-to-die links retrain and fail (O17): what each of the four commands does to the state on which it
runs, then the statement. -/
namespace Sys2Proof.Machine

open Sys2Proof.Safety

theorem State.n_le_eight (s : State) : s.n ≤ 8 := by
  unfold State.n; cases s.build.variant <;> decide

theorem exec_flitCrcFailure (die lk : Nat) (s : State) :
    exec (.flitCrcFailure die lk) s = execFlitCrcFailure die lk s := rfl

theorem exec_linkRetrain (die lk : Nat) (s : State) :
    exec (.linkRetrain die lk) s = execLinkRetrain die lk s := rfl

theorem exec_linkRetrainEnd (die lk : Nat) (ok : Bool) (l : List Nat) (s : State) :
    exec (.linkRetrainEnd die lk ok l) s = execLinkRetrainEnd die lk ok l s := rfl

theorem exec_routeHoldEnd (die owner : Nat) (s : State) :
    exec (.routeHoldEnd die owner) s = execRouteHoldEnd die owner s := rfl

/-- The two dies of a link differ. -/
theorem across_ne (d lk : Nat) : across d lk ≠ d := by
  intro h
  have hx : d ^^^ 2 ^ lk = d := h
  simp at hx

/-- Both dies of a bonded link are dies of the package. -/
theorem State.bonded_dies {s : State} {d lk : Nat} (h : s.bonded d lk = true) : d < 8 ∧ across d lk < 8 := by
  have hn := s.n_le_eight
  simp only [State.bonded, Bool.and_eq_true, decide_eq_true_eq] at h
  obtain ⟨⟨-, hd⟩, he⟩ := h
  unfold across
  omega

/-- The retrain counts of two dies, each counted once and settled: both have gone up, and no other object has
changed (01 Table 01.4, log 123). -/
theorem settle_retrainCounts (s : State) {a b : Nat} (ha : a < 8) (hb : b < 8) (hne : b ≠ a) :
    let t := settle ((s.inc (0x1010 + a) 4).inc (0x1010 + b) 4)
    t.reg (0x1010 + a) 4 = min u32max (s.reg (0x1010 + a) 4 + 1) ∧
      t.reg (0x1010 + b) 4 = min u32max (s.reg (0x1010 + b) 4 + 1) ∧
      RegsBut s t [(0x1010 + a, 4), (0x1010 + b, 4)] := by
  have count (d : Nat) (h : d < 8) : ¬ stagingCount (0x1010 + d) 4 := by unfold stagingCount; omega
  have other {i j : Nat} (h : i ≠ j) : okey (0x1010 + i) 4 ≠ okey (0x1010 + j) 4 :=
    okey_ne (by decide) (by decide) (.inl (by omega))
  refine ⟨?_, ?_, regsBut_settle (regsBut_inc (regsBut_inc ?_ (by simp) (by decide)) (by simp) (by decide))⟩
  · rw [reg_settle_of_not_stagingCount _ (by decide) (count a ha), State.reg_inc_ne _ (other hne.symm),
      State.reg_inc_same]
  · rw [reg_settle_of_not_stagingCount _ (by decide) (count b hb), State.reg_inc_same,
      State.reg_inc_ne _ (other hne)]
  · exact fun _ _ _ _ _ => rfl

/-- A link with one more replay at a time: the first of a window opens it (01 R18, log 122). -/
def DieLink.replay (x : DieLink) (now : Nat) : DieLink :=
  if now - x.since < 1000000 ∧ 0 < x.replays then { x with replays := x.replays + 1 }
  else { x with replays := 1, since := now }

theorem DieLink.replay_in_window {x : DieLink} {now : Nat} (h : now - x.since < 1000000) (h' : 0 < x.replays) :
    x.replay now = { x with replays := x.replays + 1 } := if_pos ⟨h, h'⟩

theorem DieLink.replay_new_window {x : DieLink} {now : Nat} (h : 1000000 ≤ now - x.since ∨ x.replays = 0) :
    x.replay now = { x with replays := 1, since := now } := if_neg (by omega)

section
variable {s : State} {die lk : Nat} (hon : s.aon.on = true) (hb : s.bonded die lk = true)
include hon hb

/-- FLIT_CRC_FAILURE counts a replay of a link that is up. -/
theorem does_flitCrcFailure (hst : (s.dieLink die lk).st = 1) :
    Does (.flitCrcFailure die lk) s fun t =>
      t.dieLink die lk = (s.dieLink die lk).replay s.aon.now ∧ Keeps s t [.hosts] := by
  refine does_of_effect hon (exec_flitCrcFailure ..) ?_ (settle_setDieLink hb _)
  by_cases hw : s.aon.now - (s.dieLink die lk).since < 1000000 ∧ 0 < (s.dieLink die lk).replays
  · simp [hb, hst, hw, DieLink.replay]
  · simp [hb, hst, hw, DieLink.replay]

/-- LINK_RETRAIN of a link with more than 16 replays makes it retrain, and counts on both its dies. -/
theorem does_linkRetrain (hst : (s.dieLink die lk).st = 1) (hr : 16 < (s.dieLink die lk).replays) :
    Does (.linkRetrain die lk) s fun t =>
      (t.dieLink die lk).st = 2 ∧
      t.reg (0x1010 + die) 4 = min u32max (s.reg (0x1010 + die) 4 + 1) ∧
      t.reg (0x1010 + across die lk) 4 = min u32max (s.reg (0x1010 + across die lk) 4 + 1) ∧
      RegsBut s t [(0x1010 + die, 4), (0x1010 + across die lk, 4)] ∧ Keeps s t [.hosts, .regs] := by
  obtain ⟨hd, he⟩ := State.bonded_dies hb
  obtain ⟨near, far, others⟩ := settle_retrainCounts (s.fresh.setDieLink die lk
    { s.dieLink die lk with st := 2, replays := 0, fails := 0 }) hd he (across_ne die lk)
  refine does_of_effect hon (exec_linkRetrain ..) ?_ ⟨?_, near, far, others, ?_⟩
  · simp [hb, hst, hr]
  · rw [dieLink_settle, (sameDieLinks_inc ..).dieLink, (sameDieLinks_inc ..).dieLink,
      State.dieLink_setDieLink_same (s := s.fresh) hb]
  · refine Keeps.settle (keeps_inc (keeps_inc ?_ (by simp) _ _) (by simp) _ _)
    exact keeps_setDieLink (Keeps.fresh s _) (by simp) _ _ _

/-- LINK_RETRAIN_END with success brings the link up. -/
theorem does_linkRetrainEnd_ok (hst : (s.dieLink die lk).st = 2)
    (hf : ∀ f ∈ s.hosts.flits, f.key ≠ dieLinkKey die lk) (l : List Nat) :
    Does (.linkRetrainEnd die lk true l) s fun t =>
      t.dieLink die lk = { s.dieLink die lk with st := 1, replays := 0, fails := 0 } ∧ Keeps s t [.hosts] := by
  have sent (x : DieLink) : (s.fresh.setDieLink die lk x).sendFlits (dieLinkKey die lk) =
      s.fresh.setDieLink die lk x := State.sendFlits_of_none_waits hf
  refine does_of_effect hon (exec_linkRetrainEnd ..) ?_ (settle_setDieLink hb _)
  simp [hb, hst, sent]

/-- LINK_RETRAIN_END with failure counts the first and the second in succession. -/
theorem does_linkRetrainEnd_fail (hst : (s.dieLink die lk).st = 2) (hf : (s.dieLink die lk).fails < 2)
    (l : List Nat) :
    Does (.linkRetrainEnd die lk false l) s fun t =>
      t.dieLink die lk = { s.dieLink die lk with fails := (s.dieLink die lk).fails + 1 } ∧
        Keeps s t [.hosts] := by
  refine does_of_effect hon (exec_linkRetrainEnd ..) ?_ (settle_setDieLink hb _)
  simp [hb, hst, hf]

/-- LINK_RETRAIN_END takes the link down at the third failure in succession. -/
theorem does_linkRetrainEnd_down (hst : (s.dieLink die lk).st = 2) (hf : 2 ≤ (s.dieLink die lk).fails)
    (l : List Nat) : Does (.linkRetrainEnd die lk false l) s fun t => (t.dieLink die lk).st = 3 := by
  have hdown : ¬ (s.dieLink die lk).fails + 1 < 3 := by omega
  refine does_of_effect (t := s.fresh.fabricDown die lk l false) hon (exec_linkRetrainEnd ..) ?_ ?_
  · simp [hb, hst, hdown]
  · rw [dieLink_settle, State.dieLink_fabricDown (s := s.fresh) hb]; rfl

end

/-- ROUTE_HOLD_END of a hold under which nothing is held removes it, and sends nothing. -/
theorem does_routeHoldEnd {s : State} {die owner : Nat} (hon : s.aon.on = true)
    (hh : ∀ h ∈ s.hosts.routeHolds, h.ingress = die ∧ h.owner = owner → h.held = []) :
    Does (.routeHoldEnd die owner) s fun t =>
      hostsAre t { s.hosts with
        routeHolds := s.hosts.routeHolds.filter fun h => !(decide (h.ingress = die) && decide (h.owner = owner)) } ∧
      Keeps s t [.hosts] := by
  have held : (s.hosts.routeHolds.filter fun h => decide (h.ingress = die) && decide (h.owner = owner)).flatMap
      (·.held) = [] := by
    rw [List.flatMap_eq_nil_iff]
    intro h hm
    obtain ⟨hm, hp⟩ := List.mem_filter.1 hm
    exact hh h hm (by simpa using hp)
  refine does_of_effect hon (exec_routeHoldEnd ..) ?_
    ⟨hostsAre_settle { s.fresh with hosts := _ }, Keeps.settle (keeps_setHosts (Keeps.fresh s _) (by simp) _)⟩
  simp only [State.fresh_hosts, held, List.foldl_nil]

/-- Settles O17, clause by clause from what each command does to a bonded link. The third failure rests on
`State.dieLink_fabricDown`: no flit or request that is failed back changes the link taken down. -/
theorem dieLinksRetrainAndFail : Obligations.DieLinksRetrainAndFail := by
  intro s die lk owner l hon hb
  refine ⟨fun hst hw hr => ?_, fun hst hw => ?_, does_linkRetrain hon hb, fun hst => ⟨?_, ?_, ?_⟩,
    does_routeHoldEnd hon⟩
  · simpa only [DieLink.replay_in_window hw hr] using does_flitCrcFailure hon hb hst
  · simpa only [DieLink.replay_new_window hw] using does_flitCrcFailure hon hb hst
  · exact fun hf => does_linkRetrainEnd_ok hon hb hst hf l
  · exact fun hf => does_linkRetrainEnd_fail hon hb hst hf l
  · exact fun hf => does_linkRetrainEnd_down hon hb hst hf l

end Sys2Proof.Machine
end

section
/-! PROOFS. Settling has nothing left to do on what it has settled (O8): what the flags and pins follow from is
the same before and after it. -/
namespace Sys2Proof.Machine

open Sys2Proof.Safety

/-- Two states agree on everything that the flags and pins follow from: they differ at most in what settling
writes, in the output and in the queue. -/
def SameCauses (s t : State) : Prop := Keeps s t [.out, .pending]

/-- A state keeps every part of itself but the output, which a frame takes to be empty. -/
theorem Keeps.refl (s : State) : Keeps s s [.out] := by
  intro p hp
  cases p with
  | out => exact absurd List.mem_cons_self hp
  | rings => exact fun _ => rfl
  | regs => exact fun _ _ _ _ => rfl
  | _ => rfl

theorem Keeps.mono {s t : State} {l m : List Part} (h : Keeps s t l) (hl : l ⊆ m) : Keeps s t m :=
  fun p hp => h p fun hm => hp (hl hm)

theorem sameCauses_settle (s : State) : SameCauses s (settle s) :=
  Keeps.settle (Keeps.mono (Keeps.refl s) (by simp))

theorem sameCauses_setOut (s : State) (o : List Output) (l : List Instr) :
    SameCauses s { s with out := o, pending := l } := by
  intro p hp
  cases p with
  | out => exact absurd (by simp) hp
  | pending => exact absurd (by simp) hp
  | _ => exact Keeps.mono (Keeps.refl s) (m := [.out, .pending]) (by simp) _ hp

section
variable {s t : State} (h : SameCauses s t)
include h

/-- Apart from the register file, such states are the same but for the fields that settling writes. -/
theorem SameCauses.eq_update : t = { s with
      hosts := { s.hosts with maintenance := t.hosts.maintenance, degraded := t.hosts.degraded }
      shadow := { s.shadow with armed := t.shadow.armed, scaled := t.shadow.scaled }
      bat := { s.bat with chgEn := t.bat.chgEn, learnPwm := t.bat.learnPwm, chgHeld := t.bat.chgHeld }
      recs := t.recs, regs := t.regs, out := t.out, pending := t.pending } := by
  have hosts : unchanged s t .hosts := h _ (by decide)
  have shadow : unchanged s t .shadow := h _ (by decide)
  have bat : unchanged s t .bat := h _ (by decide)
  have rest : ∀ p, p ∉ [Part.out, .pending] → unchanged s t p := h
  obtain ⟨⟩ := t
  simp only [unchanged] at hosts shadow bat
  simp only [State.mk.injEq]
  exact ⟨rest .build (by decide), rest .aon (by decide), rest .seq (by decide), by rw [← hosts],
    rest .ten (by decide), rest .dram (by decide), by rw [← shadow], rest .freeze (by decide),
    rest .sparing (by decide), by rw [← bat], rest .adc (by decide), rest .clocks (by decide),
    rest .mgmt (by decide), rest .bus (by decide), rest .wire (by decide), rest .fw (by decide), trivial, trivial,
    rest .doms (by decide), rest .usedW1 (by decide), trivial, rest .freeCount (by decide), trivial⟩

theorem SameCauses.reg {idx sub : Nat} (hs : sub < 256) (hn : ¬ stagingCount idx sub) :
    t.reg idx sub = s.reg idx sub := h .regs (by decide) idx sub hs hn

theorem SameCauses.n : t.n = s.n := by rw [h.eq_update]; rfl

theorem SameCauses.dieList : t.dieList = s.dieList := by rw [h.eq_update]; rfl

theorem SameCauses.dieOut (d : Nat) : t.dieOut d = s.dieOut d := by
  have lead : t.seq.leadDead = s.seq.leadDead := by rw [h.eq_update]
  rw [State.dieOut, State.dieOut, h.reg (by decide) (by simp [stagingCount]), lead]

theorem SameCauses.flashState (d f : Nat) : t.flashState d f = s.flashState d f :=
  h.reg (by decide) (by simp [stagingCount])

theorem SameCauses.activeLuns (d f : Nat) : t.activeLuns d f = s.activeLuns d f := by
  have nand : t.nandOf d f = s.nandOf d f := by rw [h.eq_update]; rfl
  have lun (l : Nat) : t.lunOf d l = s.lunOf d l := by rw [h.eq_update]; rfl
  simp only [State.activeLuns, h.dieOut, h.flashState, nand, lun]

theorem SameCauses.rate12 : t.rate12 = s.rate12 := by
  have rate (d : Nat) : t.rd12 d = s.rd12 d := by simp only [State.rd12, State.ld, h.activeLuns]
  simp only [State.rate12, h.dieList, funext rate]

theorem SameCauses.glacierCap (d : Nat) : t.glacierCap d = s.glacierCap d := by
  have good (l : Nat) : t.goodBlocks d l = s.goodBlocks d l := by rw [h.eq_update]; rfl
  have nand (f : Nat) : t.nandOf d f = s.nandOf d f := by rw [h.eq_update]; rfl
  simp only [State.glacierCap, h.activeLuns, good, nand]

theorem SameCauses.capacityHolds : t.capacityHolds = s.capacityHolds := by
  have shadowed (d : Nat) : t.shadowed d = s.shadowed d := by rw [h.eq_update]; rfl
  have die (d : Nat) : t.die d = s.die d := by rw [h.eq_update]; rfl
  have on (d : Nat) : t.capacityOn d = s.capacityOn d := by
    simp only [State.capacityOn, shadowed, die, h.glacierCap]
  simp only [State.capacityHolds, h.dieList, funext on]

theorem SameCauses.budget : t.budget = s.budget := by
  have limit : t.energyLimit = s.energyLimit := by
    have pack : t.bat.limit = s.bat.limit ∧ t.bat.atFloor = s.bat.atFloor ∧ t.bat.decayAt = s.bat.decayAt ∧
        t.aon.now = s.aon.now := by rw [h.eq_update]; exact ⟨rfl, rfl, rfl, rfl⟩
    obtain ⟨top, floor, decay, now⟩ := pack
    simp only [State.energyLimit, top, floor, decay, now,
      h.reg (idx := 0x7003) (sub := 4) (by decide) (by simp [stagingCount])]
  have cap (k : Nat) (hk : k < 256) : t.reg 0x5800 k = s.reg 0x5800 k := h.reg hk (by simp [stagingCount])
  simp only [State.budget, State.budgetWith, State.freezeCeiling, State.hardwareCap, limit, h.n, h.rate12,
    cap 2 (by decide), cap 4 (by decide)]

theorem SameCauses.armable (k : Nat) : t.armable k = s.armable k := by
  rw [State.armable, State.armable, h.budget, h.capacityHolds]

theorem SameCauses.sharesScaled : t.sharesScaled = s.sharesScaled := by
  have sum : t.shareSum = s.shareSum := by rw [h.eq_update]; rfl
  have divisible : t.divisible = s.divisible := by simp only [State.divisible, State.margin, h.budget, h.n]
  rw [State.sharesScaled, State.sharesScaled, sum, divisible]

theorem SameCauses.isDegraded : t.isDegraded = s.isDegraded := by
  have detour : t.detour = s.detour := by rw [h.eq_update]; rfl
  have throttled (d : Nat) : t.throttled d = s.throttled d := by
    simp only [State.throttled, h.reg (idx := 0x1010 + d) (sub := 6) (by decide) (by simp [stagingCount])]
  simp only [State.isDegraded, h.dieList, detour, funext throttled]

/-- Maintenance is needed alike where persistence is armed alike. -/
theorem SameCauses.needsMaintenance (ha : t.shadow.armed = s.shadow.armed) :
    t.needsMaintenance = s.needsMaintenance := by
  rw [State.needsMaintenance, ha, h.eq_update]; rfl

theorem SameCauses.mayCharge : t.mayCharge = s.mayCharge := by rw [h.eq_update]; rfl

theorem SameCauses.learnLoad : t.learnLoad = s.learnLoad := by rw [h.eq_update]; rfl

end

/-- The flags and pins agree with what they follow from. -/
structure FlagsAgree (s : State) : Prop where
  armed : s.shadow.armed = true → s.armable (gib 1) = true
  scaled : s.shadow.scaled = s.sharesScaled
  health : s.seq.st = 12 → s.hosts.maintenance = s.needsMaintenance ∧ s.hosts.degraded = s.isDegraded
  chgEn : s.bat.chgEn = s.mayCharge
  learnPwm : s.bat.learnPwm = s.learnLoad
  chgHeld : s.bat.chgHeld = true → s.mayCharge = true

theorem FlagsAgree.settled {s : State} (h : FlagsAgree s) : Settled s := by
  have arm : settleArm s = s := by
    have := h.armed
    unfold settleArm; split <;> simp_all
  have shares : settleShares s = s := by rw [settleShares, if_pos h.scaled.symm]
  have health : settleHealth s = s := by
    unfold settleHealth
    refine if_pos ?_
    by_cases hs : s.seq.st = 12
    · exact .inr ⟨(h.health hs).1.symm, (h.health hs).2.symm⟩
    · exact .inl hs
  have pins : settlePins s = s := by
    have held : (s.bat.chgHeld && s.mayCharge) = s.bat.chgHeld := by
      have := h.chgHeld; cases hh : s.bat.chgHeld <;> simp_all
    rw [settlePins, ← h.chgEn, ← h.learnPwm, h.chgEn, held, ← h.chgEn]
  rw [Settled, settle, arm, shares, health, pins]

theorem settleArm_armed (s : State) :
    (settleArm s).shadow.armed = (s.shadow.armed && s.armable (gib 1)) := by
  unfold settleArm
  split <;> simp_all

theorem settleShares_scaled (s : State) : (settleShares s).shadow.scaled = s.sharesScaled := by
  unfold settleShares
  repeat' split
  all_goals simp_all

theorem settleShares_armed (s : State) : (settleShares s).shadow.armed = s.shadow.armed := by
  unfold settleShares
  repeat' split
  all_goals simp

theorem settleHealth_health {s : State} (hs : s.seq.st = 12) :
    (settleHealth s).hosts.maintenance = s.needsMaintenance ∧ (settleHealth s).hosts.degraded = s.isDegraded := by
  unfold settleHealth
  dsimp only
  split <;> simp_all

theorem settle_armed (s : State) : (settle s).shadow.armed = (s.shadow.armed && s.armable (gib 1)) := by
  rw [settle, settlePins_shadow, settleHealth_shadow, settleShares_armed, settleArm_armed]

theorem SameCauses.refl (s : State) : SameCauses s s := Keeps.mono (Keeps.refl s) (by simp)

/-- A record in die 0's staging queue is no cause of a flag. -/
theorem SameCauses.report {s t : State} (h : SameCauses s t) (c v w : Nat) (a : List Nat) :
    SameCauses s (t.report 0 c v w a) := fun p hp => unchanged_report (h p hp) (by decide) c v w a

theorem sameCauses_setFlags (s : State) (a b : Bool) :
    SameCauses s { s with shadow := { s.shadow with armed := a, scaled := b } } := by
  intro p hp
  cases p with
  | shadow => rfl
  | _ => exact SameCauses.refl s _ hp

theorem sameCauses_setHealth (s : State) (m g : Bool) :
    SameCauses s { s with hosts := { s.hosts with maintenance := m, degraded := g } } := by
  intro p hp
  cases p with
  | hosts => rfl
  | _ => exact SameCauses.refl s _ hp

theorem sameCauses_settleArm (s : State) : SameCauses s (settleArm s) := by
  unfold settleArm
  split
  · exact SameCauses.report (sameCauses_setFlags s false s.shadow.scaled) _ _ _ _
  · exact .refl s

theorem sameCauses_settleHealth (s : State) : SameCauses s (settleHealth s) := by
  unfold settleHealth
  dsimp only
  split
  · exact .refl s
  · exact SameCauses.report (sameCauses_setHealth s _ _) _ _ _ _

theorem sameCauses_settlePins (s : State) : SameCauses s (settlePins s) := by
  intro p hp
  cases p with
  | bat => rfl
  | _ => exact SameCauses.refl s _ hp

/-- Settling leaves flags and pins that agree with what they follow from. -/
theorem flagsAgree_settle (s : State) : FlagsAgree (settle s) := by
  have causes := sameCauses_settle s
  have armed : (settle s).shadow.armed = (settleShares (settleArm s)).shadow.armed := by
    rw [settle_armed, settleShares_armed, settleArm_armed]
  have pinned := sameCauses_settlePins (settleHealth (settleShares (settleArm s)))
  have reported := sameCauses_settleHealth (settleShares (settleArm s))
  refine ⟨fun h => ?_, ?_, fun h => ?_, pinned.mayCharge.symm, pinned.learnLoad.symm, fun h => ?_⟩
  · rw [settle_armed, Bool.and_eq_true] at h
    rw [causes.armable, h.2]
  · rw [causes.sharesScaled, settle, settlePins_shadow, settleHealth_shadow, settleShares_scaled,
      (sameCauses_settleArm s).sharesScaled]
  · have st : (settleShares (settleArm s)).seq.st = 12 := by simpa using h
    obtain ⟨maintenance, degraded⟩ := settleHealth_health st
    refine ⟨maintenance.trans ?_, degraded.trans ?_⟩
    · exact ((pinned.needsMaintenance (by simp)).trans (reported.needsMaintenance (by simp))).symm
    · exact (pinned.isDegraded.trans reported.isDegraded).symm
  · exact pinned.mayCharge.trans (Bool.and_eq_true_iff.1 h).2

theorem settled_iff (s : State) : Settled s ↔ FlagsAgree s :=
  ⟨fun h => by rw [← show settle s = s from h]; exact flagsAgree_settle s, FlagsAgree.settled⟩

/-- Neither the output nor the queue is looked at when a command settles. -/
theorem settled_setOut {s : State} (h : Settled s) (o : List Output) (l : List Instr) :
    Settled { s with out := o, pending := l } := by
  have a := (settled_iff s).1 h
  have c := sameCauses_setOut s o l
  exact (settled_iff _).2 ⟨fun h => (c.armable _).trans (a.armed h), a.scaled.trans c.sharesScaled.symm,
    fun h => ⟨(a.health h).1.trans (c.needsMaintenance rfl).symm, (a.health h).2.trans c.isDegraded.symm⟩,
    a.chgEn.trans c.mayCharge.symm, a.learnPwm.trans c.learnLoad.symm, fun h => c.mayCharge.trans (a.chgHeld h)⟩

theorem settled_settle (s : State) : Settled (settle s) := (flagsAgree_settle s).settled

/-- Every command but AON_POWER_ON runs an effect on a clean output and settles. -/
theorem exec_eq_act (c : Instr) (hc : c ≠ .aonPowerOn) : ∃ f : State → State, ∀ s, exec c s = act f s := by
  cases c with
  | aonPowerOn => exact absurd rfl hc
  | _ => unfold exec; exact ⟨_, fun _ => rfl⟩

/-- A command answers a state in which nothing is left to settle, given one. -/
theorem exec_settled {c : Instr} {s t : State} (hs : Settled s) (h : exec c s = .next t) : Settled t := by
  by_cases hc : c = .aonPowerOn
  · subst hc
    obtain rfl : (if s.aon.on then settle s.fresh else settle s.powerOn) = t := by
      simpa [exec, execAonPowerOn] using h
    split <;> exact settled_settle _
  · obtain ⟨f, hf⟩ := exec_eq_act c hc
    rw [hf, act, Host.Outcome.next.injEq] at h
    rw [← h]
    split
    · exact settled_settle _
    · exact settled_setOut hs [] s.pending

/-- Settles O8: every step ends in a settled state, or clears the output of one. -/
theorem everyStepLeavesNothingToSettle : Obligations.EveryStepLeavesNothingToSettle := by
  intro s t hs h
  unfold step at h
  split at h
  · obtain rfl := Host.Outcome.next.inj h
    unfold tick
    split
    · exact settled_setOut hs [] s.pending
    · exact settled_settle _
  · next c r _ => exact exec_settled (settled_setOut hs s.out r) h

end Sys2Proof.Machine
end

section
/-! PROOFS. What an answer, a report and a write leave unchanged: the frames of the host ports' commands. -/
namespace Sys2Proof.Machine

open Sys2Proof.Safety

/-! Parts of the state. -/

/-- Another output changes nothing else. -/
theorem keeps_setOut {s t : State} {l : List Part} (h : Keeps s t l) (hl : Part.out ∈ l) (o : List Output) :
    Keeps s { t with out := o } l := by
  intro p hp
  have hk := h p hp
  cases p with
  | out => exact absurd hl hp
  | _ => exact hk

/-- An answer put out changes nothing else. -/
theorem keeps_emit {s t : State} {l : List Part} (h : Keeps s t l) (hl : Part.out ∈ l) (o : Output) :
    Keeps s (t.emit o) l := keeps_setOut h hl _

theorem keeps_complete {s t : State} {l : List Part} (h : Keeps s t l) (hl : Part.out ∈ l) (port link rc : Nat)
    (fields : List Nat) : Keeps s (t.complete port link rc fields) l := keeps_emit h hl _

/-- A report changes no part but a counter of the staging queue. -/
theorem keeps_report {s t : State} {l : List Part} (h : Keeps s t l) {d : Nat} (hd : d < 8) (c v w : Nat)
    (a : List Nat) : Keeps s (t.report d c v w a) l := fun p hp => unchanged_report (h p hp) hd c v w a

theorem keeps_setAon {s t : State} {l : List Part} (h : Keeps s t l) (hl : Part.aon ∈ l) (a : Aon) :
    Keeps s { t with aon := a } l := by
  intro p hp
  have hk := h p hp
  cases p with
  | aon => exact absurd hl hp
  | _ => exact hk

theorem keeps_setReg {s t : State} {l : List Part} (h : Keeps s t l) (hl : Part.regs ∈ l) (i k v : Nat) :
    Keeps s (t.setReg i k v) l := by
  intro p hp
  have hk := h p hp
  cases p with
  | regs => exact absurd hl hp
  | _ => exact hk

theorem keeps_setLink {s t : State} {l : List Part} (h : Keeps s t l) (hl : Part.hosts ∈ l) (port link : Nat)
    (x : HLink) : Keeps s (t.setLink port link x) l := keeps_setHosts h hl _

/-! Objects of the register file. -/

@[simp] theorem State.reg_complete (s : State) (port link rc : Nat) (fields : List Nat) (i k : Nat) :
    (s.complete port link rc fields).reg i k = s.reg i k := rfl

theorem regsBut_complete {s t : State} {l : List (Nat × Nat)} (h : RegsBut s t l) (port link rc : Nat)
    (fields : List Nat) : RegsBut s (t.complete port link rc fields) l := h

/-- A write leaves the objects that are not named. -/
theorem regsBut_setReg {s t : State} {l : List (Nat × Nat)} (h : RegsBut s t l) {i k : Nat} (hm : (i, k) ∈ l)
    (hk : k < 256) (v : Nat) : RegsBut s (t.setReg i k v) l := by
  intro idx sub hs hn hnot
  have hne : idx ≠ i ∨ sub ≠ k := by
    by_contra! he
    exact hnot (by rw [he.1, he.2]; exact hm)
  rw [State.reg_setReg_ne _ _ (okey_ne hs hk hne), h idx sub hs hn hnot]

/-! Links, and the rest of the hosts. -/

@[simp] theorem State.hlink_fresh (s : State) (a b : Nat) : s.fresh.hlink a b = s.hlink a b := rfl

/-- A link reads back what is written to it. -/
theorem State.hlink_setLink_same (s : State) (port link : Nat) (x : HLink) :
    (s.setLink port link x).hlink port link = x := look_put_same _ _ _ _

theorem State.hlink_setLink_ne (s : State) {port link a b : Nat} (x : HLink) (h : linkKey a b ≠ linkKey port link) :
    (s.setLink port link x).hlink a b = s.hlink a b := look_put_ne _ _ _ h

@[simp] theorem hlink_settle (s : State) (a b : Nat) : (settle s).hlink a b = s.hlink a b := by
  rw [State.hlink, settle_hosts]; rfl

/-- Settling does not look at the difference between hosts that are these and those themselves. -/
theorem hostsAre_settle_of {t : State} {h : Hosts} (ht : t.hosts = h) : hostsAre (settle t) h :=
  ht ▸ hostsAre_settle t

/-- A write of a link changes that link alone. -/
theorem linkIs_setLink (s : State) (port link : Nat) (x : HLink) : LinkIs s (s.setLink port link x) port link x :=
  ⟨State.hlink_setLink_same .., fun _ _ hn => State.hlink_setLink_ne _ _ hn, rfl⟩

theorem linkIs_refl (s : State) (port link : Nat) : LinkIs s s port link (s.hlink port link) :=
  ⟨rfl, fun _ _ _ => rfl, rfl⟩

/-- What is said of the links is said of the hosts alone, and settling leaves it. -/
theorem linkIs_settle {s t u : State} {port link : Nat} {x : HLink} (h : LinkIs s u port link x)
    (ht : t.hosts = u.hosts) : LinkIs s (settle t) port link x := by
  obtain ⟨here, others, rest⟩ := h
  have link_eq (a b : Nat) : (settle t).hlink a b = u.hlink a b := by rw [hlink_settle, State.hlink, ht]; rfl
  refine ⟨(link_eq ..).trans here, fun a b hn => (link_eq ..).trans (others a b hn), ?_⟩
  unfold hostsAre at rest ⊢
  rw [settle_hosts, ht]; exact rest

theorem LinkIs.report {s u : State} {port link : Nat} {x : HLink} (h : LinkIs s u port link x) (d c v w : Nat)
    (a : List Nat) : LinkIs s (u.report d c v w a) port link x := by
  have links (p l : Nat) : (u.report d c v w a).hlink p l = u.hlink p l := by
    rw [State.hlink, State.report_hosts]; rfl
  obtain ⟨here, others, rest⟩ := h
  refine ⟨(links ..).trans here, fun p l hn => (links ..).trans (others p l hn), ?_⟩
  unfold hostsAre at rest ⊢
  rw [State.report_hosts]; exact rest

/-- Hosts that are these up to the health reported are these with another health. -/
theorem hostsAre.eq_update {t : State} {h : Hosts} (ht : hostsAre t h) :
    t.hosts = { h with maintenance := t.hosts.maintenance, degraded := t.hosts.degraded } := by
  rw [← show { t.hosts with maintenance := h.maintenance, degraded := h.degraded } = h from ht]

end Sys2Proof.Machine
end

section
/-! PROOFS. The mailbox (02 R38 to R48): what a command on an open mailbox does. -/
namespace Sys2Proof.Machine

open Sys2Proof.Safety

/-! The meaning of each command that runs on a mailbox. -/

theorem exec_identify (port link : Nat) (s : State) : exec (.identify port link) s = execIdentify port link s := rfl
theorem exec_getEventRecords (port link log : Nat) (s : State) :
    exec (.getEventRecords port link log) s = execGetEventRecords port link log s := rfl
theorem exec_clearEventRecords (port link log : Nat) (all : Bool) (handles : List Nat) (s : State) :
    exec (.clearEventRecords port link log all handles) s = execClearEventRecords port link log all handles s := rfl
theorem exec_getEventInterruptPolicy (port link : Nat) (s : State) :
    exec (.getEventInterruptPolicy port link) s = execGetEventInterruptPolicy port link s := rfl
theorem exec_setEventInterruptPolicy (port link policy : Nat) (s : State) :
    exec (.setEventInterruptPolicy port link policy) s = execSetEventInterruptPolicy port link policy s := rfl
theorem exec_getFwInfo (port link : Nat) (s : State) : exec (.getFwInfo port link) s = execGetFwInfo port link s := rfl
theorem exec_transferFwInitiate (port link : Nat) (data : Bytes) (s : State) :
    exec (.transferFwInitiate port link data) s = execTransferFwInitiate port link data s := rfl
theorem exec_transferFwContinue (port link off : Nat) (data : Bytes) (s : State) :
    exec (.transferFwContinue port link off data) s = execTransferFwContinue port link off data s := rfl
theorem exec_transferFwEnd (port link slot off : Nat) (data : Bytes) (s : State) :
    exec (.transferFwEnd port link slot off data) s = execTransferFwEnd port link slot off data s := rfl
theorem exec_activateFwOnline (port link slot : Nat) (s : State) :
    exec (.activateFwOnline port link slot) s = execActivateFwOnline port link slot s := rfl
theorem exec_activateFwOffline (port link slot : Nat) (s : State) :
    exec (.activateFwOffline port link slot) s = execActivateFwOffline port link slot s := rfl
theorem exec_getTimestamp (port link : Nat) (s : State) :
    exec (.getTimestamp port link) s = execGetTimestamp port link s := rfl
theorem exec_setTimestamp (port link ns : Nat) (s : State) :
    exec (.setTimestamp port link ns) s = execSetTimestamp port link ns s := rfl
theorem exec_getSupportedLogs (port link : Nat) (s : State) :
    exec (.getSupportedLogs port link) s = execGetSupportedLogs port link s := rfl
theorem exec_getLog (port link : Nat) (cel : Bool) (off len : Nat) (s : State) :
    exec (.getLog port link cel off len) s = execGetLog port link cel off len s := rfl
theorem exec_identifyMemoryDevice (port link : Nat) (s : State) :
    exec (.identifyMemoryDevice port link) s = execIdentifyMemoryDevice port link s := rfl
theorem exec_getPartitionInfo (port link : Nat) (s : State) :
    exec (.getPartitionInfo port link) s = execGetPartitionInfo port link s := rfl
theorem exec_setPartitionInfo (port link : Nat) (s : State) :
    exec (.setPartitionInfo port link) s = execSetPartitionInfo port link s := rfl
theorem exec_getLsa (port link off len : Nat) (s : State) :
    exec (.getLsa port link off len) s = execGetLsa port link off len s := rfl
theorem exec_setLsa (port link off : Nat) (data : Bytes) (s : State) :
    exec (.setLsa port link off data) s = execSetLsa port link off data s := rfl
theorem exec_getHealthInfo (port link : Nat) (s : State) :
    exec (.getHealthInfo port link) s = execGetHealthInfo port link s := rfl
theorem exec_getAlertConfig (port link : Nat) (s : State) :
    exec (.getAlertConfig port link) s = execGetAlertConfig port link s := rfl
theorem exec_setAlertConfig (port link cfg : Nat) (s : State) :
    exec (.setAlertConfig port link cfg) s = execSetAlertConfig port link cfg s := rfl
theorem exec_getShutdownState (port link : Nat) (s : State) :
    exec (.getShutdownState port link) s = execGetShutdownState port link s := rfl
theorem exec_setShutdownState (port link st : Nat) (s : State) :
    exec (.setShutdownState port link st) s = execSetShutdownState port link st s := rfl
theorem exec_getPoisonList (port link dpa len : Nat) (s : State) :
    exec (.getPoisonList port link dpa len) s = execGetPoisonList port link dpa len s := rfl
theorem exec_injectPoison (port link dpa : Nat) (s : State) :
    exec (.injectPoison port link dpa) s = execInjectPoison port link dpa s := rfl
theorem exec_clearPoison (port link dpa : Nat) (data : Line) (s : State) :
    exec (.clearPoison port link dpa data) s = execClearPoison port link dpa data s := rfl
theorem exec_dictionaryAccessRead (port link : Nat) (p : Bytes) (s : State) :
    exec (.dictionaryAccessRead port link p) s = execDictionaryAccessRead port link p s := rfl
theorem exec_dictionaryAccessWrite (port link : Nat) (p : Bytes) (s : State) :
    exec (.dictionaryAccessWrite port link p) s = execDictionaryAccessWrite port link p s := rfl
theorem exec_recorderStream (port link : Nat) (p : Bytes) (s : State) :
    exec (.recorderStream port link p) s = execRecorderStream port link p s := rfl
theorem exec_unsupportedOpcode (port link opcode : Nat) (s : State) :
    exec (.unsupportedOpcode port link opcode) s = execUnsupportedOpcode port link opcode s := rfl

/-! What an open mailbox does. -/

/-- An open mailbox runs a command that the realm of its link has. -/
theorem State.mailbox_open {s : State} {port link : Nat} (h : s.reaches (.mailbox port link) = true) {owner : Bool}
    (hr : owner = true → s.realm (.mailbox port link) = .hostOwner) (f : State → State) :
    s.mailbox port link owner f = f s := by
  have served : ¬ (owner = true ∧ s.realm (.mailbox port link) = .tenant) := fun ⟨ho, ht⟩ => by
    rw [hr ho] at ht; cases ht
  simp [State.mailbox, h, served]

/-- In the tenant realm a command of the host owner's alone is Unsupported. -/
theorem State.mailbox_tenant {s : State} {port link : Nat} (h : s.reaches (.mailbox port link) = true)
    (hr : s.realm (.mailbox port link) = .tenant) (f : State → State) :
    s.mailbox port link true f = s.complete port link rcUnsupported [] := by
  simp [State.mailbox, h, hr]

section
variable {c : Instr} {s t : State} {port link : Nat} {owner : Bool} {f : State → State}

/-- A command on an open mailbox does what the state into which its effect turns the clean one, settled, meets. -/
theorem does_mailbox {P : State → Prop} (ho : MailboxOpen s port link)
    (hc : exec c s = act (fun s => s.mailbox port link owner f) s)
    (hr : owner = true → s.realm (.mailbox port link) = .hostOwner) (hf : f s.fresh = t) (h : P (settle t)) :
    Does c s P :=
  does_of_effect ho.1 hc ((State.mailbox_open (s := s.fresh) ho.2 hr f).trans hf) h

/-- A state that only completes a command, settled. -/
theorem settle_complete (s : State) (port link rc : Nat) (fields : List Nat) :
    (settle (s.fresh.complete port link rc fields)).out = [.mbox port link rc fields] ∧
      Keeps s (settle (s.fresh.complete port link rc fields)) [.out] :=
  ⟨settle_out _, Keeps.settle (keeps_complete (Keeps.fresh s _) (by simp) _ _ _ _)⟩

/-- A command whose effect on the clean state is its completion completes, and changes nothing else. -/
theorem completes_mailbox {rc : Nat} {fields : List Nat} (ho : MailboxOpen s port link)
    (hc : exec c s = act (fun s => s.mailbox port link owner f) s)
    (hr : owner = true → s.realm (.mailbox port link) = .hostOwner)
    (hf : f s.fresh = s.fresh.complete port link rc fields) : Completes c s port link rc fields :=
  does_mailbox ho hc hr hf (settle_complete ..)

/-- A command of the host owner's alone completes with Unsupported in the tenant realm. -/
theorem completes_tenant (ho : MailboxOpen s port link)
    (hc : exec c s = act (fun s => s.mailbox port link true f) s) (hr : s.realm (.mailbox port link) = .tenant) :
    Completes c s port link rcUnsupported [] :=
  does_of_effect ho.1 hc (State.mailbox_tenant (s := s.fresh) ho.2 hr f) (settle_complete ..)

end

theorem State.realm_tenant {s : State} {port link : Nat} (h : s.reg (ixPort port) 3 ≠ 1) :
    s.realm (.mailbox port link) = .tenant := if_neg h

end Sys2Proof.Machine
end

section
/-! PROOFS. Commands that the tenant realm does not have (O19). -/
namespace Sys2Proof.Machine

open Sys2Proof.Safety

/-- Settles O19: the mailbox turns every listed command away, and Dictionary Access a write. -/
theorem tenantRealmGetsUnsupported : Obligations.TenantRealmGetsUnsupported := by
  intro s port link a b data l ho hg
  have ht : s.realm (.mailbox port link) = .tenant := State.realm_tenant hg
  refine ⟨fun hw => completes_mailbox ho (exec_dictionaryAccessWrite ..) nofun ?_, ?_⟩
  · exact if_pos ⟨hw, ht⟩
  · simp only [List.forall_mem_cons]
    exact ⟨completes_tenant ho (exec_getFwInfo ..) ht, completes_tenant ho (exec_transferFwInitiate ..) ht,
      completes_tenant ho (exec_transferFwContinue ..) ht, completes_tenant ho (exec_transferFwEnd ..) ht,
      completes_tenant ho (exec_activateFwOnline ..) ht, completes_tenant ho (exec_activateFwOffline ..) ht,
      completes_tenant ho (exec_getLsa ..) ht, completes_tenant ho (exec_setLsa ..) ht,
      completes_tenant ho (exec_setAlertConfig ..) ht, completes_tenant ho (exec_setShutdownState ..) ht,
      completes_tenant ho (exec_getPoisonList ..) ht, completes_tenant ho (exec_injectPoison ..) ht,
      completes_tenant ho (exec_clearPoison ..) ht, completes_tenant ho (exec_recorderStream ..) ht,
      List.forall_mem_nil _⟩

end Sys2Proof.Machine
end

section
/-! PROOFS. Commands that ask for information (O18). -/
namespace Sys2Proof.Machine

open Sys2Proof.Safety

section
variable {s : State} {port link : Nat} (ho : MailboxOpen s port link)
include ho

theorem completes_getLsa (hr : s.realm (.mailbox port link) = .hostOwner) {off len : Nat} (hl : off + len ≤ 131072)
    (hp : len ≤ 4096) : Completes (.getLsa port link off len) s port link rcSuccess
      ((Memory.bytes s.hosts.lsa off len).map (·.toNat)) := by
  refine completes_mailbox ho (exec_getLsa ..) (fun _ => hr) (if_neg ?_)
  simp only [lsaBytes, payloadBytes]; omega

theorem completes_getLog {off len : Nat} (hl : off + len ≤ (s.celOf port link).length) (hp : len ≤ 4096) :
    Completes (.getLog port link true off len) s port link rcSuccess
      ((((s.celOf port link).drop off).take len).map (·.toNat)) := by
  have fits : ¬ ((!true) = true ∨ (s.celOf port link).length < off + len ∨ payloadBytes < len) := by
    simp only [payloadBytes, Bool.not_true, Bool.false_eq_true, false_or]; omega
  exact completes_mailbox ho (exec_getLog ..) nofun (if_neg fits)

/-- A poison list that one reply carries is answered whole. -/
theorem completes_getPoisonList (hr : s.realm (.mailbox port link) = .hostOwner) {dpa n : Nat} {l : List PEntry}
    (hl : (s.poisonEntries.filter fun e =>
      decide (64 * e.line < dpa + n) && decide (dpa < 64 * (e.line + e.len))) = l) (hn : l.length ≤ 254) :
    Completes (.getPoisonList port link dpa n) s port link rcSuccess
      ([s.hosts.poisonOverflow.toNat, s.hosts.overflowTime, 0, l.length] ++
        l.flatMap fun e => [64 * e.line, e.len, e.injected.toNat]) := by
  have whole : l.take entriesPerReply = l := List.take_of_length_le hn
  have none_left : bit (decide (entriesPerReply < l.length)) = 0 := congrArg bit (decide_eq_false (Nat.not_lt.2 hn))
  refine completes_mailbox ho (exec_getPoisonList ..) (fun _ => hr) ?_
  show State.complete s.fresh port link rcSuccess _ = _
  simp only [show s.fresh.poisonEntries = s.poisonEntries from rfl, hl, whole, none_left]
  rfl

/-- A log that one reply carries is answered whole. -/
theorem completes_getEventRecords {log : Nat} (hlog : log ≤ 3) {g : EvLog} (hg : (s.hlink port link).log log = g)
    (hn : g.recs.length ≤ 31) : Completes (.getEventRecords port link log) s port link rcSuccess
      ([g.overflow.toNat, 0, g.recs.length] ++ g.recs.flatMap LogRec.fields) := by
  have whole : g.recs.take recordsPerReply = g.recs := List.take_of_length_le hn
  have none_left : bit (decide (recordsPerReply < g.recs.length)) = 0 := congrArg bit (decide_eq_false (Nat.not_lt.2 hn))
  refine completes_mailbox ho (exec_getEventRecords ..) nofun ((if_neg (by omega)).trans ?_)
  simp only [show s.fresh.hlink port link = s.hlink port link from rfl, hg, whole, none_left]

end

/-- Settles O18: each command's effect on an open mailbox is the completion of its fields. -/
theorem informationCommandsAnswer : Obligations.InformationCommandsAnswer := by
  intro s port link log off len opcode dpa n ho
  refine ⟨fun hr => ⟨?_, fun hl hp => completes_getLsa ho hr hl hp, fun hn => completes_getPoisonList ho hr rfl hn⟩,
    completes_mailbox ho (exec_identify ..) nofun rfl, completes_mailbox ho (exec_getSupportedLogs ..) nofun rfl,
    fun hl hp => completes_getLog ho hl hp, completes_mailbox ho (exec_identifyMemoryDevice ..) nofun rfl,
    completes_mailbox ho (exec_getPartitionInfo ..) nofun rfl,
    completes_mailbox ho (exec_setPartitionInfo ..) nofun rfl,
    completes_mailbox ho (exec_unsupportedOpcode ..) nofun rfl, completes_mailbox ho (exec_getHealthInfo ..) nofun rfl,
    completes_mailbox ho (exec_getAlertConfig ..) nofun rfl, completes_mailbox ho (exec_getShutdownState ..) nofun rfl,
    completes_mailbox ho (exec_getEventInterruptPolicy ..) nofun rfl,
    fun hlog hn => completes_getEventRecords ho hlog rfl hn⟩
  exact ⟨_, _, completes_mailbox ho (exec_getFwInfo ..) (fun _ => hr) rfl⟩

end Sys2Proof.Machine
end

section
/-! PROOFS. Device time over the mailbox (O20) and the mailbox's settings (O21). -/
namespace Sys2Proof.Machine

open Sys2Proof.Safety

/-- SET_TIMESTAMP within 10 s of a time sync is only recorded. -/
theorem does_setTimestamp_synced {s : State} {port link ns sync : Nat} (ho : MailboxOpen s port link)
    (hs : s.aon.rackSyncAt = some sync) (hn : s.aon.now - sync ≤ 10000000000) :
    Does (.setTimestamp port link ns) s fun t =>
      t.out = [.mbox port link rcSuccess []] ∧ t.aon = s.aon ∧ Keeps s t [.out] := by
  have synced : s.fresh.rackSynced = true := by simp [State.rackSynced, hs, hn]
  refine does_mailbox (t := (s.fresh.report 0 cTimeIgnored 0 0 [port, link]).complete port link rcSuccess [])
    ho (exec_setTimestamp ..) nofun (by simp [synced]) ⟨?_, ?_, ?_⟩
  · simp [State.complete]
  · simp [State.complete]
  · exact Keeps.settle (keeps_complete (keeps_report (Keeps.fresh s _) (by decide) _ _ _ _) (by simp) _ _ _ _)

/-- Settles O20: where time was synced within 10 s, Set Timestamp is recorded and completes; Get Timestamp only completes. -/
theorem setTimestampYieldsToTimeSync : Obligations.SetTimestampYieldsToTimeSync := by
  intro s port link ns sync ho
  exact ⟨fun hs hn => does_setTimestamp_synced ho hs hn, completes_mailbox ho (exec_getTimestamp ..) nofun rfl⟩

section
variable {s : State} {port link : Nat} (ho : MailboxOpen s port link)
include ho

/-- A mailbox command that writes its own link and completes. -/
theorem does_mailbox_setLink {c : Instr} {f : State → State} {x : HLink}
    (hc : exec c s = act (fun s => s.mailbox port link false f) s)
    (hf : f s.fresh = (s.fresh.setLink port link x).complete port link rcSuccess []) :
    Does c s fun t => t.out = [.mbox port link rcSuccess []] ∧ LinkIs s t port link x ∧ Keeps s t [.hosts, .out] :=
  does_mailbox ho hc nofun hf ⟨settle_out _, linkIs_settle (linkIs_setLink ..) rfl,
    Keeps.settle (keeps_complete (keeps_setLink (Keeps.fresh s _) (by simp) _ _ _) (by simp) _ _ _ _)⟩

theorem does_clearEventRecords_handles {log : Nat} (hlog : log ≤ 3) {handles : List Nat}
    (hh : ∀ h ∈ handles, ∃ r ∈ ((s.hlink port link).log log).recs, r.handle = h) :
    Does (.clearEventRecords port link log false handles) s fun t =>
      t.out = [.mbox port link rcSuccess []] ∧
      LinkIs s t port link ((s.hlink port link).setLog log { (s.hlink port link).log log with
        recs := ((s.hlink port link).log log).recs.filter fun r => !handles.elem r.handle }) ∧
      Keeps s t [.hosts, .out] := by
  refine does_mailbox_setLink ho (exec_clearEventRecords ..) ?_
  refine (if_neg (by omega)).trans ((if_neg (by decide)).trans (if_pos ?_))
  simpa [show s.fresh.hlink port link = s.hlink port link from rfl] using hh

/-- SET_TIMESTAMP without a recent time sync. -/
theorem does_setTimestamp {v : Nat} (hs : s.aon.rackSyncAt = none) :
    Does (.setTimestamp port link v) s fun t =>
      t.out = [.mbox port link rcSuccess []] ∧
      t.aon = { s.aon with deviceTime := v / 1000 % 2 ^ 48, slewLeft := 0, slewPhase := 0 } ∧
      t.timeValid = true ∧ RegsBut s t [(0x7300, 6)] ∧ Keeps s t [.aon, .regs, .out] := by
  have synced : s.fresh.rackSynced = false := by simp [State.rackSynced, hs]
  refine does_mailbox (t := (State.setReg { s.fresh with aon := { s.aon with
    deviceTime := v / 1000 % 2 ^ 48, slewLeft := 0, slewPhase := 0 } } 0x7300 6 1).complete port link rcSuccess [])
    ho (exec_setTimestamp ..) nofun ?_ ⟨settle_out _, settle_aon _, ?_, ?_, ?_⟩
  · simp only [synced, Bool.false_eq_true, if_false]; rfl
  · have valid : ∀ u : State, u.reg 0x7300 6 = 1 → (settle u).timeValid = true := fun u hu => by
      rw [State.timeValid, reg_settle_of_not_stagingCount u (by decide) (by simp [stagingCount]), hu]; rfl
    exact valid _ ((State.reg_complete ..).trans (State.reg_setReg_same ..))
  · exact regsBut_settle (regsBut_complete (regsBut_setReg (fun _ _ _ _ _ => rfl) (by simp) (by decide) _) _ _ _ _)
  · exact Keeps.settle (keeps_complete (keeps_setReg (keeps_setAon (Keeps.fresh s _) (by simp) _) (by simp) _ _ _)
      (by simp) _ _ _ _)

/-- A mailbox command of the host owner that writes the hosts and completes. -/
theorem does_mailbox_setHosts {c : Instr} {f : State → State} {x : Hosts}
    (hr : s.realm (.mailbox port link) = .hostOwner)
    (hc : exec c s = act (fun s => s.mailbox port link true f) s)
    (hf : f s.fresh = { s.fresh with hosts := x }.complete port link rcSuccess []) :
    Does c s fun t => t.out = [.mbox port link rcSuccess []] ∧ hostsAre t x ∧ Keeps s t [.hosts, .out] :=
  does_mailbox ho hc (fun _ => hr) hf ⟨settle_out _, hostsAre_settle_of rfl,
    Keeps.settle (keeps_complete (keeps_setHosts (Keeps.fresh s _) (by simp) _) (by simp) _ _ _ _)⟩

end

/-- Bytes written to a memory read back. -/
theorem Memory.bytes_setBytes (m : Memory) (a : Nat) (bs : Bytes) : (m.setBytes a bs).bytes a bs.length = bs := by
  induction bs generalizing m a with
  | nil => rfl
  | cons b bs ih =>
    have first : (m.setBytes a (b :: bs)).byte a = b := by
      rw [show m.setBytes a (b :: bs) = (m.setByte a b).setBytes (a + 1) bs from rfl,
        Memory.byte_setBytes_outside _ _ _ (by omega), Memory.byte_setByte_same]
    have rest : (m.setBytes a (b :: bs)).bytes (a + 1) bs.length = bs := ih (m.setByte a b) (a + 1)
    rw [List.length_cons, Memory.bytes, first, rest]

section
variable {s : State} {port link : Nat} (ho : MailboxOpen s port link) (hr : s.realm (.mailbox port link) = .hostOwner)
include ho hr

/-- SET_SHUTDOWN_STATE keeps the state of the port, and of no other. -/
theorem does_setShutdownState (v : Nat) : Does (.setShutdownState port link v) s fun t =>
    t.out = [.mbox port link rcSuccess []] ∧ look 0 t.hosts.shutdown port = v ∧
      (∀ p, p ≠ port → look 0 t.hosts.shutdown p = look 0 s.hosts.shutdown p) ∧
      hostsAre t { s.hosts with shutdown := t.hosts.shutdown } ∧ Keeps s t [.hosts, .out] := by
  obtain ⟨t, ht, hout, hh, hk⟩ := does_mailbox_setHosts
    (x := { s.hosts with shutdown := put 0 s.hosts.shutdown port v }) ho hr (exec_setShutdownState ..) rfl
  have kept : t.hosts.shutdown = put 0 s.hosts.shutdown port v := by rw [hostsAre.eq_update hh]
  exact ⟨t, ht, hout, by rw [kept, look_put_same], fun p hp => by rw [kept, look_put_ne _ _ _ hp],
    by rw [kept]; exact hh, hk⟩

/-- SET_LSA stores its bytes, and no other. -/
theorem does_setLsa {v : Nat} {data : Bytes} (hl : v + data.length ≤ 131072) (hp : data.length ≤ 4096) :
    Does (.setLsa port link v data) s fun t =>
      t.out = [.mbox port link rcSuccess []] ∧ Memory.bytes t.hosts.lsa v data.length = data ∧
      (∀ a, (a < v ∨ v + data.length ≤ a) → Memory.byte t.hosts.lsa a = Memory.byte s.hosts.lsa a) ∧
      hostsAre t { s.hosts with lsa := t.hosts.lsa } ∧ Keeps s t [.hosts, .out] := by
  have fits : ¬ lsaBytes < v + data.length ∧ ¬ payloadBytes < data.length := by
    simp only [lsaBytes, payloadBytes]; omega
  obtain ⟨t, ht, hout, hh, hk⟩ := does_mailbox_setHosts
    (x := { s.hosts with lsa := Memory.setBytes s.hosts.lsa v data }) ho hr (exec_setLsa ..)
    ((if_neg fits.1).trans (if_neg fits.2))
  have kept : t.hosts.lsa = Memory.setBytes s.hosts.lsa v data := by rw [hostsAre.eq_update hh]
  exact ⟨t, ht, hout, by rw [kept, Memory.bytes_setBytes],
    fun a ha => by rw [kept, Memory.byte_setBytes_outside _ _ _ ha], by rw [kept]; exact hh, hk⟩

end

/-- Settles O21: each setting is a write of the link, of device time or of the hosts, and a completion. -/
theorem mailboxSettingsAreKept : Obligations.MailboxSettingsAreKept := by
  intro s port link v log data handles ho
  exact ⟨does_mailbox_setLink ho (exec_setEventInterruptPolicy ..) rfl,
    fun hlog => does_mailbox_setLink ho (exec_clearEventRecords ..) ((if_neg (by omega)).trans (if_pos rfl)),
    fun hlog hh => does_clearEventRecords_handles ho hlog hh, fun hs => does_setTimestamp ho hs,
    fun hr => ⟨does_mailbox_setHosts ho hr (exec_setAlertConfig ..) rfl, does_setShutdownState ho hr v,
      fun hl hp => does_setLsa ho hr hl hp⟩⟩

end Sys2Proof.Machine
end

section
/-! PROOFS. Host links train, are metered and become insecure (O14). -/
namespace Sys2Proof.Machine

open Sys2Proof.Safety

theorem exec_linkTrainingDone (port link : Nat) (p : Partner) (s : State) :
    exec (.linkTrainingDone port link p) s = execLinkTrainingDone port link p s := rfl
theorem exec_class0TokenRefill (port link : Nat) (s : State) :
    exec (.class0TokenRefill port link) s = execClass0TokenRefill port link s := rfl
theorem exec_ideCheckFail (port link : Nat) (s : State) :
    exec (.ideCheckFail port link) s = execIdeCheckFail port link s := rfl

theorem State.dieOfPort_lt {s : State} {port : Nat} (h : port < 2 * s.n) : dieOfPort port < 8 := by
  have := s.n_le_eight
  unfold dieOfPort; omega

section
variable {s t : State} {port link : Nat} {x : HLink} {c : Instr} {f : State → State}

/-- A command that writes a link. -/
theorem does_setLink (hon : s.aon.on = true) (hc : exec c s = act f s) (hf : f s.fresh = s.fresh.setLink port link x) :
    Does c s fun t => LinkIs s t port link x ∧ Keeps s t [.hosts] :=
  does_of_effect hon hc hf ⟨linkIs_settle (linkIs_setLink ..) rfl,
    Keeps.settle (keeps_setLink (Keeps.fresh s _) (by simp) _ _ _)⟩

/-- A command that writes a link and reports it on the die of its port. -/
theorem does_setLink_report (hon : s.aon.on = true) (hp : port < 2 * s.n) (hc : exec c s = act f s)
    {cause sev vis : Nat} {args : List Nat}
    (hf : f s.fresh = (s.fresh.setLink port link x).report (dieOfPort port) cause sev vis args) :
    Does c s fun t => LinkIs s t port link x ∧ Keeps s t [.hosts] :=
  does_of_effect hon hc hf ⟨linkIs_settle (linkIs_setLink ..) (State.report_hosts ..), Keeps.settle
    (keeps_report (keeps_setLink (Keeps.fresh s _) (by simp) _ _ _) (State.dieOfPort_lt hp) _ _ _ _)⟩

end

/-- A link that has trained with a 256-byte-flit partner is up. -/
theorem State.linkTrained_up {s : State} {port link : Nat} {p : Partner} (hflit : p.flit256 = true)
    (hv : 0 < linkSpeed (speedLimit (s.reg (ixPort port) 2)) p.maxGts) :
    s.linkTrained port link p = (s.setLink port link { s.hlink port link with
      st := 2, speed := linkSpeed (speedLimit (s.reg (ixPort port) 2)) p.maxGts, width := lanesOf (s.bifOf port)
      latOpt := p.latOpt && decide (s.reg (ixPort port) 6 = 1), tokens := s.reg 0x5000 1 }).report
        (dieOfPort port) cHostLink 0 0 [port, link, 2] :=
  (if_neg hv.ne').trans (if_neg (by simp [hflit]))

/-- A link that has trained with any other partner is refused. -/
theorem State.linkTrained_refused {s : State} {port link : Nat} {p : Partner} (hflit : p.flit256 = false)
    (hv : 0 < linkSpeed (speedLimit (s.reg (ixPort port) 2)) p.maxGts) :
    s.linkTrained port link p = (s.setLink port link { s.hlink port link with
      st := 3, speed := linkSpeed (speedLimit (s.reg (ixPort port) 2)) p.maxGts, width := lanesOf (s.bifOf port)
      }).report (dieOfPort port) cHostLink 2 0 [port, link, 3] :=
  (if_neg hv.ne').trans (if_pos (by simp [hflit]))

/-- Settles O14: each command is one write of the link, reported where it comes up, is refused or fails. -/
theorem linksTrainAndMeter : Obligations.LinksTrainAndMeter := by
  intro s port link p hon hp
  refine ⟨fun hu hst hflit hv => ?_, fun hu hst hflit hv => ?_, fun hst => ?_, fun hst hide => ?_⟩
  · exact does_setLink_report hon hp (exec_linkTrainingDone ..)
      ((if_pos ⟨hu, hst⟩).trans (State.linkTrained_up (s := s.fresh) hflit hv))
  · exact does_setLink_report hon hp (exec_linkTrainingDone ..)
      ((if_pos ⟨hu, hst⟩).trans (State.linkTrained_refused (s := s.fresh) hflit hv))
  · exact does_setLink hon (exec_class0TokenRefill ..) (if_pos hst)
  · exact does_setLink_report hon hp (exec_ideCheckFail ..) (if_pos ⟨hst, hide⟩)

end Sys2Proof.Machine
end

section
/-! PROOFS. IDE keys establish the stream, and CDAT answers (O27). -/
namespace Sys2Proof.Machine

open Sys2Proof.Safety

theorem exec_ideKm (port link : Nat) (msg : IdeKm) (s : State) :
    exec (.ideKm port link msg) s = execIdeKm port link msg s := rfl
theorem exec_tableAccess (port link entry : Nat) (s : State) :
    exec (.tableAccess port link entry) s = execTableAccess port link entry s := rfl

/-- A DOE mailbox that is served runs its request. -/
theorem State.doe_on {s : State} {port link : Nat} (h : s.doeOn port link = true) (f : State → State) :
    s.doe port link f = f s := if_pos h

/-- A request inside an established session is served. -/
theorem State.spdmIn_session {s : State} {port link : Nat} (h : s.doeOn port link = true)
    (hst : 3 ≤ (s.hlink port link).spdm.stage) (hs : (s.hlink port link).spdm.session = true)
    (f : Spdm → State → State) : s.spdmIn port link f = f (s.hlink port link).spdm s := by
  simp [State.spdmIn, State.spdmAt, State.doe_on h, Nat.not_lt.2 hst, hs]

/-- A state that an IDE_KM message leaves, with the link as the message has it. -/
structure IdeStepped (s u : State) (port link : Nat) (x : HLink) : Prop where
  link : LinkIs s u port link x
  out : u.out = []
  keeps : Keeps s u [.hosts, .out]

theorem ideStepped_fresh (s : State) (port link : Nat) : IdeStepped s s.fresh port link (s.hlink port link) :=
  ⟨linkIs_refl .., rfl, Keeps.fresh s _⟩

theorem ideStepped_setLink (s : State) (port link : Nat) (x : HLink) :
    IdeStepped s (s.fresh.setLink port link x) port link x :=
  ⟨linkIs_setLink .., rfl, keeps_setLink (Keeps.fresh s _) (by simp) _ _ _⟩

theorem IdeStepped.report {s u : State} {port link : Nat} {x : HLink} (h : IdeStepped s u port link x)
    (hp : port < 2 * s.n) (c v w : Nat) (a : List Nat) :
    IdeStepped s (u.report (dieOfPort port) c v w a) port link x :=
  ⟨LinkIs.report h.link _ _ _ _ _, (State.report_out ..).trans h.out,
    keeps_report h.keeps (State.dieOfPort_lt hp) _ _ _ _⟩

section
variable {s : State} {port link : Nat} (hd : SpdmAt s port link 3) (hs : (s.hlink port link).spdm.session = true)
include hd hs

/-- IDE_KM in a session answers with the link as the message leaves it. -/
theorem does_ideKm {msg : IdeKm} {x : HLink} (hu : IdeStepped s (s.fresh.ideStep port link msg) port link x) :
    Does (.ideKm port link msg) s fun t =>
      t.out = [.doe port link spVendor [1, x.ideKeyed.toNat, x.ideUp.toNat]] ∧ LinkIs s t port link x ∧
        Keeps s t [.hosts, .out] := by
  obtain ⟨hon, hdoe, hst⟩ := hd
  refine does_of_effect hon (exec_ideKm ..) (State.spdmIn_session (s := s.fresh) hdoe hst hs _) ⟨?_, ?_, ?_⟩
  · rw [settle_out, State.spdmSay, State.emit_out, hu.out, hu.link.1]; rfl
  · exact linkIs_settle hu.link rfl
  · exact Keeps.settle (keeps_emit hu.keeps (by simp) _)

variable (hp : port < 2 * s.n)
include hp

/-- K_SET_GO with keys programmed and no stream establishes it. -/
theorem does_ideKm_go (hk : (s.hlink port link).ideKeyed = true) (hi : (s.hlink port link).ideUp = false) :
    Does (.ideKm port link .kSetGo) s fun t =>
      t.out = [.doe port link spVendor [1, (s.hlink port link).ideKeyed.toNat, 1]] ∧
        LinkIs s t port link { s.hlink port link with ideUp := true, rekeyDue := false } ∧
        Keeps s t [.hosts, .out] := by
  have step : s.fresh.ideStep port link .kSetGo = (s.fresh.setLink port link
      { s.hlink port link with ideUp := true, rekeyDue := false }).report (dieOfPort port) cIdeUp 0 0 [port, link] :=
    if_pos ⟨hk, hi⟩
  exact does_ideKm hd hs (by rw [step]; exact (ideStepped_setLink ..).report hp _ _ _ _)

/-- K_SET_STOP ends the stream, recorded where there was one. -/
theorem does_ideKm_stop : Does (.ideKm port link .kSetStop) s fun t =>
    t.out = [.doe port link spVendor [1, 0, 0]] ∧
      LinkIs s t port link { s.hlink port link with ideUp := false, ideKeyed := false } ∧ Keeps s t [.hosts, .out] := by
  have stopped := ideStepped_setLink s port link { s.hlink port link with ideUp := false, ideKeyed := false }
  by_cases hu : (s.hlink port link).ideUp = true
  · have step : s.fresh.ideStep port link .kSetStop = State.report _ _ _ _ _ _ := if_pos hu
    exact does_ideKm hd hs (by rw [step]; exact stopped.report hp _ _ _ _)
  · have step : s.fresh.ideStep port link .kSetStop = State.setLink _ _ _ _ := if_neg hu
    exact does_ideKm hd hs (by rw [step]; exact stopped)

end

/-- Settles O27: each message is answered with the link as it leaves it. -/
theorem ideKeysEstablishTheStream : Obligations.IdeKeysEstablishTheStream := by
  intro s port link hd hp hs
  refine ⟨does_ideKm hd hs (ideStepped_fresh ..), does_ideKm hd hs (ideStepped_setLink ..), does_ideKm_go hd hs hp,
    fun hk => ?_, does_ideKm_stop hd hs hp, ?_⟩
  · have none_set : s.fresh.ideStep port link .kSetGo = s.fresh := if_neg fun ⟨keyed, down⟩ => by
      simp only [State.hlink_fresh] at keyed down
      simp [keyed, down] at hk
    exact does_ideKm hd hs (by rw [none_set]; exact ideStepped_fresh ..)
  · obtain ⟨hon, hdoe, -⟩ := hd
    exact does_of_effect hon (exec_tableAccess ..) (State.doe_on (s := s.fresh) hdoe _)
      ⟨settle_out _, Keeps.settle (keeps_emit (Keeps.fresh s _) (by simp) _)⟩

end Sys2Proof.Machine
end

section
/-! PROOFS. Dictionary Access on numeric objects (O23): a read gives the value, a write keeps the nearest legal one. -/
namespace Sys2Proof.Machine

open Sys2Proof.Safety

@[simp] theorem leBytes_length (n v : Nat) : (leBytes n v).length = n := by
  induction n generalizing v with
  | zero => rfl
  | succ n ih => rw [leBytes, List.length_cons, ih]

/-- A read of a numeric object that passes the checks answers its value, and has no effect (15 R341, R343). -/
theorem State.readObj_number {s : State} {o : Origin} {c : Cls} {r : ObjRow} {idx want : Nat}
    (h : MayRead s o c r idx want) :
    s.readObj o idx r.sub 0 want =
      (.now stOk r.ty.size r.ty.size (leBytes r.ty.size (s.valueOf (s.realm o) idx r.sub)), s) := by
  obtain ⟨-, -, hclass, hsub, hrow, hright, hopen, hsize, hwant, hadc, hrec, hfw⟩ := h
  have isOpen : (!s.inSession o && !publicIndex idx) = false := by
    rcases hopen with h | h <;> simp [h]
  have whole : readNumber r.ty.size (s.valueOf (s.realm o) idx r.sub) 0 want =
      .now stOk r.ty.size r.ty.size (leBytes r.ty.size (s.valueOf (s.realm o) idx r.sub)) := if_neg (by omega)
  have value : s.readValue (s.realm o) c r idx 0 want = (readNumber r.ty.size (s.valueOf (s.realm o) idx r.sub) 0 want, s) := by
    unfold State.readValue
    split
    · next d hd => exact absurd ⟨rfl, hd⟩ (hrec d)
    · next hf => exact absurd ⟨rfl, hf⟩ hfw
    · next d hd => exact absurd ⟨rfl, hd⟩ (hadc d)
    · rw [if_neg hsize.ne']
  simp only [State.readObj, hclass, hrow, hright, isOpen, value, whole, hsub.ne', if_false, Bool.not_true, Bool.false_eq_true]

/-- A read of a numeric object by a mailbox is answered with its value. -/
theorem State.runRead_number {s : State} {port link : Nat} {c : Cls} {r : ObjRow} {idx want : Nat}
    (h : MayRead s (.mailbox port link) c r idx want) :
    s.runRead (callerOf (.mailbox port link)) idx r.sub 0 want =
      s.emit (.dict port link stOk r.ty.size r.ty.size
        (leBytes r.ty.size (s.valueOf (s.realm (.mailbox port link)) idx r.sub))) := by
  simp only [State.runRead, callerOf, State.readObj_number h, State.cannotSend, State.answerRead, leBytes_length,
    Bool.false_eq_true, if_false]

/-- A plain object is no latency target. -/
theorem State.movesTarget_plain (s : State) {c : Cls} {sub : Nat} (hp : plainObject c sub = true) (idx v : Nat) :
    s.movesTarget c idx sub v = false := by
  cases c with
  | classPort g =>
    have target : ¬ (sub = 1 ∨ sub = 2) := by rintro (rfl | rfl) <;> simp [plainObject] at hp
    simp only [not_or] at target
    simp [State.movesTarget, target]
  | _ => rfl

/-- A plain object is no period or start event of a timer. -/
theorem State.timerWritten_plain (s : State) {c : Cls} {sub : Nat} (hp : plainObject c sub = true) (hs : 0 < sub) :
    s.timerWritten c sub = s := by
  cases c with
  | timer d t =>
    have late : ¬ sub ≤ 2 := fun h => by
      obtain rfl | rfl : sub = 1 ∨ sub = 2 := by omega
      all_goals simp [plainObject] at hp
    exact if_neg late
  | _ => rfl

/-- A plain object that STATE does not bar is set, and nothing else. -/
theorem State.applyNumber_plain (s : State) (who : Caller) {c : Cls} {r : ObjRow} (idx v : Nat)
    (hp : plainObject c r.sub = true) (hs : 0 < r.sub) (hb : s.barred c r.sub v = false) :
    s.applyNumber who c r idx v = (.now stOk r.ty.size r.ty.size [], s.setReg idx r.sub v) := by
  unfold State.applyNumber
  dsimp only
  split
  case h_14 =>
    rw [hb, s.movesTarget_plain hp, State.timerWritten_plain _ hp hs]
    rfl
  all_goals simp_all [plainObject]

/-- A write of a plain numeric object that passes every check keeps the nearest legal value (15 R341, R342). -/
theorem State.writeObj_plain {s : State} {who : Caller} {c : Cls} {r : ObjRow} {idx off : Nat} {data : Bytes}
    (h : MayWrite s who.origin c r idx off data) (hp : plainObject c r.sub = true)
    (hb : s.barred c r.sub (s.legal c r.sub (clampRaw r (leNat data))) = false) :
    s.writeObj who idx r.sub off data = (.now stOk r.ty.size r.ty.size [],
      s.setReg idx r.sub (s.legal c r.sub (clampRaw r (leNat data)))) := by
  obtain ⟨-, -, hclass, hsub, hrow, hright, hopen, hoff, hlen, hsize⟩ := h
  have gate : s.writeGate who.origin idx r.sub = .ok (c, r) := by
    simp only [State.writeGate, hclass, hrow, hright, hopen, hsub.ne', if_false, Bool.not_true, Bool.false_eq_true]
  have fits : ¬ (off ≠ 0 ∨ data.length ≠ r.ty.size) := by omega
  simp only [State.writeObj, gate, hsize.ne', if_false, fits, s.applyNumber_plain who idx _ hp hsub hb]

/-- The staging counters of a recorder are read-only (19 R413). -/
theorem not_stagingCount_of_writes {s : State} {o : Origin} {c : Cls} {r : ObjRow} {idx : Nat}
    (hclass : classify s.n idx = some c) (hrow : findRow r.sub (c.rows s.n) = some r)
    (hright : (s.rightOf o c r idx).writes = true) : ¬ stagingCount idx r.sub := by
  rintro ⟨hlo, hhi, hsub⟩
  have recorder : ∃ d, c = .recDie d := by
    have page : idx / 0x1000 = 1 := by omega
    simp only [classify, page, classify1] at hclass
    repeat rw [if_neg (by omega)] at hclass
    rw [if_pos (by omega), inCount] at hclass
    split at hclass
    · exact ⟨_, (Option.some.inj hclass).symm⟩
    · cases hclass
  obtain ⟨d, rfl⟩ := recorder
  have rights : r.rights = .roAll := by
    rcases hsub with h | h <;> rw [h] at hrow <;> obtain rfl := Option.some.inj hrow <;> rfl
  simp only [State.rightOf, rights] at hright
  cases hrealm : s.realm o <;> simp [hrealm, Rights.of, Right.writes] at hright

/-- A write of a plain numeric object by a mailbox is answered OK. -/
theorem State.runWrite_plain {s : State} {port link : Nat} {c : Cls} {r : ObjRow} {idx off : Nat} {data : Bytes}
    (h : MayWrite s (.mailbox port link) c r idx off data) (hp : plainObject c r.sub = true)
    (hb : s.barred c r.sub (s.legal c r.sub (clampRaw r (leNat data))) = false) :
    s.runWrite (callerOf (.mailbox port link)) idx r.sub off data =
      (s.setReg idx r.sub (s.legal c r.sub (clampRaw r (leNat data)))).emit
        (.dict port link stOk r.ty.size r.ty.size []) := by
  have noRestart : ¬ (idx = 0x7300 ∧ r.sub = 1) := by
    rintro ⟨rfl, hsub⟩
    obtain rfl : Cls.clk = c := Option.some.inj (h.2.2.1 : classify s.n 0x7300 = some c)
    simp [hsub, plainObject] at hp
  simp only [State.runWrite, State.writeObj_plain (who := callerOf (.mailbox port link)) h hp hb, and_true,
    if_neg noRestart]
  rfl

/-- A Dictionary Access read of twelve bytes runs the read that it names. -/
theorem State.dictAccess_read (s : State) (port link : Nat) {p : Bytes} (hlen : p.length = 12) (hop : leAt p 0 1 = 0) :
    s.dictAccess port link p =
      s.runRead (callerOf (.mailbox port link)) (leAt p 2 2) (leAt p 1 1) (leAt p 4 4) (leAt p 8 4) := by
  simp [State.dictAccess, hlen, hop]

/-- A Dictionary Access write whose Length agrees with its data runs the write that it names. -/
theorem State.dictAccess_write {s : State} {port link : Nat} {p : Bytes}
    (hr : s.realm (.mailbox port link) = .hostOwner) (hlen : p.length = 12 + leAt p 8 4) (hmost : leAt p 8 4 ≤ 4084)
    (hop : leAt p 0 1 = 1) :
    s.dictAccess port link p =
      s.runWrite (callerOf (.mailbox port link)) (leAt p 2 2) (leAt p 1 1) (leAt p 4 4) (p.drop 12) := by
  have short : ¬ mostBytes < leAt p 8 4 := Nat.not_lt.2 hmost
  simp [State.dictAccess, hr, hlen, hop, short]

theorem leNat_lt (b : Bytes) : leNat b < 256 ^ b.length := by
  induction b with
  | nil => simp [leNat]
  | cons x b ih =>
    have := x.isLt
    rw [leNat, List.length_cons, Nat.pow_succ]; omega

/-- A field of one byte lies below 256. -/
theorem leAt_one_lt (b : Bytes) (a : Nat) : leAt b a 1 < 256 :=
  calc leAt b a 1 < 256 ^ (sliceOf b a 1).length := leNat_lt _
    _ ≤ 256 ^ 1 := Nat.pow_le_pow_right (by decide) (List.length_take_le ..)

/-- Settles O23: the payload names the operation, whose checks hold; its answer is the value, or the nearest legal
value is kept. -/
theorem dictionaryAccessReadsAndWrites : Obligations.DictionaryAccessReadsAndWrites := by
  intro s port link p c r
  refine ⟨fun hlen hop hsub hoff hm => ?_, fun hr hlen hmost hop hsub hm hp hb => ?_⟩
  · have read : s.fresh.dictAccess port link p = s.fresh.emit (.dict port link stOk r.ty.size r.ty.size
        (leBytes r.ty.size (s.valueOf (s.realm (.mailbox port link)) (leAt p 2 2) r.sub))) := by
      rw [State.dictAccess_read _ _ _ hlen hop, hsub, hoff]
      exact State.runRead_number (s := s.fresh) hm
    exact does_mailbox ⟨hm.1, hm.2.1⟩ (exec_dictionaryAccessRead ..) nofun read
      ⟨settle_out _, Keeps.settle (keeps_emit (Keeps.fresh s _) (by simp) _)⟩
  · have small : r.sub < 256 := hsub ▸ leAt_one_lt p 1
    have counted : ¬ stagingCount (leAt p 2 2) r.sub := by
      obtain ⟨-, -, hclass, -, hrow, hright, -⟩ := hm
      exact not_stagingCount_of_writes hclass hrow hright
    have write : s.fresh.dictAccess port link p =
        (s.fresh.setReg (leAt p 2 2) r.sub (s.legal c r.sub (clampRaw r (leNat (p.drop 12))))).emit
          (.dict port link stOk r.ty.size r.ty.size []) := by
      rw [State.dictAccess_write (s := s.fresh) hr hlen hmost hop, hsub]
      exact State.runWrite_plain (s := s.fresh) hm hp hb
    refine does_mailbox ⟨hm.1, hm.2.1⟩ (exec_dictionaryAccessWrite ..) nofun write ⟨settle_out _, ?_, ?_, ?_⟩
    · rw [reg_settle_of_not_stagingCount _ small counted, State.reg_emit, State.reg_setReg_same]
    · exact regsBut_settle (t := State.emit _ _) (regsBut_setReg (fun _ _ _ _ _ => rfl) (by simp) small _)
    · exact Keeps.settle (keeps_emit (keeps_setReg (Keeps.fresh s _) (by simp) _ _ _) (by simp) _)

end Sys2Proof.Machine
end

section
/-! PROOFS. Global Persistent Flush and CXL.io (O16). -/
namespace Sys2Proof.Machine

open Sys2Proof.Safety

theorem exec_globalPersistentFlush (port link : Nat) (s : State) :
    exec (.globalPersistentFlush port link) s = execGlobalPersistentFlush port link s := rfl
theorem exec_gpfDrainComplete (s : State) : exec .gpfDrainComplete s = execGpfDrainComplete s := rfl
theorem exec_cxlIoRequest (port link : Nat) (tgt : IoTarget) (wr : Option Nat) (s : State) :
    exec (.cxlIoRequest port link tgt wr) s = execCxlIoRequest port link tgt wr s := rfl

/-- Answers put out one after the other stand in the output in that order. -/
theorem foldl_emit {α : Type} (g : α → Output) (l : List α) (s : State) :
    l.foldl (fun t a => t.emit (g a)) s = { s with out := s.out ++ l.map g } := by
  induction l generalizing s with
  | nil => simp
  | cons a l ih =>
    rw [List.foldl_cons, ih, State.emit_out, List.append_assoc]
    rfl

/-- A flush is held by no write when those it covers are neither under way nor queued. -/
theorem State.flushHeld_eq_false {s : State} {f : Flush} (hw : ∀ q ∈ s.writesUnderWay, f.upTo ≤ q.id)
    (hq : ∀ e ∈ s.dram.chans, ∀ q ∈ e.2.writes, f.upTo ≤ q.id) : s.flushHeld f = false := by
  simp only [State.flushHeld, List.any_eq_false, List.mem_append, List.mem_flatMap, decide_eq_true_eq, not_lt]
  rintro q (h | ⟨e, he, h⟩)
  · exact hw q h
  · exact hq e he q h

/-- GPF_DRAIN_COMPLETE ends the flushes that no write holds, and reports each on its link. -/
theorem does_gpfDrainComplete {s : State} (hon : s.aon.on = true) :
    Does .gpfDrainComplete s fun t =>
      t.out = (s.hosts.gpf.filter fun f => !s.flushHeld f).map (fun f => Output.gpfDone f.port f.link) ∧
      hostsAre t { s.hosts with gpf := s.hosts.gpf.filter s.flushHeld } ∧ Keeps s t [.hosts, .out] :=
  does_of_effect hon (exec_gpfDrainComplete s) (foldl_emit ..)
    ⟨settle_out _, hostsAre_settle_of rfl,
      Keeps.settle (keeps_setOut (keeps_setHosts (Keeps.fresh s _) (by simp) _) (by simp) _)⟩

/-- What a write gives an HDM decoder field or an MSI-X vector reads back. -/
theorem State.ioValue_of_ioWrite {t : State} {k : HLink} {port link v : Nat} {tgt : IoTarget}
    (ht : t.hlink port link = k.ioWrite v tgt)
    (hv : (∃ d f, tgt = .hdm d f ∧ hdmTakes f v = true) ∨ ∃ i, tgt = .msix i) : t.ioValue port link tgt = v := by
  rcases hv with ⟨d, f, rfl, hf⟩ | ⟨i, rfl⟩
  · have written : t.hlink port link = { k with hdm := put (hdmDefault f) k.hdm (4 * d + f) v } := ht.trans (if_pos hf)
    rw [State.ioValue, written, HLink.hdmField, look_put_same]
  · have written : t.hlink port link = { k with msix := put 0 k.msix i v } := ht
    rw [State.ioValue, written, look_put_same]

/-- A link that is up serves CXL.io. -/
theorem cxlIo_served {s : State} {port link : Nat} (hst : (s.hlink port link).st = 2) (hrun : s.hosts.stopped = false) :
    ¬ ((s.hlink port link).st ≠ 2 ∨ s.hosts.stopped = true) := by simp [hst, hrun]

section
variable {s : State} {port link : Nat} {tgt : IoTarget} (hon : s.aon.on = true)
include hon

section
variable (hst : (s.hlink port link).st = 2) (hrun : s.hosts.stopped = false)
include hst hrun

/-- GLOBAL_PERSISTENT_FLUSH on a link that is up joins the flushes in progress. -/
theorem does_globalPersistentFlush : Does (.globalPersistentFlush port link) s fun t =>
    hostsAre t { s.hosts with gpf := s.hosts.gpf ++ [{ port := port, link := link, upTo := s.hosts.nextReq }] } ∧
      Keeps s t [.hosts] :=
  does_of_effect hon (exec_globalPersistentFlush ..) (if_pos ⟨hst, hrun⟩)
    ⟨hostsAre_settle_of rfl, Keeps.settle (keeps_setHosts (Keeps.fresh s _) (by simp) _)⟩

theorem does_cxlIoRequest_read (hi : ioImplemented tgt = true) : Does (.cxlIoRequest port link tgt none) s fun t =>
    t.out = [.ioData port link (s.ioValue port link tgt)] ∧ Keeps s t [.out] :=
  does_of_effect hon (exec_cxlIoRequest ..) ((if_neg (cxlIo_served hst hrun)).trans (if_neg (by simp [hi])))
    ⟨settle_out _, Keeps.settle (keeps_emit (Keeps.fresh s _) (by simp) _)⟩

theorem does_cxlIoRequest_write (hi : ioImplemented tgt = true) (v : Nat) :
    Does (.cxlIoRequest port link tgt (some v)) s fun t =>
      t.out = [.ioData port link 0] ∧ LinkIs s t port link ((s.hlink port link).ioWrite v tgt) ∧
        Keeps s t [.hosts, .out] :=
  does_of_effect hon (exec_cxlIoRequest ..) ((if_neg (cxlIo_served hst hrun)).trans (if_neg (by simp [hi])))
    ⟨settle_out _, linkIs_settle (linkIs_setLink ..) rfl,
      Keeps.settle (keeps_emit (keeps_setLink (Keeps.fresh s _) (by simp) _ _ _) (by simp) _)⟩

theorem does_cxlIoRequest_unimplemented (hi : ioImplemented tgt = false) (wr : Option Nat) :
    Does (.cxlIoRequest port link tgt wr) s fun t =>
      t.out = [.ioUnsupported port link] ∧
      LinkIs s t port link { s.hlink port link with aer := (s.hlink port link).aer + 1 } ∧
      Keeps s t [.hosts, .out] :=
  does_of_effect hon (exec_cxlIoRequest ..) ((if_neg (cxlIo_served hst hrun)).trans (if_pos (by simp [hi])))
    ⟨settle_out _, linkIs_settle (linkIs_setLink ..) rfl,
      Keeps.settle (keeps_emit (keeps_setLink (Keeps.fresh s _) (by simp) _ _ _) (by simp) _)⟩

end

/-- An effect that leaves the clean state does nothing. -/
theorem does_nothing {c : Instr} {f : State → State} (hc : exec c s = act f s) (hf : f s.fresh = s.fresh) :
    Does c s fun t => Keeps s t [] := does_of_effect hon hc hf (Keeps.settle (Keeps.fresh s _))

end

/-- Settles O16: a flush joins the list and leaves it when no write holds it; CXL.io reads a target, writes its link's
field or counts an error there. -/
theorem gpfAndCxlIo : Obligations.GpfAndCxlIo := by
  refine ⟨fun s port link hon hst hrun => does_globalPersistentFlush hon hst hrun, fun s hon => ?_,
    fun s port link tgt hon hst hrun hi => does_cxlIoRequest_read hon hst hrun hi,
    fun s port link v tgt hon hst hrun hi => ?_,
    fun s port link tgt wr hon hst hrun hi => does_cxlIoRequest_unimplemented hon hst hrun hi wr,
    fun s port link tgt wr hon hdown => ⟨?_, ?_⟩⟩
  · obtain ⟨t, ht, hout, hhosts, hkeeps⟩ := does_gpfDrainComplete hon
    refine ⟨t, ht, fun f hf hw hq => ?_, hout, hhosts, hkeeps⟩
    have free := State.flushHeld_eq_false hw hq
    have left : t.hosts.gpf = s.hosts.gpf.filter s.flushHeld := by rw [hostsAre.eq_update hhosts]
    constructor
    · rw [left, List.mem_filter, free]; simp
    · rw [hout]; exact List.mem_map.2 ⟨f, List.mem_filter.2 ⟨hf, by simp [free]⟩, rfl⟩
  · obtain ⟨t, ht, hout, hlink, hkeeps⟩ := does_cxlIoRequest_write (port := port) (link := link) hon hst hrun hi v
    refine ⟨t, ht, hout, hlink, State.ioValue_of_ioWrite hlink.1, ?_, hkeeps⟩
    rintro ⟨d, f, rfl, hf⟩
    have untaken : ¬ hdmTakes f v = true := by simp [hf]
    exact hlink.1.trans (if_neg untaken)
  · exact does_nothing hon (exec_globalPersistentFlush ..) (if_neg fun ⟨hst, hrun⟩ => cxlIo_served hst hrun hdown)
  · exact does_nothing hon (exec_cxlIoRequest ..) (if_pos hdown)

end Sys2Proof.Machine
end

section
/-! PROOFS. A write of the mailbox on its way to the write queue of its line (O22): over an open way it crosses to its
owning die, meets a flake that is snow, and joins the queue of the line's subchannel. -/
namespace Sys2Proof.Machine

open Sys2Proof.Safety

/-- No request is held where no hold names its two dies. -/
theorem addHold_eq_none {a b : Nat} {q : Req} {l : List RouteHold}
    (h : ∀ x ∈ l, ¬ (x.ingress = a ∧ x.owner = b)) : addHold a b q l = none := by
  induction l with
  | nil => rfl
  | cons x l ih =>
    rw [List.forall_mem_cons] at h
    rw [addHold, if_neg h.1, ih h.2]
    rfl

/-- Nothing is cancelled where no quadrant enters hibernation. -/
theorem State.wakeLine_eq_self {s : State} {dpa : Nat}
    (h : (s.quad (dieOfRank (s.physOf dpa)) (quadOfRank (s.physOf dpa))).hibEntry = false) : s.wakeLine dpa = s := by
  have awake : (!(s.quad (dieOfRank (s.physOf dpa)) (quadOfRank (s.physOf dpa))).hibEntry) = true := by rw [h]; rfl
  exact if_pos awake

/-- A state with another shadowing state. -/
def State.setShadow (s : State) (x : Shadow) : State := { s with shadow := x }

/-- A state with another number for the next request. -/
def State.setNextReq (s : State) (k : Nat) : State := { s with hosts := { s.hosts with nextReq := k } }

/-- A state with other channel queues and another shadowing state. -/
def State.setQueues (s : State) (chans : Sparse Chan) (x : Shadow) : State :=
  { s with dram := { s.dram with chans := chans }, shadow := x }

/-! Where a line lies follows neither from shadowing nor from the number of the next request. -/

theorem State.place_setShadow (s : State) (x : Shadow) (o : Nat) : (s.setShadow x).place o = s.place o := by
  have die : (s.setShadow x).dieAny o = s.dieAny o := rfl
  have rank (d a : Nat) : (s.setShadow x).rankOf d a = s.rankOf d a := rfl
  simp only [State.place, die, rank]

theorem State.isLost_setShadow (s : State) (x : Shadow) (r : Nat) : (s.setShadow x).isLost r = s.isLost r := rfl

theorem subOfLine_setShadow (s : State) (x : Shadow) (o : Nat) : subOfLine (s.setShadow x) o = subOfLine s o := by
  have phys (r a : Nat) : (s.setShadow x).readRank r a = s.readRank r a := rfl
  simp only [subOfLine, State.physOf, State.place_setShadow, phys]

theorem State.place_setNextReq (s : State) (k o : Nat) : (s.fresh.setNextReq k).place o = s.place o := by
  have die : (s.fresh.setNextReq k).dieAny o = s.dieAny o := rfl
  have rank (d a : Nat) : (s.fresh.setNextReq k).rankOf d a = s.rankOf d a := rfl
  simp only [State.place, die, rank]

theorem State.physOf_setNextReq (s : State) (k o : Nat) : (s.fresh.setNextReq k).physOf o = s.physOf o := by
  have phys (r a : Nat) : (s.fresh.setNextReq k).readRank r a = s.readRank r a := rfl
  simp only [State.physOf, State.place_setNextReq, phys]

theorem subOfLine_setNextReq (s : State) (k o : Nat) : subOfLine (s.fresh.setNextReq k) o = subOfLine s o := by
  simp only [subOfLine, State.place_setNextReq, State.physOf_setNextReq]

theorem wayOpen_setNextReq {s : State} {port dpa : Nat} (h : WayOpen s port dpa) (k : Nat) :
    WayOpen (s.fresh.setNextReq k) port dpa := by
  have holds : (s.fresh.setNextReq k).hosts.routeHolds = s.hosts.routeHolds := rfl
  have reach (a b : Nat) : (s.fresh.setNextReq k).reachable a b = s.reachable a b := rfl
  have waits (a b : Nat) : (s.fresh.setNextReq k).waitsAt a b = s.waitsAt a b := rfl
  have drift (m : Nat) : (s.fresh.setNextReq k).driftOf m = s.driftOf m := rfl
  have mark (j : Nat) : (s.fresh.setNextReq k).mark j = s.mark j := rfl
  have lost (r : Nat) : (s.fresh.setNextReq k).isLost r = s.isLost r := rfl
  have rebuild (r a : Nat) : (s.fresh.setNextReq k).needsRebuild r a = s.needsRebuild r a := rfl
  have quad (d q : Nat) : (s.fresh.setNextReq k).quad d q = s.quad d q := rfl
  simpa only [WayOpen, State.place_setNextReq, State.physOf_setNextReq, holds, reach, waits, drift, mark, lost, rebuild, quad]
    using h

/-- Counting an access changes heat alone. -/
theorem State.heatAccess_eq (s : State) (m : Nat) : ∃ heat sub dies,
    s.heatAccess m = s.setShadow { s.shadow with heat := heat, heatSub := sub, dies := dies } := by
  unfold State.heatAccess
  dsimp only
  split
  · exact ⟨_, _, _, rfl⟩
  · exact ⟨_, _, _, rfl⟩

/-- Over an open way a request goes on to its flake. -/
theorem State.forward_open {s : State} {q : Req} (h : WayOpen s q.port q.dpa) :
    s.forward q = (s.heatAccess (flakeOf q.dpa)).admitOrHold q := by
  obtain ⟨hholds, hreach, hwaits, -, hmark, -, -, hquad⟩ := h
  have carried : s.carry q = s.accessFlake q := by
    simp only [State.carry, hreach, hwaits, State.wakeLine_eq_self hquad, Bool.not_true, Bool.false_eq_true, if_false]
  have marked : (!(s.heatAccess (flakeOf q.dpa)).mark
      ((s.heatAccess (flakeOf q.dpa)).driftOf (flakeOf q.dpa))) = false := by
    obtain ⟨heat, sub, dies, heq⟩ := s.heatAccess_eq (flakeOf q.dpa)
    have drift (x : Shadow) (m : Nat) : (s.setShadow x).driftOf m = s.driftOf m := rfl
    have mark (x : Shadow) (j : Nat) : (s.setShadow x).mark j = s.mark j := rfl
    rw [heq, drift, mark, hmark]
    rfl
  simp only [State.forward, addHold_eq_none hholds, carried, State.accessFlake, marked, Bool.false_eq_true, if_false]

/-- A write to a flake that is snow is admitted. -/
theorem State.admitOrHold_snow {s : State} {q : Req} (h : isSnow (s.firn (flakeOf q.dpa)) = true) :
    s.admitOrHold q = s.enterChannel q := if_neg (by simp [h])

theorem mergeWrite_eq_none {q : Req} {l : List Req} (h : ∀ e ∈ l, e.dpa ≠ q.dpa) : mergeWrite q l = none := by
  induction l with
  | nil => rfl
  | cons e l ih =>
    rw [List.forall_mem_cons] at h
    rw [mergeWrite, if_neg fun he => h.1 he.1, ih h.2]
    rfl

/-- Where the writes that stand in a queue's entries have been answered no Cmp is sent. -/
theorem State.sendCmps_answered {s : State} {sc : Nat} (h : ∀ e ∈ (s.chan sc).writes.take 64, e.answered = true) :
    s.sendCmps sc = s.setChan sc (s.chan sc) := by
  have none_ready : (((s.chan sc).writes.take 64).filter fun q => !q.answered) = [] :=
    List.filter_eq_nil_iff.2 fun e he => by simp [h e he]
  have same : (((s.chan sc).writes.take 64).map fun q : Req =>
      if (!q.answered) = true then { q with answered := true } else q) = (s.chan sc).writes.take 64 :=
    (List.map_congr_left fun e he => if_neg (by simp [h e he])).trans (List.map_id _)
  simp only [State.sendCmps, none_ready, same, List.take_append_drop, List.foldl_nil]

/-- The first places of a queue that grows at its end: those it had, and the one that joins. -/
theorem mem_take_append_singleton {α : Type} {n : Nat} {l : List α} {a x : α} (h : x ∈ (l ++ [a]).take n) :
    x ∈ l.take n ∨ x = a := by
  rw [List.take_append, List.mem_append] at h
  exact h.imp_right fun hx => List.mem_singleton.1 (List.mem_of_mem_take hx)

/-- An answered write to a line that no queued write holds joins the queue of its subchannel with a dirty notice; the
queue's other entries having been answered, nothing else follows. -/
theorem State.enterWrite_answered {s : State} {q : Req} (hcls : q.cls ≠ 0) (ha : q.answered = true)
    (hheld : s.withheld q = false) (hline : ∀ e ∈ (s.chan (s.subOfReq q)).writes, e.dpa ≠ q.dpa)
    (hans : ∀ e ∈ (s.chan (s.subOfReq q)).writes.take 64, e.answered = true) :
    ∃ chans notices,
      s.enterWrite q = { s with
        dram := { s.dram with chans := chans }, shadow := { s.shadow with notices := notices } } ∧
      look noChan chans (s.subOfReq q) = { s.chan (s.subOfReq q) with
        writes := (s.chan (s.subOfReq q)).writes ++ [{ q with arr := (s.chan (s.subOfReq q)).arrivals }]
        arrivals := (s.chan (s.subOfReq q)).arrivals + 1 } ∧
      ∀ k, k ≠ s.subOfReq q → look noChan chans k = s.chan k := by
  have apart : s.meets q = false := by simp [State.meets, hcls]
  have queued : s.asArrived (s.subOfReq q) (s.asQueued q) =
      { q with arr := (s.chan (s.subOfReq q)).arrivals } := by
    have same : s.asQueued q = q := by rw [State.asQueued, hheld, Bool.or_false]
    rw [same, State.asArrived, apart, Bool.or_false]
  have alone : mergeWrite { q with arr := (s.chan (s.subOfReq q)).arrivals } (s.chan (s.subOfReq q)).writes = none :=
    mergeWrite_eq_none hline
  have noSlice (u : State) (sc : Nat) : u.noteSlice sc q = u := if_neg fun h => hcls h.1
  have quiet : s.noteContended q = s := by rw [State.noteContended, apart]; rfl
  set x : Chan := { s.chan (s.subOfReq q) with
    writes := (s.chan (s.subOfReq q)).writes ++ [{ q with arr := (s.chan (s.subOfReq q)).arrivals }]
    arrivals := (s.chan (s.subOfReq q)).arrivals + 1 } with hx
  set u : State := (s.setChan (s.subOfReq q) x).sendNotice (s.subOfReq q) q.id (flakeOf q.dpa) q.ten with hu
  have held : u.holdThrough q = u := if_neg (show ¬ s.withheld q = true by simp [hheld])
  have chan : u.chan (s.subOfReq q) = x := look_put_same ..
  have sent : u.sendCmps (s.subOfReq q) = u.setChan (s.subOfReq q) x := by
    rw [State.sendCmps_answered, chan]
    rw [chan]
    intro e he
    rcases mem_take_append_singleton he with he | rfl
    · exact hans e he
    · exact ha
  have entered : s.enterWrite q = u.setChan (s.subOfReq q) x := by
    simp only [State.enterWrite, queued, alone, quiet]
    rw [← hx, ← hu, held, noSlice, sent]
  refine ⟨_, _, entered, look_put_same .., fun k hk => ?_⟩
  rw [look_put_ne _ _ _ hk]
  exact look_put_ne _ _ _ hk

/-- A host request accesses the subchannel that holds its line. -/
theorem State.subOfReq_host {s : State} {q : Req} (h : q.src = .host) : s.subOfReq q = subOfLine s q.dpa := by
  rw [State.subOfReq, State.physical, h]
  rfl

/-- A write on a rank that is not lost enters its channel as one. -/
theorem State.enterChannel_write {s : State} {q : Req} (hl : s.isLost (s.place q.dpa).rank = false)
    (hop : q.op ≠ .read) : s.enterChannel q = s.enterWrite { q with enter := s.aon.now } := by
  simp only [State.enterChannel, hl, Bool.false_eq_true, if_false]

/-- An answered write over an open way to a flake that is snow joins the write queue of its line's subchannel: of the
rest only shadowing changes, and there not the firn map. -/
theorem State.forward_answered {s : State} {q : Req} {sc : Nat} (hway : WayOpen s q.port q.dpa)
    (hsc : subOfLine s q.dpa = sc) (hsnow : isSnow (s.firn (flakeOf q.dpa)) = true) (hsrc : q.src = .host)
    (hop : q.op ≠ .read) (hcls : q.cls ≠ 0) (ha : q.answered = true) (hheld : s.withheld q = false)
    (hline : ∀ e ∈ (s.chan sc).writes, e.dpa ≠ q.dpa) (hans : ∀ e ∈ (s.chan sc).writes.take 64, e.answered = true) :
    ∃ chans shadow, s.forward q = s.setQueues chans shadow ∧
      shadow.firn = s.shadow.firn ∧
      look noChan chans sc = { s.chan sc with
        writes := (s.chan sc).writes ++ [{ q with enter := s.aon.now, arr := (s.chan sc).arrivals }]
        arrivals := (s.chan sc).arrivals + 1 } ∧
      ∀ k, k ≠ sc → look noChan chans k = s.chan k := by
  rw [State.forward_open hway]
  obtain ⟨heat, sub, dies, heq⟩ := s.heatAccess_eq (flakeOf q.dpa)
  obtain ⟨-, -, -, -, -, hlost, -, -⟩ := hway
  rw [heq]
  generalize hx : { s.shadow with heat := heat, heatSub := sub, dies := dies } = x
  have firn : x.firn = s.shadow.firn := by rw [← hx]
  have home : (s.setShadow x).subOfReq { q with enter := s.aon.now } = sc :=
    (State.subOfReq_host hsrc).trans ((subOfLine_setShadow ..).trans hsc)
  have unheld : (s.setShadow x).withheld { q with enter := s.aon.now } = false := by rw [← hx]; exact hheld
  obtain ⟨chans, notices, entered, here, others⟩ := State.enterWrite_answered (s := s.setShadow x)
    (q := { q with enter := s.aon.now }) hcls ha unheld (by rw [home]; exact hline) (by rw [home]; exact hans)
  rw [home] at here others
  have snow : isSnow ((s.setShadow x).firn (flakeOf q.dpa)) = true := by
    rw [State.firn, show (s.setShadow x).shadow.firn = s.shadow.firn from firn]; exact hsnow
  have notLost : (s.setShadow x).isLost ((s.setShadow x).place q.dpa).rank = false := by
    rw [State.place_setShadow, State.isLost_setShadow, hlost]
  have arrived : (s.setShadow x).admitOrHold q = (s.setShadow x).enterWrite { q with enter := s.aon.now } :=
    (State.admitOrHold_snow snow).trans (State.enterChannel_write notLost hop)
  exact ⟨chans, _, arrived.trans entered, firn, here, others⟩

theorem keeps_setQueues {s t : State} {l : List Part} (h : Keeps s t l) (hd : Part.dram ∈ l) (hs : Part.shadow ∈ l)
    (chans : Sparse Chan) (x : Shadow) : Keeps s (t.setQueues chans x) l := by
  intro p hp
  have hk := h p hp
  cases p with
  | dram => exact absurd hd hp
  | shadow => exact absurd hs hp
  | _ => exact hk

theorem keeps_setNextReq {s t : State} {l : List Part} (h : Keeps s t l) (hl : Part.hosts ∈ l) (k : Nat) :
    Keeps s (t.setNextReq k) l := keeps_setHosts h hl _

/-- A channel's queues after a command are those that its effect left. -/
theorem chan_settle_setQueues (s : State) (chans : Sparse Chan) (x : Shadow) (port link rc : Nat) (fields : List Nat)
    (sc : Nat) : (settle ((s.setQueues chans x).complete port link rc fields)).chan sc = look noChan chans sc := by
  rw [State.chan, settle_dram]; rfl

section
variable {s : State} {port link dpa : Nat}

/-- The request that Inject and Clear Poison make of a line. -/
def State.poisonReq (s : State) (port link dpa : Nat) (op : ReqOp) (data : Line) : Req :=
  { s.makeReq port link 0 dpa op data fullBe with cls := 3, answered := true }

theorem State.poisonWrite_refused (h : s.mayPoison port dpa = false) (op : ReqOp) (data : Line) :
    s.poisonWrite port link dpa op data = s.complete port link rcInvalidInput [] := by
  simp [State.poisonWrite, h]

theorem State.poisonWrite_taken (h : s.mayPoison port dpa = true) (hm : s.mediaReady = true) (op : ReqOp)
    (data : Line) :
    s.poisonWrite port link dpa op data =
      ((s.setNextReq (s.hosts.nextReq + 1)).forward
        (s.poisonReq port link dpa op data)).complete port link rcSuccess [] := by
  simp only [State.poisonWrite, h, hm, Bool.not_true, Bool.false_eq_true, if_false]
  rfl

/-- A poison write that is taken joins the write queue, answered. -/
theorem does_poisonWrite {c : Instr} {op : ReqOp} {data : Line} (ho : MailboxOpen s port link)
    (hr : s.realm (.mailbox port link) = .hostOwner)
    (hc : exec c s = act (fun s => s.mailbox port link true fun s => s.poisonWrite port link dpa op data) s)
    (hop : op = .injectPoison ∨ op = .clearPoison)
    (hp : s.mayPoison port dpa = true) (hm : s.mediaReady = true) (hway : WayOpen s port dpa)
    (hset : WritesSettled s dpa) (hsnow : isSnow (s.firn (flakeOf dpa)) = true)
    (hline : ∀ e ∈ (s.chan (subOfLine s dpa)).writes, e.dpa ≠ dpa) :
    Does c s fun t =>
      (∃ q ∈ (t.chan (subOfLine s dpa)).writes, q.id = s.hosts.nextReq ∧ q.op = op ∧ q.dpa = dpa ∧ q.data = data ∧
        q.answered = true) ∧
      (t.chan (subOfLine s dpa)).reads = (s.chan (subOfLine s dpa)).reads ∧
      Output.mbox port link rcSuccess [] ∈ t.out ∧ OnlyQueue s t (subOfLine s dpa) ∧
      t.shadow.firn = s.shadow.firn ∧ Keeps s t [.hosts, .dram, .shadow, .out] := by
  set u : State := s.fresh.setNextReq (s.hosts.nextReq + 1) with hu
  have sub : subOfLine u dpa = subOfLine s dpa := subOfLine_setNextReq ..
  have unheld : u.withheld (s.poisonReq port link dpa op data) = false := by
    rcases hop with rfl | rfl <;> exact Bool.and_false _
  obtain ⟨chans, shadow, joined, hfirn, here, others⟩ := State.forward_answered (s := u)
    (q := s.poisonReq port link dpa op data) (wayOpen_setNextReq hway _) sub hsnow rfl
    (by rcases hop with rfl | rfl <;> nofun) (Nat.succ_ne_zero 2) rfl unheld hline hset.1
  have home : u.chan (subOfLine s dpa) = s.chan (subOfLine s dpa) := rfl
  rw [home] at here
  have effect : s.fresh.poisonWrite port link dpa op data =
      (u.setQueues chans shadow).complete port link rcSuccess [] := by
    rw [← joined]; exact State.poisonWrite_taken (s := s.fresh) hp hm op data
  have keeps : Keeps s (u.setQueues chans shadow) [.hosts, .dram, .shadow, .out] :=
    keeps_setQueues (keeps_setNextReq (Keeps.fresh s _) (by decide) _) (by decide) (by decide) _ _
  refine does_mailbox ho hc (fun _ => hr) effect ⟨?_, ?_, ?_, ⟨?_, fun k hk => ?_⟩, ?_, ?_⟩
  · rw [chan_settle_setQueues, here]
    exact ⟨_, List.mem_append_right _ List.mem_cons_self, rfl, rfl, rfl, rfl, rfl⟩
  · rw [chan_settle_setQueues, here]
  · rw [settle_out]
    exact List.mem_cons_self
  · rw [settle_dram]; rfl
  · rw [chan_settle_setQueues]
    exact others k hk
  · rw [settle_shadow]
    exact hfirn
  · exact Keeps.settle (keeps_complete keeps (by decide) _ _ _ _)

end

/-- Settles O22: a line that the port may not poison is refused, and any other's write joins the queue. -/
theorem poisonWritesJoinTheWriteQueue : Obligations.PoisonWritesJoinTheWriteQueue := by
  intro s port link dpa data ho _ hr
  refine ⟨fun hp => ⟨?_, ?_⟩, fun hp hm hway hset hsnow hline => ⟨?_, ?_⟩⟩
  · exact completes_mailbox ho (exec_injectPoison ..) (fun _ => hr) (State.poisonWrite_refused (s := s.fresh) hp _ _)
  · exact completes_mailbox ho (exec_clearPoison ..) (fun _ => hr) (State.poisonWrite_refused (s := s.fresh) hp _ _)
  · exact does_poisonWrite ho hr (exec_injectPoison ..) (.inl rfl) hp hm hway hset hsnow hline
  · exact does_poisonWrite ho hr (exec_clearPoison ..) (.inr rfl) hp hm hway hset hsnow hline

end Sys2Proof.Machine
end

section
/-! PROOFS. A fundamental reset ends no flush of a link that was down before it (O15). PERST_N_FALL drops the flushes of a
link with the link (`State.dropLink`), and drops only links that are not down. GLOBAL_PERSISTENT_FLUSH starts none on a link
that is down, but O15 speaks of every state, and of one that holds such a flush it fails. -/
namespace Sys2Proof.Machine

open Sys2Proof.Safety

theorem exec_perstNFall (port : Nat) (s : State) : exec (.perstNFall port) s = execPerstNFall port s := rfl

/-- A port whose links are down has none to drop. -/
theorem State.dropPort_eq_self {s : State} {g : Nat} (h : ∀ l < 4, (s.hlink g l).st = 0) : s.dropPort g = s := by
  have fixed : ∀ ls : List Nat, (∀ l ∈ ls, l < 4) →
      ls.foldl (fun t l => if (t.hlink g l).st = 0 then t else t.dropLink g l 0) s = s := by
    intro ls hls
    induction ls with
    | nil => rfl
    | cons l ls ih =>
      rw [List.forall_mem_cons] at hls
      rw [List.foldl_cons, if_pos (h l hls.1), ih hls.2]
  exact fixed _ fun l hl => List.mem_range.1 hl

/-- The links of a port come out of reset one after the other, and no flush ends with that. -/
theorem State.gpf_clearPort (s : State) (g : Nat) : (s.clearPort g).hosts.gpf = s.hosts.gpf := by
  have kept : ∀ (ls : List Nat) (t : State),
      (ls.foldl (fun t l => t.setLink g l { noLink with rekeyDue := (t.hlink g l).rekeyDue }) t).hosts.gpf =
        t.hosts.gpf := by
    intro ls t
    induction ls generalizing t with
    | nil => rfl
    | cons l ls ih => exact ih _
  exact kept _ _

theorem State.gpf_resolve (s : State) (p : Req → Bool) : (s.resolve p).hosts.gpf = s.hosts.gpf := rfl

/-- A fundamental reset of a port whose links are down leaves every flush in progress. -/
theorem State.gpf_resetPort {s : State} {g : Nat} (h : ∀ l < 4, (s.hlink g l).st = 0) :
    (s.resetPort g).hosts.gpf = s.hosts.gpf := by
  have unpowered : (s.unpowerPort g).hosts.gpf = s.hosts.gpf := by
    rw [State.unpowerPort, State.gpf_clearPort, State.gpf_resolve, State.dropPort_eq_self h]
  simpa only [State.resetPort] using unpowered

/-- The state after reset, with a flush in progress on link 0 of port 0, which is down. -/
def flushOnDownLink : State :=
  { State.reset with hosts := { State.reset.hosts with gpf := [{ port := 0, link := 0, upTo := 0 }] } }

/-- PERST_N_FALL on port 0 leaves the flush in progress. -/
theorem gpf_perstNFall_flushOnDownLink {t : State} (h : exec (.perstNFall 0) flushOnDownLink = .next t) :
    t.hosts.gpf = [{ port := 0, link := 0, upTo := 0 }] := by
  rw [exec_perstNFall, execPerstNFall, act_on _ rfl, Host.Outcome.next.injEq,
    if_neg (show ¬ (flushOnDownLink.fresh.perst 0 ∨ 2 * flushOnDownLink.fresh.n ≤ 0) by decide)] at h
  rw [← h, settle_hosts]
  exact State.gpf_resetPort (s := flushOnDownLink.fresh) (g := 0) fun _ _ => rfl

/-- Refutes O15: PERST_N falls on a port with a flush in progress on a link that is down, and the flush stays in
progress. -/
theorem not_resetsClearLinksAndTheirReads : ¬ Obligations.ResetsClearLinksAndTheirReads := by
  intro h
  obtain ⟨t, ht, -, -, -, -, -, hgpf, -⟩ := (h flushOnDownLink 0 0 rfl (by decide)).1 (by decide)
  have stays := gpf_perstNFall_flushOnDownLink ht
  exact hgpf _ (stays ▸ List.mem_cons_self) rfl

end Sys2Proof.Machine
end

section
/-! PROOFS. A CXL.mem request at its ingress die (03 R73, 02 R54): what becomes of one that comes before the media are
ready, of one that the access checks refuse, and of one that they admit. -/
namespace Sys2Proof.Machine

open Sys2Proof.Safety

theorem exec_cxlMemRead (port link tag hpa : Nat) (s : State) :
    exec (.cxlMemRead port link tag hpa) s = act (fun s => s.hostRequest port link tag hpa .read 0 fullBe) s := rfl
theorem exec_cxlMemWrite (port link tag hpa : Nat) (data : Line) (s : State) :
    exec (.cxlMemWrite port link tag hpa data) s =
      act (fun s => s.hostRequest port link tag hpa .write data fullBe) s := rfl

/-- A partial write is a full write or a partial one, as its byte enables say (04 R104). -/
theorem exec_cxlMemPartialWrite_op (port link tag hpa : Nat) (data : Line) (be : BitVec 64) :
    ∃ op, op = (if be = fullBe then ReqOp.write else .partialWrite) ∧ (op = .write ∨ op = .partialWrite) ∧
      ∀ s, exec (.cxlMemPartialWrite port link tag hpa data be) s =
        act (fun s => s.hostRequest port link tag hpa op data be) s :=
  ⟨_, rfl, by split <;> simp, fun _ => rfl⟩

/-- A read needs no credit. -/
theorem State.hasCredit_read (s : State) (port : Nat) : s.hasCredit port .read = true := rfl

section
variable {s : State} {port link tag hpa dpa n : Nat} {op : ReqOp} {data : Line} {be : BitVec 64}
  (ht : TakesRequests s port link) (hc : s.hasCredit port op = true)
include ht hc

theorem requestTaken : ¬ (s.hosts.stopped ∨ (s.hlink port link).st ≠ 2 ∨ s.portDraining port = true ∨
    s.portStopped port = true ∨ s.hasCredit port op = false) := by
  obtain ⟨-, -, hst, hrun, hdrain, hclk⟩ := ht
  simp [hst, hrun, hdrain, hclk, hc]

theorem State.hostRequest_notReady (hm : s.mediaReady = false) :
    ∃ dpa, s.hostRequest port link tag hpa op data be =
      (s.report (dieOfPort port) cMediaNotReady 1 0 [dpa, port, link]).respRefuse
        (s.makeReq port link tag dpa op data be) :=
  ⟨_, by rw [State.hostRequest, if_neg (requestTaken ht hc), hm]; rfl⟩

theorem State.hostRequest_refused (hm : s.mediaReady = true) (hr : Safety.Refused s port link hpa dpa n op.writes) :
    s.hostRequest port link tag hpa op data be = s.violate (s.makeReq port link tag dpa op data be) n := by
  rw [State.hostRequest, if_neg (requestTaken ht hc), hm]
  rcases hr with ⟨hdpa, hchk⟩ | ⟨hdpa, rfl, rfl⟩
  · simp [hdpa, hchk]
  · simp [hdpa]

theorem State.hostRequest_admitted (hm : s.mediaReady = true) (ha : Admitted s port link hpa dpa op.writes) :
    s.hostRequest port link tag hpa op data be =
      ((s.setNextReq (s.hosts.nextReq + 1)).meter (s.makeReq port link tag dpa op data be)).2.forward
        ((s.setNextReq (s.hosts.nextReq + 1)).meter (s.makeReq port link tag dpa op data be)).1 := by
  obtain ⟨hdpa, hchk⟩ := ha
  rw [State.hostRequest, if_neg (requestTaken ht hc), hm]
  simp only [hdpa, Option.getD_some, Option.isSome_some, if_true, hchk]
  rfl

end

end Sys2Proof.Machine
end

section
/-! PROOFS. Refused CXL.mem requests are answered (O13): the response leaves at once, after a count where the access
checks refuse, and nothing else changes. -/
namespace Sys2Proof.Machine

open Sys2Proof.Safety

/-- Writing an object its own value leaves every object. -/
theorem State.reg_setReg_self (s : State) (i k j l : Nat) : (s.setReg i k (s.reg i k)).reg j l = s.reg j l := by
  by_cases h : okey j l = okey i k
  · have same (t : State) : t.reg j l = t.reg i k := by rw [State.reg, State.reg, h]
    rw [same, same, State.reg_setReg_same]
  · exact State.reg_setReg_ne _ _ h

/-- A part but the register file survives a write to an object; the file survives where its objects read alike. -/
theorem keeps_of_same_regs {s t : State} {l : List Part} (h : Keeps s t l) {regs : Sparse Nat}
    (hr : ∀ i k, ({ t with regs := regs } : State).reg i k = t.reg i k) : Keeps s { t with regs := regs } l := by
  intro p hp
  have hk := h p hp
  cases p with
  | regs => exact fun i k hk' hn => (hr i k).trans (hk i k hk' hn)
  | _ => exact hk

/-- A request answered at the moment of its decode raises no latency mark (06 P.06). -/
theorem State.noteLatency_newborn {t : State} {q : Req} (h : q.born = t.aon.now) :
    ∃ regs, t.noteLatency q = { t with regs := regs } ∧
      ∀ i k, ({ t with regs := regs } : State).reg i k = t.reg i k := by
  unfold State.noteLatency
  split
  · have mark : max (t.reg (0x5010 + q.port) 6) (min u32max (t.aon.now - q.born)) = t.reg (0x5010 + q.port) 6 := by
      simp [h]
    rw [mark]
    exact ⟨_, rfl, State.reg_setReg_self t _ _⟩
  · exact ⟨t.regs, rfl, fun _ _ => rfl⟩

/-- The response to a refused request: poison and zero data for a read, a Cmp for a write (02 R54). -/
def refusalOf (port link tag : Nat) : ReqOp → Output
  | .read => .memData port link tag 0 true
  | _ => .cmp port link tag

/-- The operations of CXL.mem requests. -/
def ReqOp.isMem (op : ReqOp) : Prop := op = .read ∨ op = .write ∨ op = .partialWrite

theorem State.respRefuse_mem {t : State} {q : Req} (hop : q.op.isMem) (hm : t.mute q = false)
    (ha : q.answered = false) : t.respRefuse q = (t.noteLatency q).emit (refusalOf q.port q.link q.tag q.op) := by
  rcases hop with h | h | h <;> simp [State.respRefuse, State.sendData, State.sendCmp, refusalOf, h, hm, ha]

/-- A refused request that has just been decoded is answered, and nothing but the output follows. -/
theorem respRefuse_newborn {s t : State} {l : List Part} {q : Req} (hk : Keeps s t l) (hl : Part.out ∈ l)
    (hop : q.op.isMem) (hm : t.mute q = false) (ha : q.answered = false) (hb : q.born = t.aon.now)
    (hout : t.out = []) :
    (t.respRefuse q).out = [refusalOf q.port q.link q.tag q.op] ∧ Keeps s (t.respRefuse q) l ∧
      ∀ i k, (t.respRefuse q).reg i k = t.reg i k := by
  obtain ⟨regs, hlat, hregs⟩ := State.noteLatency_newborn hb
  rw [State.respRefuse_mem hop hm ha, hlat]
  refine ⟨?_, keeps_emit (keeps_of_same_regs hk hregs) hl _, fun i k => hregs i k⟩
  rw [State.emit_out, hout]; rfl

/-- The port's violation objects take a refused request: the count, the DPA, the tenancy and the link
(02 Table 02.9). -/
def Violated (s t : State) (port link dpa n : Nat) : Prop :=
  t.reg (ixPort port + 2) 1 = min 0xFFFFFFFF (s.reg (ixPort port + 2) 1 + 1) ∧
    t.reg (ixPort port + 2) 2 = dpa ∧ t.reg (ixPort port + 2) 3 = n ∧ t.reg (ixPort port + 2) 4 = link ∧
    RegsBut s t [(ixPort port + 2, 1), (ixPort port + 2, 2), (ixPort port + 2, 3), (ixPort port + 2, 4)] ∧
    Keeps s t [.regs, .out]

/-- No port's violation objects are counters of a recorder. -/
theorem not_stagingCount_ixPort (port i k : Nat) : ¬ stagingCount (ixPort port + i) k := by
  unfold stagingCount ixPort; omega

theorem violated_countViolation {s : State} {q : Req} (n : Nat) (hp : dieOfPort q.port < 8) :
    Violated s (s.countViolation q n) q.port q.link q.dpa n := by
  have reported (t : State) (a : List Nat) (k : Nat) (hk : k < 256) :
      (t.report (dieOfPort q.port) cViolation 1 0 a).reg (ixPort q.port + 2) k = t.reg (ixPort q.port + 2) k :=
    State.reg_report _ _ _ _ _ _ (stagingCount_ne hk (not_stagingCount_ixPort _ _ _) hp (.inl rfl))
      (stagingCount_ne hk (not_stagingCount_ixPort _ _ _) hp (.inr rfl))
  have other (t : State) (j k v : Nat) (hj : j < 256) (hk : k < 256) (h : j ≠ k) :
      (t.setReg (ixPort q.port + 2) k v).reg (ixPort q.port + 2) j = t.reg (ixPort q.port + 2) j :=
    State.reg_setReg_ne _ _ (okey_ne hj hk (.inr h))
  have own : Keeps s s [.regs, .out] := Keeps.mono (Keeps.refl s) (by simp)
  refine ⟨?_, ?_, ?_, ?_, ?_, ?_⟩
  · rw [State.countViolation, reported _ _ 1 (by decide), other _ 1 4 _ (by decide) (by decide) (by decide),
      other _ 1 3 _ (by decide) (by decide) (by decide), other _ 1 2 _ (by decide) (by decide) (by decide),
      State.reg_inc_same]
    rfl
  · rw [State.countViolation, reported _ _ 2 (by decide), other _ 2 4 _ (by decide) (by decide) (by decide),
      other _ 2 3 _ (by decide) (by decide) (by decide), State.reg_setReg_same]
  · rw [State.countViolation, reported _ _ 3 (by decide), other _ 3 4 _ (by decide) (by decide) (by decide),
      State.reg_setReg_same]
  · rw [State.countViolation, reported _ _ 4 (by decide), State.reg_setReg_same]
  · intro i k hk hn hnot
    rw [State.countViolation, State.reg_report _ _ _ _ _ _ (stagingCount_ne hk hn hp (.inl rfl))
      (stagingCount_ne hk hn hp (.inr rfl))]
    exact regsBut_setReg (regsBut_setReg (regsBut_setReg (regsBut_inc (fun _ _ _ _ _ => rfl) (by simp) (by decide))
      (by simp) (by decide) _) (by simp) (by decide) _) (by simp) (by decide) _ i k hk hn hnot
  · exact keeps_report (keeps_setReg (keeps_setReg (keeps_setReg (keeps_inc own (by simp) _ _) (by simp) _ _ _)
      (by simp) _ _ _) (by simp) _ _ _) hp _ _ _ _

/-- Objects that read alike count alike; settling moves none of them. -/
theorem Violated.settle {s t u : State} {port link dpa n : Nat} (h : Violated s t port link dpa n)
    (hr : ∀ i k, u.reg i k = t.reg i k) (hku : Keeps s u [.regs, .out]) :
    Violated s (settle u) port link dpa n := by
  have same (k : Nat) (hk : k < 256) : (Machine.settle u).reg (ixPort port + 2) k = t.reg (ixPort port + 2) k := by
    rw [reg_settle_of_not_stagingCount _ hk (not_stagingCount_ixPort _ _ _), hr]
  obtain ⟨h1, h2, h3, h4, hbut, -⟩ := h
  refine ⟨?_, ?_, ?_, ?_, regsBut_settle fun i k hk hn hnot => (hr i k).trans (hbut i k hk hn hnot), Keeps.settle hku⟩
  · rw [same 1 (by decide), h1]
  · rw [same 2 (by decide), h2]
  · rw [same 3 (by decide), h3]
  · rw [same 4 (by decide), h4]

section
variable {c : Instr} {s : State} {port link tag hpa dpa n : Nat} {op : ReqOp} {data : Line} {be : BitVec 64}
  (ht : TakesRequests s port link) (hc : s.hasCredit port op = true) (hop : op.isMem)
  (hx : exec c s = act (fun s => s.hostRequest port link tag hpa op data be) s)
include ht hc hop hx

theorem does_refused (hm : s.mediaReady = true) (hr : Safety.Refused s port link hpa dpa n op.writes) :
    Does c s fun t => t.out = [refusalOf port link tag op] ∧ Violated s t port link dpa n := by
  have violated := violated_countViolation (s := s.fresh) (q := s.makeReq port link tag dpa op data be) n
    (State.dieOfPort_lt ht.2.1)
  set q := s.makeReq port link tag dpa op data be with hq
  have quiet : (s.fresh.countViolation q n).mute q = false := by
    simp [State.mute, State.countViolation, hq, State.makeReq, ht.2.2.2.1]
  obtain ⟨hout, hkeeps, hregs⟩ := respRefuse_newborn (q := q) violated.2.2.2.2.2 (by simp) hop quiet rfl
    (by simp [State.countViolation, hq, State.makeReq]) (by simp [State.countViolation])
  have effect : s.fresh.hostRequest port link tag hpa op data be = (s.fresh.countViolation q n).respRefuse q :=
    State.hostRequest_refused (s := s.fresh) ht hc hm hr
  refine does_of_effect ht.1 hx effect ⟨(settle_out _).trans hout, ?_⟩
  exact Violated.settle (s := s) (t := s.fresh.countViolation q n) violated hregs hkeeps

theorem does_notReady (hm : s.mediaReady = false) :
    Does c s fun t => t.out = [refusalOf port link tag op] ∧ Keeps s t [.out] := by
  obtain ⟨dpa, effect⟩ := State.hostRequest_notReady (s := s.fresh) (tag := tag) (hpa := hpa) (data := data)
    (be := be) ht hc hm
  obtain ⟨hout, hkeeps, -⟩ := respRefuse_newborn (q := s.fresh.makeReq port link tag dpa op data be)
    (keeps_report (Keeps.fresh s [.out]) (State.dieOfPort_lt ht.2.1) cMediaNotReady 1 0 [dpa, port, link]) (by simp)
    hop (by simp [State.mute, State.makeReq, ht.2.2.2.1]) rfl (by simp [State.makeReq]) (by simp)
  exact does_of_effect ht.1 hx effect ⟨(settle_out _).trans hout, Keeps.settle hkeeps⟩

end

/-- Settles O13: a refused request is counted and answered, an early one is answered alone. -/
theorem refusedRequestsAreAnswered : Obligations.RefusedRequestsAreAnswered := by
  refine ⟨fun s port link tag hpa dpa n data be ht hm => ⟨fun hr => ?_, fun hr hc => ⟨?_, ?_⟩⟩,
    fun s port link tag hpa data be ht hm => ⟨?_, fun hc => ⟨?_, ?_⟩⟩⟩
  · exact does_refused (op := .read) ht (s.hasCredit_read port) (.inl rfl) (exec_cxlMemRead port link tag hpa s) hm hr
  · exact does_refused (op := .write) ht hc (.inr (.inl rfl)) (exec_cxlMemWrite port link tag hpa data s) hm hr
  · obtain ⟨op, -, rfl | rfl, hx⟩ := exec_cxlMemPartialWrite_op port link tag hpa data be
    · exact does_refused (op := .write) ht hc (.inr (.inl rfl)) (hx s) hm hr
    · exact does_refused (op := .partialWrite) ht hc (.inr (.inr rfl)) (hx s) hm hr
  · exact does_notReady (op := .read) ht (s.hasCredit_read port) (.inl rfl) (exec_cxlMemRead port link tag hpa s) hm
  · exact does_notReady (op := .write) ht hc (.inr (.inl rfl)) (exec_cxlMemWrite port link tag hpa data s) hm
  · obtain ⟨op, -, rfl | rfl, hx⟩ := exec_cxlMemPartialWrite_op port link tag hpa data be
    · exact does_notReady (op := .write) ht hc (.inr (.inl rfl)) (hx s) hm
    · exact does_notReady (op := .partialWrite) ht hc (.inr (.inr rfl)) (hx s) hm

end Sys2Proof.Machine
end

section
/-! PROOFS. What an admitted request's way to its channel does not depend on: the address map, the routes and the write
admission are the same in the state in which it enters its channel (01 R18, 03 R61, 07 R171, R173). -/
namespace Sys2Proof.Machine

open Sys2Proof.Safety

/-- Two states agree on where lines lie and how requests get there: they may differ in queues, links, shadowing, the
clock, and every object but the dies' service state. -/
structure SameWay (s t : State) : Prop where
  build : t.build = s.build
  seq : t.seq = s.seq
  freeze : t.freeze = s.freeze
  sparing : t.sparing = s.sparing
  clocks : t.clocks = s.clocks
  dram : { t.dram with chans := s.dram.chans } = s.dram
  dieLinks : t.hosts.dieLinks = s.hosts.dieLinks
  routeHolds : t.hosts.routeHolds = s.hosts.routeHolds
  reg : t.reg 0x7100 3 = s.reg 0x7100 3

section
variable {s t : State} (h : SameWay s t)
include h

theorem SameWay.eq_update : t = { t with
    build := s.build, seq := s.seq, freeze := s.freeze, sparing := s.sparing, clocks := s.clocks
    dram := { s.dram with chans := t.dram.chans }
    hosts := { t.hosts with dieLinks := s.hosts.dieLinks, routeHolds := s.hosts.routeHolds } } := by
  rw [← h.build, ← h.seq, ← h.freeze, ← h.sparing, ← h.clocks, ← h.dieLinks, ← h.routeHolds, ← h.dram]

theorem SameWay.place (o : Nat) : t.place o = s.place o := by
  have die : t.dieAny o = s.dieAny o := by rw [h.eq_update]; rfl
  have rank (d a : Nat) : t.rankOf d a = s.rankOf d a := by rw [h.eq_update]; rfl
  simp only [State.place, die, rank]

theorem SameWay.readRank (r a : Nat) : t.readRank r a = s.readRank r a := by rw [h.eq_update]; rfl

theorem SameWay.physOf (o : Nat) : t.physOf o = s.physOf o := by
  simp only [State.physOf, h.place, h.readRank]

theorem SameWay.subOfLine (o : Nat) : subOfLine t o = Safety.subOfLine s o := by
  simp only [Safety.subOfLine, h.place, h.physOf]

theorem SameWay.isLost (r : Nat) : t.isLost r = s.isLost r := by rw [h.eq_update]; rfl

theorem SameWay.waitsAt (a b : Nat) : t.waitsAt a b = s.waitsAt a b := by rw [h.eq_update]; rfl

theorem SameWay.reachable (a b : Nat) : t.reachable a b = s.reachable a b := by
  have route : t.route a b = s.route a b := by rw [h.eq_update]; rfl
  rw [State.reachable, State.reachable, State.dieOut, State.dieOut, h.reg, h.seq, route]

/-- The way to a line is open in both states or in neither. -/
theorem SameWay.wayOpen {port dpa : Nat} (hw : WayOpen s port dpa) : WayOpen t port dpa := by
  have mark (m : Nat) : t.mark (t.driftOf m) = s.mark (s.driftOf m) := by rw [h.eq_update]; rfl
  have rebuild (r a : Nat) : t.needsRebuild r a = s.needsRebuild r a := by rw [h.eq_update]; rfl
  have quad (d q : Nat) : t.quad d q = s.quad d q := by rw [h.eq_update]; rfl
  simpa only [WayOpen, h.place, h.physOf, h.routeHolds, h.reachable, h.waitsAt, mark, h.isLost, rebuild, quad] using hw

end

/-- Two states agree on what decides about the admission of a write: they may differ in the heat counters, in a port's
traffic counters, and where shadowing plays no part. -/
structure SameSnow (s t : State) : Prop where
  build : t.build = s.build
  aon : t.aon = s.aon
  seq : t.seq = s.seq
  bat : t.bat = s.bat
  ten : t.ten = s.ten
  lead : t.shadow.lead = s.shadow.lead
  armed : t.shadow.armed = s.shadow.armed
  forceThrough : t.shadow.forceThrough = s.shadow.forceThrough
  held : t.shadow.held = s.shadow.held
  firn : t.shadow.firn = s.shadow.firn
  luns : ∀ d, (t.die d).luns = (s.die d).luns
  reg : ∀ i k, k < 256 → ¬ stagingCount i k → (i < 0x5010 ∨ 0x5020 ≤ i) → t.reg i k = s.reg i k

section
variable {s t : State} (h : SameSnow s t)
include h

theorem SameSnow.n : t.n = s.n := by rw [State.n, State.n, h.build]

theorem SameSnow.budget : t.budget = s.budget := by
  have dieOut (d : Nat) : t.dieOut d = s.dieOut d := by
    rw [State.dieOut, State.dieOut, h.seq, h.reg _ _ (by decide) (by simp [stagingCount]) (by decide)]
  have flash (d f : Nat) : t.flashState d f = s.flashState d f :=
    h.reg _ _ (by decide) (by simp [stagingCount]) (by unfold ixFlash ixGlacier; omega)
  have nand (d f : Nat) : t.nandOf d f = s.nandOf d f := by rw [State.nandOf, State.nandOf, h.build]
  have lun (d l : Nat) : t.lunOf d l = s.lunOf d l := by rw [State.lunOf, State.lunOf, h.luns]
  have active (d f : Nat) : t.activeLuns d f = s.activeLuns d f := by
    simp only [State.activeLuns, nand, dieOut, flash, lun]
  have rate (d : Nat) : t.rd12 d = s.rd12 d := by simp only [State.rd12, State.ld, active]
  have energy : t.energyLimit = s.energyLimit := by
    rw [State.energyLimit, State.energyLimit, h.bat, h.aon, h.reg _ _ (by decide) (by simp [stagingCount]) (by decide)]
  have cap (k : Nat) (hk : k < 256) : t.reg 0x5800 k = s.reg 0x5800 k :=
    h.reg _ _ hk (by simp [stagingCount]) (by decide)
  simp only [State.budget, State.budgetWith, State.freezeCeiling, State.hardwareCap, State.rate12, State.dieList, h.n,
    energy, funext rate, cap 2 (by decide), cap 4 (by decide)]

theorem SameSnow.divisible : t.divisible = s.divisible := by
  rw [State.divisible, State.divisible, State.margin, State.margin, h.budget, h.n]

theorem SameSnow.tenancy (k : Nat) : t.tenancy k = s.tenancy k := by rw [State.tenancy, State.tenancy, h.ten]

theorem SameSnow.effShare (k : Nat) : t.effShare k = s.effShare k := by
  have sum : t.shareSum = s.shareSum := by rw [State.shareSum, State.shareSum, h.ten]
  unfold State.effShare
  rw [h.divisible, sum, h.tenancy]

theorem SameSnow.pool : t.pool = s.pool := by
  unfold State.pool
  rw [h.divisible, h.ten, funext h.effShare]

theorem SameSnow.writeThrough : t.writeThrough = s.writeThrough := by
  rw [State.writeThrough, State.writeThrough, h.armed, h.forceThrough,
    h.reg _ _ (by decide) (by simp [stagingCount]) (by decide)]

theorem SameSnow.tenSnow (k : Nat) : t.tenSnow k = s.tenSnow k := by rw [State.tenSnow, State.tenSnow, h.lead]

theorem SameSnow.tenHeld (k : Nat) : t.tenHeld k = s.tenHeld k := by
  have use : t.poolUse = s.poolUse := by rw [State.poolUse, State.poolUse, h.lead, funext h.effShare]
  rw [State.tenHeld, State.tenHeld, State.holdsOn, State.holdsOn, h.armed, h.writeThrough, h.tenancy, h.effShare,
    h.tenSnow, h.pool, use]

theorem SameSnow.waitsBehind (k : Nat) : t.waitsBehind k = s.waitsBehind k := by
  have within (j : Nat) : t.withinShare j = s.withinShare j := by
    rw [State.withinShare, State.withinShare, h.tenSnow, h.effShare]
  rw [State.waitsBehind, State.waitsBehind, h.tenancy, h.held, funext within]

end

end Sys2Proof.Machine
end

section
/-! PROOFS. An admitted CXL.mem request enters the queue of its line's subchannel (O10, O11). It passes the meter of its
link, crosses its open way, counts as an access to its drift, and joins the read or the write queue; a write's dirty
notice leaves, and so does its Cmp. -/
namespace Sys2Proof.Machine

open Sys2Proof.Safety

/-- A state with other links and another register file. -/
def State.setTraffic (s : State) (links : Sparse HLink) (regs : Sparse Nat) : State :=
  { s with hosts := { s.hosts with links := links }, regs := regs }

/-- A state with other channel queues, another shadowing state, register file and output. -/
def State.setPath (s : State) (chans : Sparse Chan) (x : Shadow) (regs : Sparse Nat) (out : List Output) : State :=
  { s with dram := { s.dram with chans := chans }, shadow := x, regs := regs, out := out }

theorem RegsBut.refl (s : State) (l : List (Nat × Nat)) : RegsBut s s l := fun _ _ _ _ _ => rfl

theorem RegsBut.trans {s t u : State} {l : List (Nat × Nat)} (h : RegsBut s t l) (h' : RegsBut t u l) :
    RegsBut s u l := fun i k hk hn hnot => (h' i k hk hn hnot).trans (h i k hk hn hnot)

theorem RegsBut.mono {s t : State} {l m : List (Nat × Nat)} (h : RegsBut s t l) (hl : l ⊆ m) : RegsBut s t m :=
  fun i k hk hn hnot => h i k hk hn fun hm => hnot (hl hm)

/-- The meter of a link takes a token of it for a class 0 request, or lowers the request to class 1 where there is none;
it moves the traffic counters .03 and .04 of the port alone (06 R137). -/
theorem State.meter_eq (s : State) (q : Req) : ∃ links regs,
    s.meter q = ({ q with cls := if q.cls = 0 ∧ (s.hlink q.port q.link).tokens = 0 then 1 else q.cls },
      s.setTraffic links regs) ∧
    (look noLink links (linkKey q.port q.link)).tokens =
      (if q.cls = 0 then (s.hlink q.port q.link).tokens - 1 else (s.hlink q.port q.link).tokens) ∧
    (∀ k, k ≠ linkKey q.port q.link → look noLink links k = look noLink s.hosts.links k) ∧
    RegsBut s (s.setTraffic links regs) [(0x5010 + q.port, 3), (0x5010 + q.port, 4)] := by
  unfold State.meter
  by_cases hcls : q.cls = 0
  · rw [if_neg (not_not.2 hcls)]
    by_cases htok : 0 < (s.hlink q.port q.link).tokens
    · dsimp only
      rw [if_pos htok]
      refine ⟨_, _, by rw [if_neg fun h => htok.ne' h.2]; rfl, ?_, fun k hk => look_put_ne _ _ _ hk, ?_⟩
      · rw [if_pos hcls, look_put_same]
      · exact regsBut_setReg (RegsBut.refl s _) (by simp) (by decide) _
    · have none_left : (s.hlink q.port q.link).tokens = 0 := by omega
      dsimp only
      rw [if_neg htok]
      refine ⟨s.hosts.links, _, by rw [if_pos ⟨hcls, none_left⟩]; rfl, ?_, fun _ _ => rfl, ?_⟩
      · rw [if_pos hcls, none_left]
        exact none_left
      · exact regsBut_inc (RegsBut.refl s _) (by simp) (by decide)
  · rw [if_pos hcls]
    refine ⟨s.hosts.links, s.regs, by rw [if_neg fun h => hcls h.1]; rfl, ?_, fun _ _ => rfl, RegsBut.refl s _⟩
    rw [if_neg hcls]; rfl

/-- The state in which an admitted request enters its channel. -/
def State.decoded (s : State) (links : Sparse HLink) (regs : Sparse Nat) (x : Shadow) : State :=
  ((s.fresh.setNextReq (s.hosts.nextReq + 1)).setTraffic links regs).setShadow x

/-- What the meter and the heat counters have done to a state in which a request enters its channel. -/
structure Decoded (s : State) (port link n : Nat) (links : Sparse HLink) (regs : Sparse Nat) (x : Shadow) : Prop where
  token : (look noLink links (linkKey port link)).tokens =
    (if (s.tenancy n).classOf port = 0 then (s.hlink port link).tokens - 1 else (s.hlink port link).tokens)
  others : ∀ k, k ≠ linkKey port link → look noLink links k = look noLink s.hosts.links k
  traffic : RegsBut s (s.decoded links regs x) [(0x5010 + port, 3), (0x5010 + port, 4)]
  heated : x = { s.shadow with heat := x.heat, heatSub := x.heatSub, dies := x.dies }
  luns : ∀ d, ((s.decoded links regs x).die d).luns = (s.die d).luns

section
variable {s : State} {port link n : Nat} {links : Sparse HLink} {regs : Sparse Nat} {x : Shadow}
  (h : Decoded s port link n links regs x)
include h

theorem Decoded.sameWay (hp : port < 2 * s.n) : SameWay s (s.decoded links regs x) := by
  have := s.n_le_eight
  exact ⟨rfl, rfl, rfl, rfl, rfl, rfl, rfl, rfl, h.traffic _ _ (by decide) (by simp [stagingCount]) (by simp; omega)⟩

theorem Decoded.sameSnow (hp : port < 2 * s.n) : SameSnow s (s.decoded links regs x) := by
  have := s.n_le_eight
  have elsewhere {i k : Nat} (hi : i < 0x5010 ∨ 0x5020 ≤ i) : (i, k) ∉ [(0x5010 + port, 3), (0x5010 + port, 4)] := by
    simp only [List.mem_cons, Prod.mk.injEq, List.not_mem_nil, or_false]; omega
  have field {α : Type} (f : Shadow → α)
      (hf : f { s.shadow with heat := x.heat, heatSub := x.heatSub, dies := x.dies } =
      f s.shadow) : f x = f s.shadow := (congrArg f h.heated).trans hf
  exact ⟨rfl, rfl, rfl, rfl, rfl, field (·.lead) rfl, field (·.armed) rfl, field (·.forceThrough) rfl,
    field (·.held) rfl, field (·.firn) rfl, h.luns, fun i k hk hn hi => h.traffic i k hk hn (elsewhere hi)⟩

end

/-- A die's shadowing state after a write of one. -/
theorem State.die_setDie (s : State) (d e : Nat) (x : DieShadow) :
    (s.setDie d x).die e = if e = d then x else s.die e := by
  split
  · next h => subst h; exact look_put_same _ _ _ _
  · next h => exact look_put_ne _ _ _ h

/-- Counting an access leaves the LUNs of every die. -/
theorem State.heatAccess_luns (s : State) (m d : Nat) : ((s.heatAccess m).die d).luns = (s.die d).luns := by
  unfold State.heatAccess
  dsimp only
  split
  · rfl
  · show ((s.setDie (s.homeDie m) _).die d).luns = _
    rw [State.die_setDie]
    split
    · next h => rw [h]
    · rfl

/-- An admitted request over an open way reaches its flake with the class after the meter. -/
theorem State.hostRequest_decoded {s : State} {port link tag hpa dpa n : Nat} {op : ReqOp} {data : Line}
    {be : BitVec 64} (ht : TakesRequests s port link) (hc : s.hasCredit port op = true) (hm : s.mediaReady = true)
    (ha : Admitted s port link hpa dpa op.writes) (hn : s.coverOf (dpa / driftBytes) = some n)
    (hway : WayOpen s port dpa) : ∃ links regs x, Decoded s port link n links regs x ∧
      s.fresh.hostRequest port link tag hpa op data be = (s.decoded links regs x).admitOrHold
        { s.makeReq port link tag dpa op data be with cls := meteredClass s port link n } := by
  set q := s.makeReq port link tag dpa op data be with hq
  set u := s.fresh.setNextReq (s.hosts.nextReq + 1) with hu
  have cover : (s.coverOf (dpa / driftBytes)).getD 0xFFFF = n := by rw [hn]; rfl
  have cls : q.cls = (s.tenancy n).classOf port := by rw [hq, State.makeReq, cover]
  obtain ⟨links, regs, hmeter, htokens, hlinks, hregs⟩ := u.meter_eq q
  obtain ⟨heat, sub, dies, hheat⟩ := (u.setTraffic links regs).heatAccess_eq (flakeOf dpa)
  have decoded : Decoded s port link n links regs { s.shadow with heat := heat, heatSub := sub, dies := dies } := by
    refine ⟨?_, hlinks, hregs, rfl, fun d => ?_⟩
    · rw [← cls]; exact htokens
    · exact (congrArg (fun v : State => (v.die d).luns) hheat.symm).trans (State.heatAccess_luns ..)
  refine ⟨links, regs, _, decoded, ?_⟩
  have same : SameWay s (u.setTraffic links regs) :=
    ⟨rfl, rfl, rfl, rfl, rfl, rfl, rfl, rfl, (decoded.sameWay ht.2.1).reg⟩
  rw [State.hostRequest_admitted (s := s.fresh) ht hc hm ha]
  show State.forward (u.meter q).2 (u.meter q).1 = _
  rw [hmeter, State.forward_open (same.wayOpen hway)]
  show State.admitOrHold (State.heatAccess _ (flakeOf dpa)) _ = _
  rw [hheat, cls]
  rfl

/-! The request joins a queue. -/

/-- Of the channel queues, those of one subchannel alone change, and there the read and write queues are these. -/
def QueuesAre (s : State) (chans : Sparse Chan) (sc : Nat) (reads writes : List Req) : Prop :=
  (look noChan chans sc).reads = reads ∧ (look noChan chans sc).writes = writes ∧
    ∀ k, k ≠ sc → look noChan chans k = s.chan k

theorem queuesAre_setChan (s : State) (sc : Nat) (c : Chan) :
    QueuesAre s (s.setChan sc c).dram.chans sc c.reads c.writes := by
  refine ⟨?_, ?_, fun k hk => look_put_ne _ _ _ hk⟩
  · exact congrArg Chan.reads (look_put_same ..)
  · exact congrArg Chan.writes (look_put_same ..)

theorem QueuesAre.trans {s t : State} {chans : Sparse Chan} {sc : Nat} {r r' w w' : List Req}
    (h : QueuesAre s t.dram.chans sc r w) (h' : QueuesAre t chans sc r' w') : QueuesAre s chans sc r' w' :=
  ⟨h'.1, h'.2.1, fun k hk => (h'.2.2 k hk).trans (h.2.2 k hk)⟩

/-- A request that meets an earlier one at its bank moves the traffic counter .05 of its port alone (06 R139). -/
theorem State.noteContended_eq (s : State) (q : Req) : ∃ regs,
    s.noteContended q = s.setPath s.dram.chans s.shadow regs s.out ∧
    RegsBut s (s.setPath s.dram.chans s.shadow regs s.out) [(0x5010 + q.port, 5)] := by
  unfold State.noteContended State.countMet
  repeat' split
  · exact ⟨s.regs, rfl, RegsBut.refl s _⟩
  · exact ⟨_, rfl, regsBut_inc (RegsBut.refl s _) (by simp) (by decide)⟩
  · exact ⟨s.regs, rfl, RegsBut.refl s _⟩

/-- A request that joins a queue during a slice changes neither the reads nor the writes there (05 R126). -/
theorem State.noteSlice_eq (s : State) (sc : Nat) (q : Req) : ∃ chans,
    s.noteSlice sc q = s.setPath chans s.shadow s.regs s.out ∧
    QueuesAre s chans sc (s.chan sc).reads (s.chan sc).writes := by
  unfold State.noteSlice
  dsimp only
  split
  · exact ⟨_, rfl, queuesAre_setChan s sc _⟩
  · exact ⟨s.dram.chans, rfl, rfl, rfl, fun _ _ => rfl⟩

/-- A read of a line that no queued write holds joins the end of its read queue. -/
theorem State.enterRead_joins {s : State} {q : Req} (hline : ∀ e ∈ (s.chan (s.subOfReq q)).writes, e.dpa ≠ q.dpa) :
    ∃ chans regs, s.enterRead q = s.setPath chans s.shadow regs s.out ∧
      QueuesAre s chans (s.subOfReq q) ((s.chan (s.subOfReq q)).reads ++ [s.asArrived (s.subOfReq q) q])
        (s.chan (s.subOfReq q)).writes ∧
      RegsBut s (s.setPath chans s.shadow regs s.out) [(0x5010 + q.port, 5)] := by
  have none_holds : queuedLine q.dpa (s.chan (s.subOfReq q)).writes = none := by
    simpa [queuedLine] using hline
  obtain ⟨regs, hmet, hregs⟩ := s.noteContended_eq q
  set c : Chan := { s.chan (s.subOfReq q) with
    reads := (s.chan (s.subOfReq q)).reads ++ [s.asArrived (s.subOfReq q) q]
    arrivals := (s.chan (s.subOfReq q)).arrivals + 1 } with hc
  set u := (s.setPath s.dram.chans s.shadow regs s.out).setChan (s.subOfReq q) c with hu
  obtain ⟨chans, hslice, hqueues⟩ := u.noteSlice_eq (s.subOfReq q) (s.asArrived (s.subOfReq q) q)
  have chan : u.chan (s.subOfReq q) = c := look_put_same ..
  refine ⟨chans, regs, ?_, ?_, hregs⟩
  · simp only [State.enterRead, none_holds, State.queueRead, hmet]
    exact hslice
  · rw [chan] at hqueues
    exact QueuesAre.trans (t := u) (queuesAre_setChan ..) hqueues

/-- The Cmp of a write that stands in the 64 entries is sent where its route is open (04 R86, 06 R146). -/
theorem State.respCmp_open {s : State} {q : Req} (ha : q.answered = false) (hm : s.mute q = false)
    (hw : s.waitsAt (s.place q.dpa).die (dieOfPort q.port) = none) : ∃ regs,
    s.respCmp q = s.setPath s.dram.chans s.shadow regs (s.out ++ [.cmp q.port q.link q.tag]) ∧
    RegsBut s (s.setPath s.dram.chans s.shadow regs (s.out ++ [.cmp q.port q.link q.tag])) [(0x5010 + q.port, 6)] := by
  have sent : s.respCmp q = (s.noteLatency q).emit (.cmp q.port q.link q.tag) := by
    simp only [State.respCmp, ha, hm, hw, State.sendCmp, Bool.or_self, Bool.false_eq_true, if_false]
  rw [sent, State.noteLatency]
  split
  · exact ⟨_, rfl, regsBut_setReg (RegsBut.refl s _) (by simp) (by decide) _⟩
  · exact ⟨s.regs, rfl, RegsBut.refl s _⟩

/-- Behind writes that have been answered, a write that joins a queue of fewer than 64 alone is sent its Cmp. -/
theorem State.sendCmps_last {s : State} {sc : Nat} {l : List Req} {w : Req} (hw : (s.chan sc).writes = l ++ [w])
    (hl : ∀ e ∈ l.take 64, e.answered = true) (hlen : l.length < 64) (ha : w.answered = false) :
    s.sendCmps sc =
      (s.setChan sc { s.chan sc with writes := l ++ [{ w with answered := true }] }).respCmp w := by
  have few : l.take 64 = l := List.take_of_length_le (by omega)
  have all : (l ++ [w]).take 64 = l ++ [w] := List.take_of_length_le (by simp; omega)
  have rest : (l ++ [w]).drop 64 = [] := List.drop_eq_nil_of_le (by simp; omega)
  rw [few] at hl
  have ready : l.filter (fun q => !q.answered) = [] := List.filter_eq_nil_iff.2 fun e he => by simp [hl e he]
  have same : l.map (fun q : Req => if (!q.answered) = true then { q with answered := true } else q) = l :=
    (List.map_congr_left fun e he => if_neg (by simp [hl e he])).trans (List.map_id _)
  simp only [State.sendCmps, hw, all, rest, List.filter_append, List.map_append, ready, same]
  simp [ha]

/-- The withheld Cmp of a write waits among those that write-through withholds, or nothing changes (07 R180). -/
theorem State.holdThrough_eq (s : State) (q : Req) : ∃ through,
    s.holdThrough q = s.setPath s.dram.chans { s.shadow with through := through } s.regs s.out := by
  unfold State.holdThrough
  split
  · exact ⟨_, rfl⟩
  · exact ⟨s.shadow.through, rfl⟩

/-- Behind writes that have been answered from a queue's entries, the write that has joined it is sent its Cmp where it
stands in an entry and is not answered yet; nothing else is (04 R86, 06 R146). -/
theorem State.sendCmps_joined {s : State} {sc : Nat} {l : List Req} {w : Req} (hw : (s.chan sc).writes = l ++ [w])
    (hl : ∀ e ∈ l.take 64, e.answered = true) (hm : s.mute w = false)
    (hway : s.waitsAt (s.place w.dpa).die (dieOfPort w.port) = none) :
    ∃ chans regs out done, s.sendCmps sc = s.setPath chans s.shadow regs out ∧
      QueuesAre s chans sc (s.chan sc).reads (l ++ [{ w with answered := done }]) ∧
      RegsBut s (s.setPath chans s.shadow regs out) [(0x5010 + w.port, 6)] ∧
      (w.answered = false → l.length < 64 → Output.cmp w.port w.link w.tag ∈ out) := by
  by_cases h : l.length < 64 ∧ w.answered = false
  · obtain ⟨hlen, ha⟩ := h
    have queued := queuesAre_setChan s sc { s.chan sc with writes := l ++ [{ w with answered := true }] }
    set u := s.setChan sc { s.chan sc with writes := l ++ [{ w with answered := true }] } with hu
    have same : SameWay s u := ⟨rfl, rfl, rfl, rfl, rfl, rfl, rfl, rfl, rfl⟩
    have back : u.waitsAt (u.place w.dpa).die (dieOfPort w.port) = none := by rw [same.waitsAt, same.place]; exact hway
    obtain ⟨regs, hcmp, hregs⟩ := State.respCmp_open (s := u) ha hm back
    refine ⟨u.dram.chans, regs, u.out ++ [.cmp w.port w.link w.tag], true, ?_, queued, hregs, fun _ _ => by simp⟩
    rw [State.sendCmps_last hw hl hlen ha, ← hu, hcmp]
    rfl
  · have answered : ∀ e ∈ (s.chan sc).writes.take 64, e.answered = true := by
      rw [hw]
      intro e he
      by_cases hlen : l.length < 64
      · rcases mem_take_append_singleton he with he | rfl
        · exact hl e he
        · simpa using fun ha => h ⟨hlen, ha⟩
      · rw [List.take_append_of_le_length (by omega)] at he
        exact hl e he
    have queued := queuesAre_setChan s sc (s.chan sc)
    rw [hw] at queued
    exact ⟨(s.setChan sc (s.chan sc)).dram.chans, s.regs, s.out, w.answered, State.sendCmps_answered answered, queued,
      RegsBut.refl s _, fun ha hlen => absurd ⟨hlen, ha⟩ h⟩

/-- What the dirty notice of a write says when it leaves (07 R154). -/
def noticeOf (sc : Nat) (q : Req) : Notice :=
  { req := q.id, sc := sc, flake := flakeOf q.dpa, ten := q.ten, applied := false }

/-- A write to a line that no queued write holds joins the end of its write queue and its dirty notice leaves, before its
Cmp is looked at (04 R90, 07 R154, R180). -/
theorem State.enterWrite_eq_sendCmps {s : State} {q : Req} {sc : Nat} (hsc : s.subOfReq q = sc)
    (hline : ∀ e ∈ (s.chan sc).writes, e.dpa ≠ q.dpa) :
    ∃ chans through regs,
      s.enterWrite q = (s.setPath chans { s.shadow with
        notices := s.shadow.notices ++ [noticeOf sc q], through := through } regs s.out).sendCmps sc ∧
      QueuesAre s chans sc (s.chan sc).reads ((s.chan sc).writes ++ [s.asArrived sc (s.asQueued q)]) ∧
      RegsBut s (s.setPath chans s.shadow regs s.out) [(0x5010 + q.port, 5)] := by
  set w := s.asArrived sc (s.asQueued q) with hw
  have alone : mergeWrite w (s.chan sc).writes = none := mergeWrite_eq_none hline
  obtain ⟨regs, hmet, hregs⟩ := s.noteContended_eq q
  set c : Chan := { s.chan sc with
    writes := (s.chan sc).writes ++ [w], arrivals := (s.chan sc).arrivals + 1 } with hc
  set u := ((s.setPath s.dram.chans s.shadow regs s.out).setChan sc c).sendNotice sc q.id (flakeOf q.dpa) q.ten with hu
  obtain ⟨through, hthrough⟩ := u.holdThrough_eq q
  obtain ⟨chans, hslice, hqueues⟩ := (u.holdThrough q).noteSlice_eq sc q
  have chan : (u.holdThrough q).chan sc = c := by rw [hthrough]; exact look_put_same ..
  refine ⟨chans, through, regs, ?_, ?_, hregs⟩
  · have entered : s.enterWrite q = ((u.holdThrough q).noteSlice sc q).sendCmps sc := by
      simp only [State.enterWrite, hsc, ← hw, alone, hmet]
      rfl
    rw [entered, hslice, hthrough]
    rfl
  · rw [chan] at hqueues
    refine QueuesAre.trans (t := u.holdThrough q) (r := c.reads) (w := c.writes) ?_ hqueues
    rw [hthrough]
    exact queuesAre_setChan s sc c

/-- A write to a line that no queued write holds joins the end of its write queue, behind writes that have been answered
from its entries; its dirty notice leaves, and its Cmp where it stands in an entry and write-through does not withhold
it (04 R86, 06 R146, 07 R154, R180). -/
theorem State.enterWrite_joins {s : State} {q : Req} {sc : Nat} (hsc : s.subOfReq q = sc)
    (ha : q.answered = false) (hm : s.mute q = false)
    (hway : s.waitsAt (s.place q.dpa).die (dieOfPort q.port) = none) (hline : ∀ e ∈ (s.chan sc).writes, e.dpa ≠ q.dpa)
    (hans : ∀ e ∈ (s.chan sc).writes.take 64, e.answered = true) :
    ∃ chans through regs out arr met done,
      s.enterWrite q = s.setPath chans { s.shadow with
        notices := s.shadow.notices ++ [noticeOf sc q], through := through } regs out ∧
      QueuesAre s chans sc (s.chan sc).reads
        ((s.chan sc).writes ++ [{ q with arr := arr, met := met, answered := done }]) ∧
      RegsBut s (s.setPath chans s.shadow regs out) [(0x5010 + q.port, 5), (0x5010 + q.port, 6)] ∧
      (s.withheld q = false → (s.chan sc).writes.length < 64 → Output.cmp q.port q.link q.tag ∈ out) := by
  obtain ⟨chans, through, regs, entered, queues, counted⟩ := State.enterWrite_eq_sendCmps hsc hline
  set u := s.setPath chans { s.shadow with
    notices := s.shadow.notices ++ [noticeOf sc q], through := through } regs s.out with hu
  have same : SameWay s u :=
    ⟨rfl, rfl, rfl, rfl, rfl, rfl, rfl, rfl, counted _ _ (by decide) (by simp [stagingCount]) (by simp)⟩
  obtain ⟨chans', regs', out, done, sent, queues', counted', hcmp⟩ := State.sendCmps_joined (s := u) queues.2.1 hans hm
    (by rw [same.waitsAt, same.place]; exact hway)
  rw [show (u.chan sc).reads = (s.chan sc).reads from queues.1] at queues'
  refine ⟨chans', through, regs', out, _, _, done, entered.trans sent, QueuesAre.trans (t := u) queues queues', ?_, ?_⟩
  · exact RegsBut.trans (t := u) (RegsBut.mono counted (by simp))
      (RegsBut.mono counted' (by simp [State.asArrived, State.asQueued]))
  · exact fun hfree => hcmp (by simp [State.asArrived, State.asQueued, ha, hfree])

/-! What is left of the request's way is a frame: the statements O10 and O11 share it. -/

section
variable {s : State} {port link n sc : Nat} {links : Sparse HLink} {regs regs' : Sparse Nat} {x y : Shadow}
  {chans : Sparse Chan} {out : List Output} {reads writes : List Req} {l : List (Nat × Nat)}
  (h : Decoded s port link n links regs x)

theorem chan_settle_setPath (s : State) (chans : Sparse Chan) (x : Shadow) (regs : Sparse Nat) (out : List Output)
    (sc : Nat) : (settle (s.setPath chans x regs out)).chan sc = look noChan chans sc := by
  rw [State.chan, settle_dram]; rfl

theorem keeps_decoded (s : State) (links : Sparse HLink) (regs regs' : Sparse Nat) (x y : Shadow)
    (chans : Sparse Chan) (out : List Output) :
    Keeps s (settle ((s.decoded links regs x).setPath chans y regs' out)) [.hosts, .dram, .shadow, .regs, .out] := by
  refine Keeps.settle fun p hp => ?_
  have hk := Keeps.fresh s [.hosts, .dram, .shadow, .regs, .out] p hp
  cases p with
  | hosts | dram | shadow | regs | out => simp at hp
  | _ => exact hk

/-- Where nothing was put out the output is among what a frame keeps. -/
theorem Keeps.of_out_nil {s t : State} {l m : List Part} (h : Keeps s t m) (ho : t.out = [])
    (hm : ∀ p ∈ m, p = .out ∨ p ∈ l) : Keeps s t l := by
  intro p hp
  by_cases hpm : p ∈ m
  · obtain rfl | hl := hm p hpm
    · exact ho
    · exact absurd hl hp
  · exact h p hpm

theorem onlyQueue_decoded (hq : QueuesAre (s.decoded links regs x) chans sc reads writes) :
    OnlyQueue s (settle ((s.decoded links regs x).setPath chans y regs' out)) sc := by
  refine ⟨?_, fun k hk => ?_⟩
  · rw [settle_dram]; rfl
  · rw [chan_settle_setPath]; exact hq.2.2 k hk

include h

theorem Decoded.metered : metered s (settle ((s.decoded links regs x).setPath chans y regs' out)) port link n := by
  have hosts : hostsAre (settle ((s.decoded links regs x).setPath chans y regs' out))
      { s.hosts with nextReq := s.hosts.nextReq + 1, links := links } := hostsAre_settle_of rfl
  have link_eq (a b : Nat) : (settle ((s.decoded links regs x).setPath chans y regs' out)).hlink a b =
      look noLink links (linkKey a b) := hlink_settle ..
  refine ⟨?_, ?_, ?_, fun a b hab => ?_⟩
  · rw [settle_hosts]; rfl
  · rw [link_eq, h.token]
  · unfold hostsAre
    rw [settle_hosts]; rfl
  · rw [link_eq, h.others _ hab]; rfl

/-- Of shadowing, the heat counters alone have changed with a read. -/
theorem Decoded.shadowIs_read :
    let t := settle ((s.decoded links regs x).setPath chans x regs' out)
    shadowIs t { s.shadow with heat := t.shadow.heat, heatSub := t.shadow.heatSub, dies := t.shadow.dies } := by
  obtain ⟨heat, sub, dies, rfl⟩ : ∃ heat sub dies, x = { s.shadow with heat := heat, heatSub := sub, dies := dies } :=
    ⟨_, _, _, h.heated⟩
  simp only [shadowIs]
  rw [settle_shadow]
  rfl

/-- Of shadowing, the notices in flight and the withheld writes have changed beside them with a write. -/
theorem Decoded.shadowIs_write {notices : List Notice} {through : List Req} :
    let t := settle ((s.decoded links regs x).setPath chans { x with notices := notices, through := through } regs' out)
    shadowIs t { s.shadow with heat := t.shadow.heat, heatSub := t.shadow.heatSub, dies := t.shadow.dies,
                               notices := t.shadow.notices, through := t.shadow.through } := by
  obtain ⟨heat, sub, dies, rfl⟩ : ∃ heat sub dies, x = { s.shadow with heat := heat, heatSub := sub, dies := dies } :=
    ⟨_, _, _, h.heated⟩
  simp only [shadowIs]
  rw [settle_shadow]
  rfl

theorem Decoded.regsBut
    (hr : RegsBut (s.decoded links regs x) ((s.decoded links regs x).setPath chans y regs' out) l)
    (hl : [(0x5010 + port, 3), (0x5010 + port, 4)] ⊆ l) :
    RegsBut s (settle ((s.decoded links regs x).setPath chans y regs' out)) l :=
  regsBut_settle (RegsBut.trans (RegsBut.mono h.traffic hl) hr)

end

/-- A request as it enters its channel: decoded, with its class after the meter. -/
def State.meteredReq (s : State) (port link tag dpa n : Nat) (op : ReqOp) (data : Line) (be : BitVec 64) : Req :=
  { s.makeReq port link tag dpa op data be with ten := n, key := s.keyFor n dpa, cls := meteredClass s port link n }

/-- A read, and a write that neither its tenancy's hold nor an earlier write keeps back, enters its channel, as does one
whose flake is snow (07 R173, R174). -/
theorem State.admitOrHold_admitted {s : State} {q : Req}
    (h : q.op = .read ∨
      (s.tenHeld q.ten = false ∧ s.waitsBehind q.ten = false ∨ isSnow (s.firn (flakeOf q.dpa)) = true)) :
    s.admitOrHold q = s.enterChannel q := by
  refine if_neg ?_
  rcases h with h | ⟨h, h'⟩ | h <;> simp [*, ReqOp.writes]

/-- A read on a rank that is not lost enters its channel as one. -/
theorem State.enterChannel_read {s : State} {q : Req} (hl : s.isLost (s.place q.dpa).rank = false)
    (hop : q.op = .read) : s.enterChannel q = s.enterRead { q with enter := s.aon.now } := by
  simp only [State.enterChannel, hl, hop, Bool.false_eq_true, if_false]

section
variable {s : State} {port link tag hpa dpa n : Nat} {op : ReqOp} {data : Line} {be : BitVec 64}
  (ht : TakesRequests s port link) (hc : s.hasCredit port op = true) (hm : s.mediaReady = true)
  (ha : Admitted s port link hpa dpa op.writes) (hn : s.coverOf (dpa / driftBytes) = some n)
  (hway : WayOpen s port dpa)
  (hin : op = .read ∨ (s.tenHeld n = false ∧ s.waitsBehind n = false ∨ isSnow (s.firn (flakeOf dpa)) = true))
include ht hc hm ha hn hway hin

/-- An admitted request over an open way enters the channel of its line's subchannel. -/
theorem State.hostRequest_enters : ∃ links regs x, Decoded s port link n links regs x ∧
    (s.decoded links regs x).subOfReq (s.meteredReq port link tag dpa n op data be) = subOfLine s dpa ∧
    (s.decoded links regs x).isLost ((s.decoded links regs x).place dpa).rank = false ∧
    s.fresh.hostRequest port link tag hpa op data be =
      (s.decoded links regs x).enterChannel (s.meteredReq port link tag dpa n op data be) := by
  obtain ⟨links, regs, x, decoded, asked⟩ := State.hostRequest_decoded (tag := tag) (data := data) (be := be)
    ht hc hm ha hn hway
  have way := decoded.sameWay ht.2.1
  have snow := decoded.sameSnow ht.2.1
  have request : { s.makeReq port link tag dpa op data be with cls := meteredClass s port link n } =
      s.meteredReq port link tag dpa n op data be := by
    simp only [State.meteredReq, State.makeReq, hn, Option.getD_some]
  rw [request] at asked
  refine ⟨links, regs, x, decoded, (State.subOfReq_host rfl).trans (way.subOfLine dpa), ?_, ?_⟩
  · obtain ⟨-, -, -, -, -, hlost, -, -⟩ := hway
    rw [way.place, way.isLost, hlost]
  · rw [asked]
    refine State.admitOrHold_admitted (hin.imp id fun h => ?_)
    show (s.decoded links regs x).tenHeld n = false ∧ (s.decoded links regs x).waitsBehind n = false ∨ _
    rw [snow.tenHeld, snow.waitsBehind, State.firn, snow.firn]
    exact h

end

/-- Settles O10: a read over an open way is metered, crosses, and joins the read queue of its line's subchannel. -/
theorem readJoinsItsChannelQueue : Obligations.ReadJoinsItsChannelQueue := by
  intro s port link tag hpa dpa n ht hm ha hn hway hline
  obtain ⟨links, regs, x, decoded, home, found, asked⟩ := State.hostRequest_enters (op := .read) (tag := tag) (data := 0)
    (be := fullBe) ht (s.hasCredit_read port) hm ha hn hway (.inl rfl)
  obtain ⟨chans, regs', joined, queues, counted⟩ := State.enterRead_joins (s := s.decoded links regs x)
    (q := { s.meteredReq port link tag dpa n .read 0 fullBe with enter := s.aon.now }) (home ▸ hline)
  have subchannel : (s.decoded links regs x).subOfReq
      { s.meteredReq port link tag dpa n .read 0 fullBe with enter := s.aon.now } = subOfLine s dpa := home
  rw [subchannel] at queues
  have frame : Keeps s _ [.hosts, .dram, .shadow, .regs] :=
    Keeps.of_out_nil (keeps_decoded s links regs regs' x x chans []) (settle_out _) (by simp)
  have entered := asked.trans (State.enterChannel_read found rfl)
  refine does_of_effect ht.1 (exec_cxlMemRead port link tag hpa s) (entered.trans joined)
    ⟨⟨_, (congrArg Chan.reads (chan_settle_setPath ..)).trans queues.1, rfl, rfl, rfl, rfl, rfl, rfl, rfl, rfl, rfl,
        rfl⟩,
      (congrArg Chan.writes (chan_settle_setPath ..)).trans queues.2.1, decoded.metered, onlyQueue_decoded queues,
      decoded.shadowIs_read, decoded.regsBut (RegsBut.mono counted ?_) (by simp),
      frame⟩
  simp [State.meteredReq, State.makeReq]

/-- A CXL.mem write that is admitted joins the write queue of its line's subchannel, and completes. -/
theorem does_writeJoins {c : Instr} {s : State} {port link tag hpa dpa n : Nat} {op : ReqOp} {data : Line}
    {be enables : BitVec 64} (hx : exec c s = act (fun s => s.hostRequest port link tag hpa op data be) s)
    (hop : op = .write ∨ op = .partialWrite) (hbe : op = .partialWrite → be = enables)
    (ht : TakesRequests s port link) (hm : s.mediaReady = true)
    (ha : Admitted s port link hpa dpa true) (hc : s.hasCredit port .write = true)
    (hn : s.coverOf (dpa / driftBytes) = some n) (hway : WayOpen s port dpa) (hset : WritesSettled s dpa)
    (hline : ∀ e ∈ (s.chan (subOfLine s dpa)).writes, e.dpa ≠ dpa)
    (hin : s.tenHeld n = false ∧ s.waitsBehind n = false ∨ isSnow (s.firn (flakeOf dpa)) = true) :
    Does c s fun t =>
      (∃ q ∈ (t.chan (subOfLine s dpa)).writes,
        q.id = s.hosts.nextReq ∧ q.port = port ∧ q.link = link ∧ q.tag = tag ∧ q.op = op ∧ q.dpa = dpa ∧
        q.data = data ∧ (op = .partialWrite → q.be = enables) ∧ q.ten = n ∧ q.key = s.keyFor n dpa ∧
        q.cls = meteredClass s port link n ∧ q.confirmed = false) ∧
      (t.chan (subOfLine s dpa)).writes.map (·.id) =
        (s.chan (subOfLine s dpa)).writes.map (·.id) ++ [s.hosts.nextReq] ∧
      (t.chan (subOfLine s dpa)).reads = (s.chan (subOfLine s dpa)).reads ∧
      t.shadow.notices = s.shadow.notices ++
        [{ req := s.hosts.nextReq, sc := subOfLine s dpa, flake := flakeOf dpa, ten := n, applied := false }] ∧
      (s.writeThrough = false → (s.chan (subOfLine s dpa)).writes.length < 64 →
        Output.cmp port link tag ∈ t.out) ∧
      metered s t port link n ∧ OnlyQueue s t (subOfLine s dpa) ∧
      shadowIs t { s.shadow with heat := t.shadow.heat, heatSub := t.shadow.heatSub, dies := t.shadow.dies,
                                 notices := t.shadow.notices, through := t.shadow.through } ∧
      RegsBut s t [(0x5010 + port, 3), (0x5010 + port, 4), (0x5010 + port, 5), (0x5010 + port, 6)] ∧
      Keeps s t [.hosts, .dram, .shadow, .regs, .out] := by
  have credit : s.hasCredit port op = true := by rcases hop with rfl | rfl <;> exact hc
  have admitted : Admitted s port link hpa dpa op.writes := by rcases hop with rfl | rfl <;> exact ha
  obtain ⟨links, regs, x, decoded, home, found, asked⟩ := State.hostRequest_enters (tag := tag) (data := data) (be := be)
    ht credit hm admitted hn hway (.inr hin)
  have way := decoded.sameWay ht.2.1
  have snow := decoded.sameSnow ht.2.1
  obtain ⟨-, -, -, hback, -, -, -, -⟩ := hway
  have entered := asked.trans (State.enterChannel_write found (by rcases hop with rfl | rfl <;> nofun))
  obtain ⟨chans, through, regs', out, arr, met, done, joined, queues, counted, hcmp⟩ :=
    State.enterWrite_joins (s := s.decoded links regs x) (sc := subOfLine s dpa)
      (q := { s.meteredReq port link tag dpa n op data be with enter := s.aon.now }) home rfl ht.2.2.2.1
      (by rw [way.waitsAt, way.place]; exact hback) hline hset.1
  obtain ⟨hreads, hwrites, -⟩ := id queues
  refine does_of_effect ht.1 hx (entered.trans joined)
    ⟨⟨{ s.meteredReq port link tag dpa n op data be with enter := s.aon.now, arr := arr, met := met, answered := done },
      ?_, rfl, rfl, rfl, rfl, rfl, rfl, rfl, hbe, rfl, rfl, rfl, rfl⟩, ?_, ?_, ?_, ?_, decoded.metered,
      onlyQueue_decoded queues, decoded.shadowIs_write, decoded.regsBut (RegsBut.mono counted ?_) (by simp),
      keeps_decoded s links regs regs' x _ chans out⟩
  · rw [chan_settle_setPath, hwrites]
    exact List.mem_append_right _ (List.mem_singleton_self _)
  · rw [chan_settle_setPath, hwrites, List.map_append]
    rfl
  · rw [chan_settle_setPath, hreads]
    rfl
  · rw [settle_shadow]
    have notices : x.notices = s.shadow.notices := congrArg (·.notices) decoded.heated
    exact congrArg (· ++ _) notices
  · intro hthrough hlen
    rw [settle_out]
    refine hcmp ?_ hlen
    rw [State.withheld, snow.writeThrough, hthrough, Bool.false_and, Bool.false_and]
  · show [(0x5010 + port, 5), (0x5010 + port, 6)] ⊆ _
    simp

/-- Settles O11: full and partial writes alike join their channel and complete. -/
theorem writeJoinsItsChannelQueueAndCompletes : Obligations.WriteJoinsItsChannelQueueAndCompletes := by
  intro s port link tag hpa dpa n data be ht hm ha hc hn hway hset hline hin
  obtain ⟨op, hop, either, hx⟩ := exec_cxlMemPartialWrite_op port link tag hpa data be
  refine ⟨?_, ?_⟩
  · exact does_writeJoins (op := .write) (be := fullBe) (exec_cxlMemWrite port link tag hpa data s) (.inl rfl) nofun ht hm
      ha hc hn hway hset hline hin
  · rw [← hop]
    exact does_writeJoins (op := op) (be := be) (hx s) either (fun _ => rfl) ht hm ha hc hn hway hset hline hin

end Sys2Proof.Machine
end

section
/-! PROOFS. A command or a field write of a tenancy, and a key's, reaches die 0 (15 R341, 03 R66): the dictionary admits it
in the host-owner and rack realms, and it begins at once where no operation runs or waits. -/
namespace Sys2Proof.Machine

open Sys2Proof.Safety

/-- Two frames in a row are one. -/
theorem Keeps.trans {s t u : State} {l : List Part} (h : Keeps s t l) (h' : Keeps t u l) : Keeps s u l := by
  intro p hp
  have ht := h p hp
  have hu := h' p hp
  cases p <;> simp only [unchanged] at ht hu ⊢
  case hosts => rw [← ht, ← hu]
  case shadow => rw [← ht, ← hu]
  case bat => rw [← ht, ← hu]
  case rings => exact fun d => (hu d).trans (ht d)
  case regs => exact fun i k hk hn => (hu i k hk hn).trans (ht i k hk hn)
  case out => exact hu
  all_goals exact hu.trans ht

theorem leNat_leBytes (n v : Nat) : leNat (leBytes n v) = v % 256 ^ n := by
  induction n generalizing v with
  | zero => simp [leNat, leBytes, Nat.mod_one]
  | succ n ih =>
    rw [leBytes, leNat, ih, Nat.pow_succ', Nat.mod_mul, BitVec.toNat_ofNat]

theorem tenIndex_eq {n : Nat} (hn : n < 1024) : tenIndex n = 0x3000 + n := by
  simp [tenIndex, unitIndex, hn]

theorem keyIndex_eq {n : Nat} (hn : n < 1024) : keyIndex (0x3400 + n) = 0x3400 + n :=
  if_pos (by simp; omega)

theorem classify_ten (m : Nat) {n : Nat} (hn : n < 1024) : classify m (0x3000 + n) = some (.ten n) := by
  have page : (0x3000 + n) / 0x1000 = 3 := by omega
  simp only [classify, page, classify2]
  rw [if_neg (by omega), if_neg (by omega), if_neg (by omega), if_neg (by omega), if_pos (by omega)]
  simp

theorem classify_homeKey (m : Nat) {n : Nat} (hn : n < 1024) : classify m (0x3400 + n) = some (.homeKey n) := by
  have page : (0x3400 + n) / 0x1000 = 3 := by omega
  simp only [classify, page, classify2]
  rw [if_neg (by omega), if_neg (by omega), if_neg (by omega), if_neg (by omega), if_neg (by omega), if_pos (by omega)]
  simp

/-- An operation on tenancies and keys that a write of a number begins. -/
def opOf (o : Origin) (idx sub v : Nat) : TenOp :=
  { caller := callerOf o, idx := idx, sub := sub, value := v, data := [] }

/-- The objects whose writes begin an operation on tenancies and keys (03 R66, R76, 07 R177). -/
def beginsOp (c : Cls) (sub : Nat) : Prop :=
  (∃ n, c = .ten n) ∨ (∃ k, c = .homeKey k ∧ sub = 4) ∨ (c = .shadow2 ∧ sub = 1)

theorem State.applyNumber_op (s : State) (o : Origin) {c : Cls} {r : ObjRow} (idx v : Nat) (h : beginsOp c r.sub) :
    s.applyNumber (callerOf o) c r idx v = (.later, s.submit (opOf o idx r.sub v)) := by
  rcases h with ⟨n, rfl⟩ | ⟨k, rfl, hsub⟩ | ⟨rfl, hsub⟩
  · rfl
  · simp only [State.applyNumber, hsub, opOf]
  · simp only [State.applyNumber, hsub, opOf]

/-- An operation begins at once where none runs and none waits (03 R66). -/
theorem State.submit_now {s : State} {o : Origin} (ht : TakesNow s o) (op : TenOp) : s.submit op = s.runOp op := by
  obtain ⟨-, -, -, -, hb, hw⟩ := ht
  simp [State.submit, hb, hw]

/-- The object exists, and the realm of the path writes it. -/
structure Writable (s : State) (o : Origin) (idx : Nat) (c : Cls) (r : ObjRow) : Prop where
  place : classify s.n idx = some c
  row : findRow r.sub (c.rows s.n) = some r
  sub : 0 < r.sub
  right : r.rights.of (s.realm o) = .rw ∨ r.rights.of (s.realm o) = .wo

/-- The host owner and the rack, in whose realms operations begin, write objects of three patterns (15 R340). -/
theorem rights_of_takesNow {s : State} {o : Origin} {x : Rights} (ht : TakesNow s o)
    (hx : x = .hostRack ∨ x = .hostRackOwn ∨ x = .woHostRack) :
    x.of (s.realm o) = .rw ∨ x.of (s.realm o) = .wo := by
  obtain ⟨-, -, -, hrealm, -, -⟩ := ht
  rcases hx with rfl | rfl | rfl <;> rcases hrealm with h | h <;> simp [h, Rights.of]

/-- The gate of the dictionary lets the write by. -/
theorem State.writeGate_takesNow {s : State} {o : Origin} {idx : Nat} {c : Cls} {r : ObjRow} (ht : TakesNow s o)
    (hw : Writable s o idx c r) : s.writeGate o idx r.sub = .ok (c, r) := by
  obtain ⟨-, -, hopen, -, -, -⟩ := ht
  have right : (s.rightOf o c r idx).writes = true := by
    rcases hw.right with h | h <;> simp [State.rightOf, h, Right.writes]
  simp only [State.writeGate, hw.place, hw.row, right, hopen, hw.sub.ne', if_false, Bool.not_true, Bool.false_eq_true]

/-- A write of a number to an object of tenancies and keys begins the operation on the nearest legal value. -/
theorem State.writeNum_op {s : State} {o : Origin} {idx v : Nat} {c : Cls} {r : ObjRow} (ht : TakesNow s o)
    (hw : Writable s o idx c r) (hop : beginsOp c r.sub) (hty : r.ty.size ≠ 0) :
    s.writeNum o idx r.sub v = s.runOp (opOf o idx r.sub (s.legal c r.sub (clampRaw r (v % 256 ^ r.ty.size)))) := by
  have size : s.sizeOf idx r.sub = r.ty.size := by simp [State.sizeOf, objRow, hw.place, hw.row]
  have gate : s.writeGate (callerOf o).origin idx r.sub = .ok (c, r) := State.writeGate_takesNow ht hw
  have reach : s.reaches o = true := ht.2.1
  simp only [State.writeNum, State.writeBy, reach, if_true, State.runWrite, State.writeObj, gate, hty, if_false, size,
    leBytes_length, leNat_leBytes, ne_eq, not_true_eq_false, or_self, State.applyNumber_op _ _ _ _ hop,
    State.submit_now ht]

/-! The rows of a tenancy's objects (03 Table 03.4). -/

/-- A number within its row's range is a legal value. -/
theorem clampRaw_of_range {r : ObjRow} {v : Nat} (hty : r.ty = .u8 ∨ r.ty = .u16 ∨ r.ty = .u32 ∨ r.ty = .u64)
    (hlo : r.lo ≤ v) (hhi : (v : Int) ≤ r.hi) : clampRaw r v = v := by
  have clamped : (max r.lo (min r.hi (v : Int))).toNat = v := by
    rw [min_eq_right hhi, max_eq_right hlo, Int.toNat_natCast]
  rcases hty with h | h | h | h <;> rw [clampRaw, h] <;> exact clamped

section
variable {s : State} {o : Origin} {n v : Nat} {r : ObjRow} (ht : TakesNow s o) (hn : n < 1024)
  (hr : findRow r.sub (rowsTen n) = some r) (hs : 0 < r.sub)
  (hw : r.rights = .hostRack ∨ r.rights = .hostRackOwn ∨ r.rights = .woHostRack)

theorem State.sizeOf_ten (s : State) {n : Nat} (hn : n < 1024) {r : ObjRow}
    (hr : findRow r.sub (rowsTen n) = some r) : s.sizeOf (0x3000 + n) r.sub = r.ty.size := by
  have row : findRow r.sub ((Cls.ten n).rows s.n) = some r := hr
  simp [State.sizeOf, objRow, classify_ten _ hn, row]

include ht hn hr hs hw

/-- A write of a tenancy's object begins the operation that the row names. -/
theorem State.writeNum_ten (hty : r.ty = .u8 ∨ r.ty = .u32 ∨ r.ty = .u64)
    (hv : v < 256 ^ r.ty.size) (hlo : r.lo ≤ v) (hhi : (v : Int) ≤ r.hi) (h8 : r.sub = 8 → v ≤ s.hardwareCap) :
    s.writeNum o (tenIndex n) r.sub v = s.runOp (opOf o (0x3000 + n) r.sub v) := by
  have owners : Writable s o (0x3000 + n) (.ten n) r := ⟨classify_ten _ hn, hr, hs, rights_of_takesNow ht hw⟩
  have size : r.ty.size ≠ 0 := by rcases hty with h | h | h <;> rw [h] <;> decide
  have legal : s.legal (.ten n) r.sub v = v := by
    unfold State.legal
    split <;> simp_all
  rw [tenIndex_eq hn, State.writeNum_op ht owners (.inl ⟨n, rfl⟩) size, Nat.mod_eq_of_lt hv,
    clampRaw_of_range (hty.imp_right .inr) hlo hhi, legal]

theorem State.writeNum_tenField (hty : r.ty = .u8 ∨ r.ty = .u32 ∨ r.ty = .u64)
    (hv : v < 256 ^ r.ty.size) (hlo : r.lo ≤ v) (hhi : (v : Int) ≤ r.hi) (h8 : r.sub = 8 → v ≤ s.hardwareCap)
    (h9 : r.sub ≠ 9) : s.writeNum o (tenIndex n) r.sub v = s.runField (opOf o (0x3000 + n) r.sub v) n := by
  rw [State.writeNum_ten ht hn hr hs hw hty hv hlo hhi h8, State.runOp]
  simp only [opOf, h9, if_false]
  rw [if_neg (by omega), if_pos (by omega), Nat.add_sub_cancel_left]

end

/-- A write of .09 runs the command. -/
theorem State.writeNum_tenCommand {s : State} {o : Origin} {n v : Nat} (ht : TakesNow s o) (hn : n < 1024)
    (hlo : 1 ≤ v) (hhi : v ≤ 6) :
    s.writeNum o (tenIndex n) 9 v = s.runCommand (opOf o (0x3000 + n) 9 v) n := by
  have begun : s.writeNum o (tenIndex n) 9 v = s.runOp (opOf o (0x3000 + n) 9 v) :=
    State.writeNum_ten (r := row 0x09 .u8 .woHostRack 0 1 6 .reset) ht hn rfl (by decide) (.inr (.inr rfl)) (.inl rfl)
      (show v < 256 by omega) (show (1 : Int) ≤ v by omega) (show (v : Int) ≤ 6 by omega) nofun
  rw [begun, State.runOp]
  simp only [opOf, if_true]
  rw [if_neg (by omega), if_pos (by omega), Nat.add_sub_cancel_left]

end Sys2Proof.Machine
end

section
/-! PROOFS. Tenancy commands and field writes have the effect of Table 03.5 (O31): what is left when an operation of a
tenancy has changed its entry, and the answer. -/
namespace Sys2Proof.Machine

open Sys2Proof.Safety

theorem keeps_setTenancies {s t : State} {l : List Part} (h : Keeps s t l) (hl : Part.ten ∈ l) (x : Tenants) :
    Keeps s { t with ten := x } l := by
  intro p hp
  have hk := h p hp
  cases p with
  | ten => exact absurd hl hp
  | _ => exact hk

theorem keeps_slotFrame {s t : State} {l : List Part} (h : Keeps s t l) (hl : Part.bus ∈ l) (f : TxFrame) :
    Keeps s (t.slotFrame f) l := by
  intro p hp
  have hk := h p hp
  cases p with
  | bus => exact absurd hl hp
  | _ => exact hk

@[simp] theorem State.tenancy_settle (s : State) (m : Nat) : (settle s).tenancy m = s.tenancy m := by
  rw [State.tenancy, settle_ten]; rfl

@[simp] theorem State.keySlot_settle (s : State) (k : Nat) : (settle s).keySlot k = s.keySlot k := by
  rw [State.keySlot, settle_ten]; rfl

@[simp] theorem State.tenancy_report (s : State) (d c v w : Nat) (a : List Nat) (m : Nat) :
    (s.report d c v w a).tenancy m = s.tenancy m := by
  rw [State.tenancy, State.report_ten]; rfl

theorem State.tenancy_setTen_same (s : State) (n : Nat) (y : Tenancy) : (s.setTen n y).tenancy n = y :=
  look_put_same ..

theorem State.tenancy_setTen_ne (s : State) {n m : Nat} (y : Tenancy) (h : m ≠ n) :
    (s.setTen n y).tenancy m = s.tenancy m := look_put_ne _ _ _ h

theorem State.keySlot_setKey_same (s : State) (k : Nat) (x : KeySlot) : (s.setKey k x).keySlot k = x :=
  look_put_same ..

theorem State.keySlot_setKey_ne (s : State) {k j : Nat} (x : KeySlot) (h : j ≠ k) :
    (s.setKey k x).keySlot j = s.keySlot j := look_put_ne _ _ _ h

/-! The answer to a write that an operation has carried out. -/

theorem saysWrite_settle {s t : State} {o : Origin} {st len : Nat} (h : SaysWrite s t o st len) :
    SaysWrite s (settle t) o st len := by
  cases o <;> simpa only [SaysWrite, settle_out, settle_bus] using h

theorem saysWrite_report {s t : State} {o : Origin} {st len : Nat} (h : SaysWrite s t o st len) (d c v w : Nat)
    (a : List Nat) : SaysWrite s (t.report d c v w a) o st len := by
  cases o <;> simpa only [SaysWrite, State.report_out, State.report_bus] using h

/-- A write is answered on the path that it came by; nothing but the path changes (15 R342). -/
theorem answerWrite_answers {s u : State} {o : Origin} {st len : Nat} {l : List Part} (ht : TakesNow s o)
    (hk : Keeps s u l) (hl : ∀ p ∈ l, p ≠ .bus ∧ p ≠ .out ∧ p ≠ .build) :
    SaysWrite s (u.answerWrite (callerOf o) true st len len) o st len ∧
      Keeps s (u.answerWrite (callerOf o) true st len len) (l ++ [.bus, .out]) ∧
      (u.answerWrite (callerOf o) true st len len).ten = u.ten := by
  have hbus : u.bus = s.bus := hk .bus fun h => (hl _ h).1 rfl
  have hout : u.out = [] := hk .out fun h => (hl _ h).2.1 rfl
  have hbuild : u.build = s.build := hk .build fun h => (hl _ h).2.2 rfl
  have wider : Keeps s u (l ++ [.bus, .out]) :=
    Keeps.mono hk (List.subset_append_left ..)
  cases o with
  | mailbox port link =>
    refine ⟨⟨?_, hbus⟩, keeps_emit wider (by simp) _, rfl⟩
    show u.out ++ _ = _
    rw [hout]; rfl
  | fieldBus h sid =>
    refine ⟨⟨hout, ?_⟩, keeps_slotFrame wider (by simp) _, rfl⟩
    have slot : (u.answerWrite (callerOf (.fieldBus h sid)) true st len len).bus = { u.bus with
        slotted := u.bus.slotted ++ [{ respBare h 5 sid (writeRespBytes st len) with src := u.build.node }] } := rfl
    rw [slot, hbus, hbuild]; rfl
  | twoWire =>
    obtain ⟨-, -, -, h | h, -⟩ := ht <;> cases h

/-- An operation that a write of a number began answers OK. -/
theorem opOk_answers {s u : State} {o : Origin} {idx sub v len : Nat} {l : List Part} (ht : TakesNow s o)
    (hk : Keeps s u l) (hl : ∀ p ∈ l, p ≠ .bus ∧ p ≠ .out ∧ p ≠ .build) (hlen : u.sizeOf idx sub = len) :
    SaysWrite s (u.opOk (opOf o idx sub v)) o stOk len ∧ Keeps s (u.opOk (opOf o idx sub v)) (l ++ [.bus, .out]) ∧
      (u.opOk (opOf o idx sub v)).ten = u.ten := by
  have answer : u.opOk (opOf o idx sub v) = u.answerWrite (callerOf o) true stOk len len := by
    simp [State.opOk, opOf, hlen]
  rw [answer]
  exact answerWrite_answers ht hk hl

/-! The entry of a tenancy, changed and answered. -/

/-- A tenancy's entry has become y, and its write is answered OK. -/
def Becomes (s t : State) (o : Origin) (n : Nat) (y : Tenancy) (len : Nat) : Prop :=
  t.tenancy n = y ∧ OnlyTenancy s t n 0xFFFFF ∧ SaysWrite s t o stOk len ∧ Keeps s t [.ten, .bus, .out]

/-- A tenancy's entry has become y, and its write is answered OK when the requests decoded before are complete. -/
def Changes (s t : State) (o : Origin) (n sub value : Nat) (y : Tenancy) (len : Nat) : Prop :=
  (s.unsettled n s.hosts.nextReq = [] → Becomes s t o n y len) ∧
    (s.unsettled n s.hosts.nextReq ≠ [] →
      t.tenancy n = y ∧ (∀ m, m ≠ n → t.tenancy m = s.tenancy m) ∧ Keeps s t [.ten] ∧
      t.ten = { s.ten with
        table := t.ten.table
        settling := some {
          op := { caller := callerOf o, idx := 0x3000 + n, sub := sub, value := value, data := [] }
          ten := n, was := s.tenancy n, upTo := s.hosts.nextReq } })

theorem tenancy_of_ten {t u : State} (h : u.ten = t.ten) (n : Nat) : u.tenancy n = t.tenancy n := by
  rw [State.tenancy, h]; rfl

theorem keySlot_of_ten {t u : State} (h : u.ten = t.ten) (k : Nat) : u.keySlot k = t.keySlot k := by
  rw [State.keySlot, h]; rfl

theorem onlyTenancy_of_ten {s t u : State} (h : u.ten = t.ten) {n k : Nat} (ho : OnlyTenancy s t n k) :
    OnlyTenancy s u n k := by
  simpa only [OnlyTenancy, State.tenancy, State.keySlot, h] using ho

theorem Becomes.settle {s t : State} {o : Origin} {n len : Nat} {y : Tenancy} (h : Becomes s t o n y len) :
    Becomes s (settle t) o n y len := by
  obtain ⟨hy, honly, hsays, hk⟩ := h
  exact ⟨(State.tenancy_settle t n).trans hy, onlyTenancy_of_ten (settle_ten t) honly, saysWrite_settle hsays,
    Keeps.settle hk⟩

theorem Becomes.cdatChanged {s t : State} {o : Origin} {n len : Nat} {y : Tenancy} (h : Becomes s t o n y len) :
    Becomes s t.cdatChanged o n y len := by
  obtain ⟨hy, honly, hsays, hk⟩ := h
  exact ⟨(State.tenancy_report ..).trans hy, onlyTenancy_of_ten (State.report_ten ..) honly,
    saysWrite_report hsays _ _ _ _ _, keeps_report hk (by decide) _ _ _ _⟩

theorem Changes.settle {s t : State} {o : Origin} {n sub v len : Nat} {y : Tenancy} (h : Changes s t o n sub v y len) :
    Changes s (settle t) o n sub v y len := by
  refine ⟨fun hu => (h.1 hu).settle, fun hu => ?_⟩
  obtain ⟨hy, hother, hk, hten⟩ := h.2 hu
  refine ⟨?_, fun m hm => ?_, Keeps.settle hk, ?_⟩
  · rw [State.tenancy_settle, hy]
  · rw [State.tenancy_settle, hother m hm]
  · rw [settle_ten, ← hten]

theorem Changes.cdatChanged {s t : State} {o : Origin} {n sub v len : Nat} {y : Tenancy}
    (h : Changes s t o n sub v y len) : Changes s t.cdatChanged o n sub v y len := by
  refine ⟨fun hu => (h.1 hu).cdatChanged, fun hu => ?_⟩
  obtain ⟨hy, hother, hk, hten⟩ := h.2 hu
  refine ⟨?_, fun m hm => ?_, keeps_report hk (by decide) _ _ _ _, ?_⟩
  · rw [State.cdatChanged, State.tenancy_report, hy]
  · rw [State.cdatChanged, State.tenancy_report, hother m hm]
  · rw [State.cdatChanged, State.report_ten, ← hten]

section
variable {s : State} {o : Origin} {n sub v len : Nat} {r : ObjRow} (ht : TakesNow s o) (hn : n < 1024) (y : Tenancy)
  (hr : findRow r.sub (rowsTen n) = some r)
include ht hn hr

/-- An entry written at once is answered at once. -/
theorem becomes_setTen : Becomes s ((s.fresh.setTen n y).opOk (opOf o (0x3000 + n) r.sub v)) o n y r.ty.size := by
  obtain ⟨answered, keeps, hten⟩ := opOk_answers (u := s.fresh.setTen n y) (v := v) (l := [.ten]) ht
    (keeps_setTenancies (Keeps.fresh s _) (by simp) _) (by simp) (State.sizeOf_ten _ hn hr)
  have only : OnlyTenancy s (s.fresh.setTen n y) n 0xFFFFF :=
    ⟨fun m hm => State.tenancy_setTen_ne _ _ hm, fun _ _ => rfl, rfl⟩
  exact ⟨(tenancy_of_ten hten n).trans (State.tenancy_setTen_same ..), onlyTenancy_of_ten hten only, answered, keeps⟩

/-- 03 R80: a change answers at once, or waits for the requests that were decoded before it. -/
theorem changes_changeEntry :
    Changes s (s.fresh.changeEntry (opOf o (0x3000 + n) r.sub v) n y) o n r.sub v y r.ty.size := by
  have same : s.fresh.unsettled n s.fresh.hosts.nextReq = s.unsettled n s.hosts.nextReq := rfl
  unfold State.changeEntry
  rw [same]
  by_cases hu : s.unsettled n s.hosts.nextReq = []
  · rw [if_pos (by simp [hu])]
    exact ⟨fun _ => becomes_setTen ht hn y hr, fun h => absurd hu h⟩
  · rw [if_neg (by simpa using hu)]
    refine ⟨fun h => absurd h hu, fun _ => ⟨?_, ?_, ?_, ?_⟩⟩
    · exact State.tenancy_setTen_same ..
    · exact fun m hm => State.tenancy_setTen_ne _ _ hm
    · exact keeps_setTenancies (keeps_setTenancies (Keeps.fresh s _) (by simp) _) (by simp) _
    · rfl

end

end Sys2Proof.Machine
end

section
/-! PROOFS. A RETIRE answers the requests of its tenancy that wait (03 R71): what an answer to a request leaves unchanged,
and what is left of the tenancy. -/
namespace Sys2Proof.Machine

open Sys2Proof.Safety

/-- A report keeps every part where the register file is no part of a frame. -/
theorem keeps_report_anywhere {s t : State} {l : List Part} (h : Keeps s t l) (hl : Part.regs ∈ l)
    (d c v w : Nat) (a : List Nat) : Keeps s (t.report d c v w a) l := by
  intro p hp
  have hk := h p hp
  cases p <;> simp only [unchanged, State.report_build, State.report_aon, State.report_seq, State.report_ten,
    State.report_dram, State.report_freeze, State.report_sparing, State.report_adc, State.report_clocks,
    State.report_mgmt, State.report_bus, State.report_wire, State.report_fw, State.report_doms,
    State.report_usedW1, State.report_out, State.report_freeCount, State.report_pending,
    State.report_hosts, State.report_shadow, State.report_bat, State.report_ring] at hk ⊢ <;> try exact hk
  exact absurd hl hp

/-- From t, requests have been answered or counted: only objects, outputs and what waits at the die-to-die links has
changed. -/
structure Responds (t u : State) : Prop where
  keeps : Keeps t u [.hosts, .regs, .out]
  links : u.hosts.links = t.hosts.links

theorem Responds.refl (t : State) : Responds t t :=
  ⟨Keeps.mono (Keeps.refl t) (by simp), rfl⟩

theorem Responds.trans {s t u : State} (h : Responds s t) (h' : Responds t u) : Responds s u :=
  ⟨Keeps.trans h.keeps h'.keeps, h'.links.trans h.links⟩

theorem Responds.foldl {α : Type} {f : State → α → State} (hf : ∀ t a, Responds t (f t a)) (l : List α) (t : State) :
    Responds t (l.foldl f t) := by
  induction l generalizing t with
  | nil => exact Responds.refl t
  | cons a l ih => exact (hf t a).trans (ih _)

theorem responds_setReg (t : State) (i k v : Nat) : Responds t (t.setReg i k v) :=
  ⟨keeps_setReg (Responds.refl t).keeps (by simp) _ _ _, rfl⟩

theorem responds_emit (t : State) (o : Output) : Responds t (t.emit o) :=
  ⟨keeps_emit (Responds.refl t).keeps (by simp) _, rfl⟩

theorem responds_report (t : State) (d c v w : Nat) (a : List Nat) : Responds t (t.report d c v w a) :=
  ⟨keeps_report_anywhere (Responds.refl t).keeps (by simp) _ _ _ _ _, congrArg (·.links) (State.report_hosts ..)⟩

theorem responds_noteLatency (t : State) (q : Req) : Responds t (t.noteLatency q) := by
  unfold State.noteLatency
  split
  · exact responds_setReg ..
  · exact Responds.refl t

theorem responds_sendCmp (t : State) (q : Req) : Responds t (t.sendCmp q) := by
  unfold State.sendCmp
  split
  · exact Responds.refl t
  · exact (responds_noteLatency t q).trans (responds_emit _ _)

theorem responds_sendData (t : State) (q : Req) (x : Line) (b : Bool) : Responds t (t.sendData q x b) := by
  unfold State.sendData
  split
  · exact Responds.refl t
  · exact (responds_noteLatency t q).trans (responds_emit _ _)

theorem responds_countMet (t : State) (q : Req) : Responds t (t.countMet q) := by
  unfold State.countMet
  split
  · exact Responds.refl t
  · exact responds_setReg ..

theorem responds_waitAt (t : State) (key : Nat) (b : FlitBody) : Responds t (t.waitAt key b) := by
  have waits (u : State) (f : List Flit) : Responds u { u with hosts := { u.hosts with flits := f } } :=
    ⟨keeps_setHosts (Responds.refl u).keeps (by simp) _, rfl⟩
  unfold State.waitAt
  dsimp only
  refine Responds.trans ?_ (waits _ _)
  split
  · exact responds_countMet ..
  · exact Responds.refl t

theorem responds_respCmp (t : State) (q : Req) : Responds t (t.respCmp q) := by
  unfold State.respCmp
  repeat' split
  · exact Responds.refl t
  · exact responds_waitAt ..
  · exact responds_sendCmp ..

theorem responds_respRefuse (t : State) (q : Req) : Responds t (t.respRefuse q) := by
  unfold State.respRefuse
  repeat' split
  · exact responds_sendData ..
  · exact Responds.refl t
  · exact responds_sendCmp ..
  · exact Responds.refl t
  · exact responds_sendCmp ..
  · exact Responds.refl t
  · exact Responds.refl t

theorem responds_violate (t : State) (q : Req) (n : Nat) : Responds t (t.violate q n) := by
  refine Responds.trans ?_ (responds_respRefuse _ q)
  refine Responds.trans ?_ (responds_report _ _ _ _ _ _)
  exact (((responds_setReg _ _ _ _).trans (responds_setReg _ _ _ _)).trans (responds_setReg _ _ _ _)).trans
    (responds_setReg _ _ _ _)

/-! The tenancy that retires. -/

/-- A RETIRE sets its tenancy RETIRING and takes its requests out of the lists in which writes wait; what follows are
answers to them (03 R71). -/
theorem State.beginRetire_withdraws (s : State) (n : Nat) (c : Caller) : ∃ u, Responds u (s.beginRetire n c) ∧
    u.ten = { (s.setTenState n 3).ten with
      retiring := s.ten.retiring ++ [{ ten := n, was := (s.tenancy n).st, caller := c, answered := false }] } ∧
    u.hosts = s.hosts ∧ (∀ q ∈ u.shadow.held ++ u.shadow.through ++ u.freeze.fetchWait, q.ten ≠ n) ∧
    (∀ l, Keeps s (s.setTenState n 3) l → Part.ten ∈ l → Part.shadow ∈ l → Part.freeze ∈ l →
      Part.sparing ∈ l → Keeps s u l) := by
  unfold State.beginRetire
  dsimp only
  refine ⟨_, Responds.trans (Responds.trans (Responds.trans (Responds.trans
    (Responds.foldl (fun t q => responds_setReg _ _ _ _) _ _) (responds_setReg _ _ _ _))
    (Responds.foldl (fun t q => responds_violate t q n) _ _)) (Responds.foldl responds_respCmp _ _))
    (responds_report _ _ _ _ _ _), rfl, rfl, fun q hq => ?_, fun l hk hten hsh hfz hsp p hp => ?_⟩
  · simp only [State.unlistCheckpoint, List.mem_append, List.mem_filter] at hq
    rcases hq with (⟨-, h⟩ | ⟨-, h⟩) | ⟨-, h⟩ <;> simpa using h
  · have h := hk p hp
    cases p with
    | ten => exact absurd hten hp
    | shadow => exact absurd hsh hp
    | freeze => exact absurd hfz hp
    | sparing => exact absurd hsp hp
    | _ => exact h

/-- A frame that keeps the shadowing state leaves two of its flags. -/
theorem Keeps.shadow_eq {s t : State} {l : List Part} (h : Keeps s t l) (hl : Part.shadow ∉ l) :
    t.shadow = { s.shadow with armed := t.shadow.armed, scaled := t.shadow.scaled } := by
  have hs : { t.shadow with armed := s.shadow.armed, scaled := s.shadow.scaled } = s.shadow := h .shadow hl
  rw [← hs]

/-- What a RETIRE leaves of its tenancy and of the requests that wait (03 R71). -/
theorem settle_beginRetire (s : State) (n : Nat) (c : Caller) :
    let t := settle (s.fresh.beginRetire n c)
    t.tenancy n = { s.tenancy n with st := 3 } ∧ (∀ m, m ≠ n → t.tenancy m = s.tenancy m) ∧
      t.ten.keys = s.ten.keys ∧
      t.ten.retiring = s.ten.retiring ++ [{ ten := n, was := (s.tenancy n).st, caller := c, answered := false }] ∧
      (∀ q ∈ t.shadow.held ++ t.shadow.through ++ t.freeze.fetchWait, q.ten ≠ n) ∧
      (∀ p l, t.hlink p l = s.hlink p l) ∧ Keeps s t [.ten, .hosts, .shadow, .freeze, .sparing, .regs, .out] := by
  obtain ⟨u, responds, hten, hhosts, hgone, hkeeps⟩ := s.fresh.beginRetire_withdraws n c
  have ten : (settle (s.fresh.beginRetire n c)).ten = _ :=
    (settle_ten _).trans ((responds.keeps .ten (by simp)).trans hten)
  have table : (settle (s.fresh.beginRetire n c)).ten.table = put noTen s.ten.table n { s.tenancy n with st := 3 } := by
    rw [ten]; rfl
  have freeze : (s.fresh.beginRetire n c).freeze = u.freeze := responds.keeps .freeze (by simp)
  refine ⟨?_, fun m hm => ?_, ?_, ?_, ?_, fun p l => ?_, Keeps.settle ?_⟩
  · rw [State.tenancy, table]; exact look_put_same ..
  · rw [State.tenancy, table]; exact look_put_ne _ _ _ hm
  · rw [ten]; rfl
  · rw [ten]; rfl
  · rw [settle_shadow, settle_freeze, freeze, Keeps.shadow_eq responds.keeps (by simp)]
    exact hgone
  · rw [hlink_settle, State.hlink, responds.links, hhosts]; rfl
  · refine Keeps.trans (hkeeps _ ?_ (by simp) (by simp) (by simp) (by simp)) (Keeps.mono responds.keeps (by simp))
    exact keeps_setTenancies (Keeps.fresh s _) (by simp) _

end Sys2Proof.Machine
end

section
/-! PROOFS. Tenancy commands and field writes have the effect of Table 03.5 (O31). -/
namespace Sys2Proof.Machine

open Sys2Proof.Safety

section
variable {s : State} {o : Origin} {n v : Nat} (ht : TakesNow s o) (hn : n < 1024)
include ht hn

/-- A command of a tenancy does what its operation does. -/
theorem does_tenCommand {c : Instr} {P : State → Prop} {u : State}
    (hc : exec c s = act (fun s => s.writeNum o (tenIndex n) 9 v) s)
    (hv : 1 ≤ v ∧ v ≤ 6) (hu : s.fresh.runCommand (opOf o (0x3000 + n) 9 v) n = u) (h : P (settle u)) : Does c s P :=
  does_of_effect ht.1 hc ((State.writeNum_tenCommand (s := s.fresh) ht hn hv.1 hv.2).trans hu) h

/-- A write of a tenancy's field within its range does what its operation does. -/
theorem does_tenField {r : ObjRow} {P : State → Prop} {u : State} (hr : findRow r.sub (rowsTen n) = some r)
    (hs : 0 < r.sub) (hw : r.rights = .hostRack ∨ r.rights = .hostRackOwn ∨ r.rights = .woHostRack)
    (hty : r.ty = .u8 ∨ r.ty = .u32 ∨ r.ty = .u64) (hv : v < 256 ^ r.ty.size) (hlo : r.lo ≤ v)
    (hhi : (v : Int) ≤ r.hi) (h8 : r.sub = 8 → v ≤ s.hardwareCap) (h9 : r.sub ≠ 9)
    (hu : s.fresh.runField (opOf o (0x3000 + n) r.sub v) n = u) (h : P (settle u)) :
    Does (.tenancyFieldWrite o n r.sub v) s P :=
  does_of_effect (f := fun s => s.writeNum o (tenIndex n) r.sub v) ht.1 rfl
    ((State.writeNum_tenField (s := s.fresh) ht hn hr hs hw hty hv hlo hhi h8 h9).trans hu) h

end

/-- A refused operation waits to be answered; its report changes no part (03 R66). -/
theorem refusal_joins {s : State} {o : Origin} {idx sub v reason : Nat} :
    let t := settle (s.fresh.opRefuse (opOf o idx sub v) reason)
    t.ten = { s.ten with refused := s.ten.refused ++ [{ caller := callerOf o, status := stRefused }] } ∧
      Keeps s t [.ten] := by
  refine ⟨?_, Keeps.settle (keeps_report (keeps_setTenancies (Keeps.fresh s _) (by simp) _) (by decide) _ _ _ _)⟩
  rw [settle_ten]
  exact State.report_ten ..

/-- An operation that fills a range with zeros answers later. -/
theorem filling_begins {s : State} {op : TenOp} :
    let t := settle { s.fresh with ten := { s.fresh.ten with filling := some op } }
    t.ten = { s.ten with filling := some op } ∧ Keeps s t [.ten] :=
  ⟨settle_ten _, Keeps.settle (keeps_setTenancies (Keeps.fresh s _) (by simp) _)⟩

/-! Commands, one by one (03 Table 03.5). -/

section
variable {s : State} {op : TenOp} {n : Nat}

theorem State.runCommand_create (hv : op.value = 1) (he : s.noEntry = false) (hr : s.createReason n = none) :
    s.runCommand op n = { s with ten := { s.ten with filling := some op } } := by
  simp only [State.runCommand, hv, he, hr, if_true, Bool.false_eq_true, if_false]

theorem State.runCommand_create_refused {r : Nat} (hv : op.value = 1) (he : s.noEntry = false)
    (hr : s.createReason n = some r) : s.runCommand op n = s.opRefuse op r := by
  simp only [State.runCommand, hv, he, hr, if_true, Bool.false_eq_true, if_false]

theorem State.runCommand_resize (hv : op.value = 2) (hr : s.resizeReason n = none) :
    s.runCommand op n = { s with ten := { s.ten with filling := some op } } := by
  simp only [State.runCommand, hv, hr, if_true, OfNat.ofNat_ne_one, if_false]

theorem State.runCommand_fence (hv : op.value = 3) (hst : (s.tenancy n).st = 1) :
    s.runCommand op n = s.changeEntry op n { s.tenancy n with st := 2 } := by
  simp [State.runCommand, hv, hst]

theorem State.runCommand_fence_refused (hv : op.value = 3) (hst : (s.tenancy n).st ≠ 1) :
    s.runCommand op n = s.opRefuse op rWrongState := by
  simp [State.runCommand, hv, hst]

theorem State.runCommand_unfence (hv : op.value = 4) (hst : (s.tenancy n).st = 2) :
    s.runCommand op n = s.changeEntry op n { s.tenancy n with st := 1 } := by
  simp [State.runCommand, hv, hst]

theorem State.runCommand_retire (hv : op.value = 5) (hst : (s.tenancy n).st = 1 ∨ (s.tenancy n).st = 2) :
    s.runCommand op n = s.beginRetire n op.caller := by
  have opened : (s.tenancy n).open_ = true := by rcases hst with h | h <;> simp [Tenancy.open_, h]
  simp [State.runCommand, hv, opened]

theorem State.runCommand_rekey (hv : op.value = 6) (ht : s.noTransit = false) (hr : s.rekeyReason n = none) :
    s.runCommand op n =
      ((s.setKey (1024 + (s.tenancy n).transit) { s.keySlot (1024 + (s.tenancy n).transit) with st := 4, ten := n }).setTen
        n { s.tenancy n with watermark := (s.tenancy n).base * driftBytes }).opOk op := by
  simp [State.runCommand, hv, ht, hr]

/-! Fields, one by one (03 R67, R80). -/

theorem State.runField_free (hst : (s.tenancy n).st = 0) :
    (op.sub = 2 → s.runField op n = (s.setTen n { s.tenancy n with base := op.value }).opOk op) ∧
    (op.sub = 3 → s.runField op n = (s.setTen n { s.tenancy n with limit := op.value }).opOk op) ∧
    (op.sub = 4 → s.runField op n = (s.setTen n { s.tenancy n with mode := op.value }).opOk op) := by
  refine ⟨fun h => ?_, fun h => ?_, fun h => ?_⟩ <;> simp [State.runField, h, hst]

theorem State.runField_cls (hsub : op.sub = 6) (hst : (s.tenancy n).st ≠ 3)
    (hb : s.classBars (s.tenancy n) (s.portMask op.value) = false) :
    s.runField op n = (s.changeEntry op n { s.tenancy n with cls := s.portMask op.value }).cdatChanged := by
  simp [State.runField, hsub, hst, hb]

theorem State.runField_rights (hsub : op.sub = 7) (hst : (s.tenancy n).st ≠ 3)
    (hb : s.grantBars n (s.portMask op.value) = false) :
    s.runField op n = (s.changeEntry op n { s.tenancy n with rights := s.portMask op.value }).cdatChanged := by
  simp [State.runField, hsub, hst, hb]

theorem State.runField_share (hsub : op.sub = 8) (hst : (s.tenancy n).st ≠ 3)
    (hb : s.shareBars (s.tenancy n) (wholeFlakes op.value) = false) :
    s.runField op n = s.changeEntry op n { s.tenancy n with share := wholeFlakes op.value } := by
  simp [State.runField, hsub, hst, hb]

theorem State.runField_transit (hsub : op.sub = 0x0A) :
    s.runField op n = (s.setTen n { s.tenancy n with transit := op.value }).opOk op := by
  simp [State.runField, hsub]

end

section
variable {s : State} {o : Origin} {n v : Nat} (ht : TakesNow s o) (hn : n < 1024)
include ht hn

theorem does_create (he : s.noEntry = false) (hr : s.createReason n = none) : Does (.create o n) s fun t =>
    t.ten = { s.ten with filling := some (opOf o (0x3000 + n) 9 1) } ∧ Keeps s t [.ten] :=
  does_tenCommand ht hn rfl (by decide) (State.runCommand_create (s := s.fresh) rfl he hr) filling_begins

theorem does_create_refused (he : s.noEntry = false) (hr : (s.createReason n).isSome = true) :
    Does (.create o n) s fun t =>
      t.ten = { s.ten with refused := s.ten.refused ++ [{ caller := callerOf o, status := stRefused }] } ∧
        Keeps s t [.ten] := by
  obtain ⟨r, hr⟩ := Option.isSome_iff_exists.1 hr
  exact does_tenCommand ht hn rfl (by decide) (State.runCommand_create_refused (s := s.fresh) rfl he hr) refusal_joins

theorem does_resize (hr : s.resizeReason n = none) : Does (.resize o n) s fun t =>
    t.ten = { s.ten with filling := some (opOf o (0x3000 + n) 9 2) } ∧ Keeps s t [.ten] :=
  does_tenCommand ht hn rfl (by decide) (State.runCommand_resize (s := s.fresh) rfl hr) filling_begins

theorem does_fence (hst : (s.tenancy n).st = 1) :
    Does (.fence o n) s fun t => Changes s t o n 9 3 { s.tenancy n with st := 2 } 1 :=
  does_tenCommand ht hn rfl (by decide) (State.runCommand_fence (s := s.fresh) rfl hst)
    (changes_changeEntry (r := row 0x09 .u8 .woHostRack 0 1 6 .reset) ht hn _ rfl).settle

theorem does_fence_refused (hst : (s.tenancy n).st ≠ 1) : Does (.fence o n) s fun t =>
    t.ten = { s.ten with refused := s.ten.refused ++ [{ caller := callerOf o, status := stRefused }] } ∧
      Keeps s t [.ten] :=
  does_tenCommand ht hn rfl (by decide) (State.runCommand_fence_refused (s := s.fresh) rfl hst) refusal_joins

theorem does_unfence (hst : (s.tenancy n).st = 2) :
    Does (.unfence o n) s fun t => Changes s t o n 9 4 { s.tenancy n with st := 1 } 1 :=
  does_tenCommand ht hn rfl (by decide) (State.runCommand_unfence (s := s.fresh) rfl hst)
    (changes_changeEntry (r := row 0x09 .u8 .woHostRack 0 1 6 .reset) ht hn _ rfl).settle

theorem does_rekey (hf : s.noTransit = false) (hr : s.rekeyReason n = none) : Does (.rekey o n) s fun t =>
    t.tenancy n = { s.tenancy n with watermark := (s.tenancy n).base * driftBytes } ∧
    t.keySlot (1024 + (s.tenancy n).transit) =
      { s.keySlot (1024 + (s.tenancy n).transit) with st := 4, ten := n } ∧
    OnlyTenancy s t n (1024 + (s.tenancy n).transit) ∧ SaysWrite s t o stOk 1 ∧ Keeps s t [.ten, .bus, .out] := by
  set k := 1024 + (s.tenancy n).transit with hk
  set u := (s.fresh.setKey k { s.keySlot k with st := 4, ten := n }).setTen n
    { s.tenancy n with watermark := (s.tenancy n).base * driftBytes } with hu
  have slot (j : Nat) : u.keySlot j = (s.fresh.setKey k { s.keySlot k with st := 4, ten := n }).keySlot j := rfl
  obtain ⟨answered, keeps, hten⟩ := opOk_answers (u := u) (v := 6) (l := [.ten]) ht
    (keeps_setTenancies (keeps_setTenancies (Keeps.fresh s _) (by simp) _) (by simp) _) (by simp)
    (State.sizeOf_ten (r := row 0x09 .u8 .woHostRack 0 1 6 .reset) u hn rfl)
  refine does_tenCommand ht hn rfl (by decide) (State.runCommand_rekey (s := s.fresh) rfl hf hr)
    ⟨?_, ?_, onlyTenancy_of_ten ((settle_ten _).trans hten) ⟨?_, ?_, ?_⟩, saysWrite_settle answered,
      Keeps.settle keeps⟩
  · exact (tenancy_of_ten ((settle_ten _).trans hten) n).trans (State.tenancy_setTen_same ..)
  · exact (keySlot_of_ten ((settle_ten _).trans hten) k).trans ((slot k).trans (State.keySlot_setKey_same ..))
  · exact fun m hm => State.tenancy_setTen_ne _ _ hm
  · exact fun j hj => (slot j).trans (State.keySlot_setKey_ne _ _ hj)
  · rfl

end

/-- Settles O31: each command and each field by its row of Table 03.5, an entry changed at once or filled, and answered. -/
theorem tenancyCommandsFollowTheirTable : Obligations.TenancyCommandsFollowTheirTable := by
  intro s o n v ht hn
  refine ⟨does_create ht hn, does_create_refused ht hn, does_resize ht hn, does_fence ht hn, does_fence_refused ht hn,
    does_unfence ht hn, fun hst => ?_, does_rekey ht hn, fun hst hv => ⟨?_, ?_⟩, fun hv hst => ?_,
    fun hst => ⟨fun hv hb => ?_, fun hv hb => ?_, fun hv hcap hb => ?_⟩, fun hv => ?_⟩
  · exact does_tenCommand ht hn rfl (by decide) (State.runCommand_retire (s := s.fresh) rfl hst)
      (settle_beginRetire s n (callerOf o))
  · exact does_tenField (r := row 0x02 .u32 .hostRackOwn 0 0 134217727 .ledger) ht hn rfl (by decide) (.inr (.inl rfl))
      (.inr (.inl rfl)) (show v < 2 ^ 32 by omega) (show (0 : Int) ≤ v by omega) (show (v : Int) ≤ 134217727 by omega)
      nofun (by decide) ((State.runField_free (s := s.fresh) hst).1 rfl) (becomes_setTen ht hn _ rfl).settle
  · exact does_tenField (r := row 0x03 .u32 .hostRackOwn 0 0 134217728 .ledger) ht hn rfl (by decide) (.inr (.inl rfl))
      (.inr (.inl rfl)) (show v < 2 ^ 32 by omega) (show (0 : Int) ≤ v by omega) (show (v : Int) ≤ 134217728 by omega)
      nofun (by decide) ((State.runField_free (s := s.fresh) hst).2.1 rfl) (becomes_setTen ht hn _ rfl).settle
  · exact does_tenField (r := row 0x04 .u8 .hostRackOwn 0 0 2 .ledger) ht hn rfl (by decide) (.inr (.inl rfl))
      (.inl rfl) (show v < 2 ^ 8 by omega) (show (0 : Int) ≤ v by omega) (show (v : Int) ≤ 2 by omega)
      nofun (by decide) ((State.runField_free (s := s.fresh) hst).2.2 rfl) (becomes_setTen ht hn _ rfl).settle
  · exact does_tenField (r := row 0x06 .u32 .hostRack 0xAAAAAAAA 0 0xFFFFFFFF .ledger) ht hn rfl (by decide) (.inl rfl)
      (.inr (.inl rfl)) hv (show (0 : Int) ≤ v by omega) (show (v : Int) ≤ 0xFFFFFFFF by omega)
      nofun (by decide) (State.runField_cls (s := s.fresh) rfl hst hb) (changes_changeEntry ht hn _ rfl).cdatChanged.settle
  · exact does_tenField (r := row 0x07 .u32 .hostRack 0 0 0xFFFFFFFF .ledger) ht hn rfl (by decide) (.inl rfl)
      (.inr (.inl rfl)) hv (show (0 : Int) ≤ v by omega) (show (v : Int) ≤ 0xFFFFFFFF by omega)
      nofun (by decide) (State.runField_rights (s := s.fresh) rfl hst hb) (changes_changeEntry ht hn _ rfl).cdatChanged.settle
  · exact does_tenField (r := row 0x08 .u64 .hostRackOwn 0 0 (2 ^ 64 - 1) .ledger) ht hn rfl (by decide) (.inr (.inl rfl))
      (.inr (.inr rfl)) hv (show (0 : Int) ≤ v by omega) (show (v : Int) ≤ 2 ^ 64 - 1 by omega)
      (fun _ => hcap) (by decide) (State.runField_share (s := s.fresh) rfl hst hb) (changes_changeEntry ht hn _ rfl).settle
  · exact does_tenField (r := row 0x0A .u8 .hostRack 0 0 63 .ledger) ht hn rfl (by decide) (.inl rfl)
      (.inl rfl) (show v < 2 ^ 8 by omega) (show (0 : Int) ≤ v by omega) (show (v : Int) ≤ 63 by omega)
      nofun (by decide) (State.runField_transit (s := s.fresh) rfl) (becomes_setTen ht hn _ rfl).settle

end Sys2Proof.Machine
end

section
/-! PROOFS. Trims (03 R69 to R71, 07 Table 07.2): what the trim of a range leaves of the firn states, and what it leaves
unchanged. -/
namespace Sys2Proof.Machine

open Sys2Proof.Safety

/-- From s, flakes have become TRIMMED at most; tenancies, keys, objects and program sequences are as they were. -/
structure Trims (s t : State) : Prop where
  firn : ∀ m, t.firn m = s.firn m ∨ t.firn m = fTrimmed
  progSeq : ∀ d, (t.die d).progSeq = (s.die d).progSeq
  keeps : Keeps s t [.dram, .shadow, .hosts, .freeze, .out]

theorem Trims.refl (s : State) : Trims s s := ⟨fun _ => .inl rfl, fun _ => rfl, Keeps.mono (Keeps.refl s) (by simp)⟩

theorem Trims.trans {s t u : State} (h : Trims s t) (h' : Trims t u) : Trims s u := by
  refine ⟨fun m => ?_, fun d => (h'.progSeq d).trans (h.progSeq d), Keeps.trans h.keeps h'.keeps⟩
  rcases h'.firn m with hm | hm
  · rw [hm]; exact h.firn m
  · exact .inr hm

/-- What is TRIMMED stays so. -/
theorem Trims.trimmed {s t : State} (h : Trims s t) {m : Nat} (hm : s.firn m = fTrimmed) : t.firn m = fTrimmed := by
  rcases h.firn m with h | h
  · rw [h, hm]
  · exact h

theorem Trims.ten {s t : State} (h : Trims s t) : t.ten = s.ten := h.keeps .ten (by simp)

theorem Trims.foldl {α : Type} {f : State → α → State} (hf : ∀ t a, Trims t (f t a)) (l : List α) (t : State) :
    Trims t (l.foldl f t) := by
  induction l generalizing t with
  | nil => exact Trims.refl t
  | cons a l ih => exact (hf t a).trans (ih _)

theorem keeps_setShadow {s t : State} {l : List Part} (h : Keeps s t l) (hl : Part.shadow ∈ l) (x : Shadow) :
    Keeps s { t with shadow := x } l := by
  intro p hp
  have hk := h p hp
  cases p with
  | shadow => exact absurd hl hp
  | _ => exact hk

theorem keeps_setFreeze {s t : State} {l : List Part} (h : Keeps s t l) (hl : Part.freeze ∈ l) (x : Freeze) :
    Keeps s { t with freeze := x } l := by
  intro p hp
  have hk := h p hp
  cases p with
  | freeze => exact absurd hl hp
  | _ => exact hk

theorem trims_setShadow (s : State) {x : Shadow} (hf : x.firn = s.shadow.firn) (hd : x.dies = s.shadow.dies) :
    Trims s { s with shadow := x } := by
  refine ⟨fun m => .inl ?_, fun d => ?_, keeps_setShadow (Trims.refl s).keeps (by simp) x⟩
  · rw [State.firn, State.firn, hf]
  · rw [State.die, State.die, hd]

theorem trims_setDie (s : State) {d : Nat} {x : DieShadow} (hx : x.progSeq = (s.die d).progSeq) :
    Trims s (s.setDie d x) := by
  refine ⟨fun m => .inl rfl, fun e => ?_, keeps_setShadow (Trims.refl s).keeps (by simp) _⟩
  rw [State.die_setDie]
  split
  · next h => rw [hx, h]
  · rfl

theorem trims_setHosts (s : State) (x : Hosts) : Trims s { s with hosts := x } :=
  ⟨fun _ => .inl rfl, fun _ => rfl, keeps_setHosts (Trims.refl s).keeps (by simp) x⟩

theorem State.firn_setFirn_same (s : State) (m c : Nat) : (s.setFirn m c).firn m = c := look_put_same ..

theorem State.firn_setFirn_ne (s : State) {m k : Nat} (c : Nat) (h : k ≠ m) : (s.setFirn m c).firn k = s.firn k :=
  look_put_ne _ _ _ h

theorem trims_setFirn (s : State) (m : Nat) : Trims s (s.setFirn m fTrimmed) := by
  refine ⟨fun k => ?_, fun _ => rfl, keeps_setShadow (Trims.refl s).keeps (by simp) _⟩
  by_cases h : k = m
  · subst h; exact .inr (s.firn_setFirn_same k _)
  · exact .inl (s.firn_setFirn_ne _ h)

theorem trims_releaseFlake (s : State) (m : Nat) (k : Option Nat) : Trims s (s.releaseFlake m k) := by
  unfold State.releaseFlake
  repeat' split
  · exact trims_setDie s rfl
  · exact Trims.refl s
  · exact Trims.refl s

theorem trims_setFmap (s : State) (m a : Nat) : Trims s (s.setFmap m a) := by
  refine Trims.trans ?_ (trims_setShadow _ rfl rfl)
  unfold State.stalePage
  repeat' split
  · exact Trims.refl s
  · exact Trims.refl s
  · exact trims_setDie s rfl

theorem trims_poisonFull (s : State) : Trims s s.poisonFull := by
  refine ⟨fun m => .inl ?_, fun d => ?_,
    keeps_report (keeps_setHosts (Trims.refl s).keeps (by simp) _) (by decide) _ _ _ _⟩
  · rw [State.firn, State.poisonFull, State.report_shadow]; rfl
  · rw [State.die, State.poisonFull, State.report_shadow]; rfl

theorem trims_dropPoisonRange (s : State) (a b : Nat) : Trims s (s.dropPoisonRange a b) := by
  refine Trims.foldl (fun t d => ?_) _ s
  unfold State.dropOn
  dsimp only
  split
  · exact (trims_setHosts t _).trans (trims_poisonFull _)
  · exact trims_setHosts t _

theorem trims_desummarise (s : State) (m : Nat) : Trims s (s.desummarise m) := by
  unfold State.desummarise
  dsimp only
  split
  · exact Trims.refl s
  · exact trims_setShadow s rfl rfl

theorem trims_unpoisonNote (s : State) (m : Nat) : Trims s (s.unpoisonNote m) :=
  ⟨fun _ => .inl rfl, fun _ => rfl, keeps_setFreeze (Trims.refl s).keeps (by simp) _⟩

/-- The trim of a flake, after its firn state is written, is a trim of nothing else. -/
theorem State.trimFlake_after (s : State) (m : Nat) (k : Option Nat) :
    Trims ((s.releaseFlake m k).setFirn m fTrimmed) (s.trimFlake m k) := by
  unfold State.trimFlake
  dsimp only
  refine Trims.trans ?_ (trims_desummarise _ _)
  refine Trims.trans ?_ (trims_dropPoisonRange _ _ _)
  refine Trims.trans ?_ (trims_setShadow _ rfl rfl)
  refine Trims.trans ?_ (trims_unpoisonNote _ _)
  exact (trims_setFmap _ m 0).trans (trims_setDie _ rfl)

theorem trims_trimFlake (s : State) (m : Nat) (k : Option Nat) : Trims s (s.trimFlake m k) :=
  ((trims_releaseFlake s m k).trans (trims_setFirn _ m)).trans (s.trimFlake_after m k)

theorem State.firn_trimFlake (s : State) (m : Nat) (k : Option Nat) : (s.trimFlake m k).firn m = fTrimmed :=
  (s.trimFlake_after m k).trimmed (State.firn_setFirn_same ..)

theorem trims_trimRange (s : State) (a b : Nat) (k : Option Nat) : Trims s (s.trimRange a b k) :=
  Trims.foldl (fun t m => trims_trimFlake t m k) _ s

theorem State.firn_foldl_trimFlake (k : Option Nat) {l : List Nat} {m : Nat} (hm : m ∈ l) (s : State) :
    (l.foldl (fun t m => t.trimFlake m k) s).firn m = fTrimmed := by
  induction l generalizing s with
  | nil => cases hm
  | cons a l ih =>
    rcases List.mem_cons.1 hm with rfl | hm
    · exact (Trims.foldl (fun t m => trims_trimFlake t m k) l _).trimmed (s.firn_trimFlake m k)
    · exact ih hm _

/-- A key that is not listed has no entry. -/
theorem look?_eq_none {α : Type} {m : Sparse α} {a : Nat} (h : a ∉ m.map (·.1)) : look? m a = none := by
  induction m with
  | nil => rfl
  | cons e m ih =>
    rw [List.map_cons, List.mem_cons, not_or] at h
    rw [look?, if_neg h.1, ih h.2]

/-- Every flake of a trimmed range of drifts is TRIMMED (03 R69 to R71). -/
theorem State.firn_trimRange (s : State) {a b m : Nat} (k : Option Nat) (ha : 128 * a ≤ m) (hb : m < 128 * b) :
    (s.trimRange a b k).firn m = fTrimmed := by
  by_cases hm : m ∈ s.listedIn a b
  · exact State.firn_foldl_trimFlake k hm s
  · refine (trims_trimRange s a b k).trimmed ?_
    have unlisted : look? s.shadow.firn m = none := look?_eq_none fun h => hm <| by
      rw [State.listedIn, List.mem_filter]
      exact ⟨h, by simp [ha, hb]⟩
    rw [State.firn, look, unlisted]; rfl

/-- The program sequences of the dies after a trim. -/
theorem Trims.progSeqs {s t : State} (h : Trims s t) : t.progSeqs = s.progSeqs := by
  have build : t.build = s.build := h.keeps .build (by simp)
  simp only [State.progSeqs, State.dieList, State.n, build, h.progSeq]

end Sys2Proof.Machine
end

section
/-! PROOFS. Zero fills and the trim of a RETIRE complete (03 R69 to R71): the tenancy's entry, its key slot and the firn
states of the ranges that join or leave it. -/
namespace Sys2Proof.Machine

open Sys2Proof.Safety

/-! The answer to a write that waited: on its path, whichever it is. -/

theorem keeps_setWire {s t : State} {l : List Part} (h : Keeps s t l) (hl : Part.wire ∈ l) (x : Wire) :
    Keeps s { t with wire := x } l := by
  intro p hp
  have hk := h p hp
  cases p with
  | wire => exact absurd hl hp
  | _ => exact hk

theorem keeps_setDram {s t : State} {l : List Part} (h : Keeps s t l) (hl : Part.dram ∈ l) (x : Dram) :
    Keeps s { t with dram := x } l := by
  intro p hp
  have hk := h p hp
  cases p with
  | dram => exact absurd hl hp
  | _ => exact hk

/-- An answer changes the path that it goes by, and nothing else. -/
theorem keeps_answerWrite {s t : State} {l : List Part} (h : Keeps s t l) (hb : Part.bus ∈ l) (hw : Part.wire ∈ l)
    (ho : Part.out ∈ l) (c : Caller) (st len ol : Nat) : Keeps s (t.answerWrite c true st len ol) l := by
  unfold State.answerWrite
  split
  · split
    · exact h
    · exact keeps_emit h ho _
  · rw [if_pos rfl]; exact keeps_slotFrame h hb _
  · split
    · exact keeps_setWire h hw _
    · exact keeps_emit h ho _

theorem keeps_opOk {s t : State} {l : List Part} (h : Keeps s t l) (hb : Part.bus ∈ l) (hw : Part.wire ∈ l)
    (ho : Part.out ∈ l) (op : TenOp) : Keeps s (t.opOk op) l := keeps_answerWrite h hb hw ho _ _ _ _

section
variable (s : State) (c : Caller) (st len ol : Nat)

theorem State.answerWrite_frame :
    Keeps s (s.answerWrite c true st len ol) [.bus, .wire, .out] :=
  keeps_answerWrite (Keeps.mono (Keeps.refl s) (by simp)) (by simp) (by simp) (by simp) _ _ _ _

@[simp] theorem State.answerWrite_ten : (s.answerWrite c true st len ol).ten = s.ten :=
  s.answerWrite_frame c st len ol .ten (by simp)

@[simp] theorem State.opOk_ten (op : TenOp) : (s.opOk op).ten = s.ten := State.answerWrite_ten ..

theorem State.opOk_frame (op : TenOp) : Keeps s (s.opOk op) [.bus, .wire, .out] := s.answerWrite_frame _ _ _ _

theorem State.firn_opOk (op : TenOp) (m : Nat) : (s.opOk op).firn m = s.firn m := by
  rw [State.firn, Keeps.shadow_eq (s.opOk_frame op) (by simp)]; rfl

end

@[simp] theorem State.firn_settle (s : State) (m : Nat) : (settle s).firn m = s.firn m := by
  rw [State.firn, settle_shadow]; rfl

@[simp] theorem State.firn_report (s : State) (d c v w : Nat) (a : List Nat) (m : Nat) :
    (s.report d c v w a).firn m = s.firn m := by
  rw [State.firn, State.report_shadow]; rfl

theorem State.zeroRange_ten (s : State) (a b : Nat) : (s.zeroRange a b).ten = s.ten := rfl

theorem State.firn_zeroRange (s : State) (a b m : Nat) : (s.zeroRange a b).firn m = s.firn m := rfl

theorem State.firn_setTen (s : State) (n : Nat) (x : Tenancy) (m : Nat) : (s.setTen n x).firn m = s.firn m := rfl

/-- Where no operation waits, none begins. -/
theorem State.takeWaiting_none {s : State} (h : s.ten.waiting = []) : s.takeWaiting s.ten.waiting.length = s := by
  rw [h]; rfl

/-- The entries of a tenancy table into which one entry has been written. -/
theorem tenancy_of_table {t : State} {l : Sparse Tenancy} {n : Nat} {y : Tenancy} (h : t.ten.table = put noTen l n y) :
    t.tenancy n = y ∧ ∀ m, m ≠ n → t.tenancy m = look noTen l m := by
  refine ⟨?_, fun m hm => ?_⟩
  · rw [State.tenancy, h, look_put_same]
  · rw [State.tenancy, h, look_put_ne _ _ _ hm]

/-- The slots of a key table into which one slot has been written. -/
theorem keySlot_of_keys {t : State} {l : Sparse KeySlot} {k : Nat} {x : KeySlot} (h : t.ten.keys = put noKey l k x) :
    t.keySlot k = x ∧ ∀ j, j ≠ k → t.keySlot j = look noKey l j := by
  refine ⟨?_, fun j hj => ?_⟩
  · rw [State.keySlot, h, look_put_same]
  · rw [State.keySlot, h, look_put_ne _ _ _ hj]

/-! CREATE. -/

/-- A zero fill of a CREATE whose quadrants are awake ends. -/
theorem State.finishFill_create {s : State} {op : TenOp} (hop : s.ten.filling = some op) (hv : op.value = 1)
    (hsl : s.fillSleeps = false) :
    let u := { s with ten := { s.ten with filling := none } }.finishCreate op
    s.finishFill = u.takeWaiting u.ten.waiting.length := by
  simp only [State.finishFill, hop, hsl, hv]
  simp

/-- What the zero fill of a CREATE leaves (03 Table 03.5). -/
theorem State.finishCreate_result (s : State) {op : TenOp} {n : Nat} (hidx : op.idx = 0x3000 + n) :
    (s.finishCreate op).ten = { s.ten with
      table := put noTen s.ten.table n { s.tenancy n with st := 1, created := s.progSeqs }
      keys := put noKey s.ten.keys n { s.keySlot n with st := 2 } } ∧
    (∀ m, 128 * (s.tenancy n).base ≤ m → m < 128 * (s.tenancy n).limit → (s.finishCreate op).firn m = fTrimmed) ∧
    Keeps s (s.finishCreate op) [.ten, .dram, .shadow, .hosts, .freeze, .bus, .wire, .out] := by
  have trims := trims_trimRange s (s.tenancy n).base (s.tenancy n).limit none
  unfold State.finishCreate
  rw [hidx, Nat.add_sub_cancel_left]
  dsimp only
  refine ⟨?_, fun m ha hb => ?_, ?_⟩
  · rw [State.cdatChanged, State.report_ten, State.opOk_ten]
    simp only [State.zeroRange, State.setTen, State.setKey, State.keySlot, trims.ten, trims.progSeqs]
  · rw [State.cdatChanged, State.firn_report, State.firn_opOk]
    exact State.firn_trimRange s none ha hb
  · refine keeps_report (keeps_opOk ?_ (by simp) (by simp) (by simp) _) (by decide) _ _ _ _
    refine keeps_setDram (keeps_setTenancies (keeps_setTenancies (Keeps.mono trims.keeps ?_) (by simp) _) (by simp) _)
      (by simp) _
    simp

theorem does_fillCreate {s : State} {n : Nat} {op : TenOp} (hon : s.aon.on = true) (hw : s.ten.waiting = [])
    (hop : s.ten.filling = some op) (hidx : op.idx = 0x3000 + n) (hv : op.value = 1) (hsl : s.fillSleeps = false) :
    Does .zeroFillComplete s fun t =>
      t.tenancy n = { s.tenancy n with st := 1, created := s.progSeqs } ∧ t.keySlot n = { s.keySlot n with st := 2 } ∧
      (∀ m, m ≠ n → t.tenancy m = s.tenancy m) ∧
      (∀ m, 128 * (s.tenancy n).base ≤ m → m < 128 * (s.tenancy n).limit → t.firn m = fTrimmed) ∧
      t.ten.filling = none ∧ Keeps s t [.ten, .dram, .shadow, .hosts, .freeze, .bus, .wire, .out] := by
  set u : State := { s.fresh with ten := { s.ten with filling := none } } with hu
  obtain ⟨hten, hfirn, hkeeps⟩ := u.finishCreate_result hidx
  have waiting : (u.finishCreate op).ten.waiting = [] := by rw [hten]; exact hw
  refine does_of_effect hon rfl ((State.finishFill_create (s := s.fresh) hop hv hsl).trans
    (State.takeWaiting_none waiting)) ?_
  obtain ⟨hy, hothers⟩ := tenancy_of_table (t := settle (u.finishCreate op)) (by rw [settle_ten, hten])
  obtain ⟨hk, -⟩ := keySlot_of_keys (t := settle (u.finishCreate op)) (by rw [settle_ten, hten])
  refine ⟨hy, hk, hothers, fun m ha hb => ?_, ?_, Keeps.settle ?_⟩
  · rw [State.firn_settle]; exact hfirn m ha hb
  · exact congrArg (·.filling) ((settle_ten _).trans hten)
  · exact Keeps.trans (keeps_setTenancies (Keeps.fresh s _) (by simp) _) hkeeps

/-! RESIZE. -/

/-- What every step of a fold leaves, the fold leaves. -/
theorem foldl_leaves {α β : Type} {f : State → α → State} {p : State → β} (hf : ∀ t a, p (f t a) = p t)
    (l : List α) (s : State) : p (l.foldl f s) = p s := by
  induction l generalizing s with
  | nil => rfl
  | cons a l ih => exact (ih _).trans (hf s a)

/-- The answers to writes that write-through withheld leave the tenancies and the firn states (07 R180). -/
theorem State.settleThrough_responds (s : State) : ∃ through,
    Responds { s with shadow := { s.shadow with through := through } } s.settleThrough :=
  ⟨_, Responds.foldl responds_respCmp _ _⟩

theorem State.ckptSettle_ten (s : State) (n : Nat) : (s.ckptSettle n).ten = s.ten := by
  unfold State.ckptSettle; dsimp only; split <;> rfl

theorem State.ckptSettle_firn (s : State) (n : Nat) : (s.ckptSettle n).shadow.firn = s.shadow.firn := by
  unfold State.ckptSettle; dsimp only; split <;> rfl

theorem State.snowGone_ten (s : State) : s.snowGone.ten = s.ten := by
  obtain ⟨through, responds⟩ := s.settleThrough_responds
  have settled : s.settleThrough.ten = s.ten := responds.keeps .ten (by simp)
  rw [State.snowGone, ← settled]
  exact foldl_leaves (p := fun t : State => t.ten) (fun _ _ => State.ckptSettle_ten _ _) _ _

theorem State.snowGone_firn (s : State) : s.snowGone.shadow.firn = s.shadow.firn := by
  obtain ⟨through, responds⟩ := s.settleThrough_responds
  have settled : s.settleThrough.shadow.firn = s.shadow.firn := by
    rw [Keeps.shadow_eq responds.keeps (by simp)]
  rw [State.snowGone, ← settled]
  exact foldl_leaves (p := fun t : State => t.shadow.firn) (fun _ _ => State.ckptSettle_firn _ _) _ _

theorem State.firn_snowGone (s : State) (m : Nat) : s.snowGone.firn m = s.firn m := by
  rw [State.firn, s.snowGone_firn]; rfl

/-- The four ranges of drifts that a RESIZE trims: those that leave below and above, those that join (03 R70). -/
def State.resizeTrims (s : State) (n : Nat) : State :=
  let t := s.tenancy n
  (((s.trimRange t.base (min t.limit t.newBase) (some n)).trimRange (max t.base t.newLimit) t.limit (some n)).trimRange
    t.newBase (min t.newLimit t.base) none).trimRange (max t.newBase t.limit) t.newLimit none

theorem trims_resizeTrims (s : State) (n : Nat) : Trims s (s.resizeTrims n) :=
  (((trims_trimRange _ _ _ _).trans (trims_trimRange _ _ _ _)).trans (trims_trimRange _ _ _ _)).trans
    (trims_trimRange _ _ _ _)

/-- Every flake of the drifts from a to below b is TRIMMED. -/
def RangeTrimmed (t : State) (a b : Nat) : Prop := ∀ m, 128 * a ≤ m → m < 128 * b → t.firn m = fTrimmed

theorem RangeTrimmed.of_trims {t u : State} {a b : Nat} (h : RangeTrimmed t a b) (hu : Trims t u) :
    RangeTrimmed u a b := fun m ha hb => hu.trimmed (h m ha hb)

theorem rangeTrimmed_trimRange (s : State) (a b : Nat) (k : Option Nat) : RangeTrimmed (s.trimRange a b k) a b :=
  fun _ ha hb => s.firn_trimRange k ha hb

theorem RangeTrimmed.of_firn {t u : State} {a b : Nat} (h : RangeTrimmed t a b) (hf : ∀ m, u.firn m = t.firn m) :
    RangeTrimmed u a b := fun m ha hb => (hf m).trans (h m ha hb)

/-- After a RESIZE's trims all four ranges are TRIMMED. -/
theorem rangeTrimmed_resizeTrims (s : State) (n : Nat) :
    RangeTrimmed (s.resizeTrims n) (s.tenancy n).base (min (s.tenancy n).limit (s.tenancy n).newBase) ∧
    RangeTrimmed (s.resizeTrims n) (max (s.tenancy n).base (s.tenancy n).newLimit) (s.tenancy n).limit ∧
    RangeTrimmed (s.resizeTrims n) (s.tenancy n).newBase (min (s.tenancy n).newLimit (s.tenancy n).base) ∧
    RangeTrimmed (s.resizeTrims n) (max (s.tenancy n).newBase (s.tenancy n).limit) (s.tenancy n).newLimit :=
  ⟨(((rangeTrimmed_trimRange _ _ _ _).of_trims (trims_trimRange _ _ _ _)).of_trims (trims_trimRange _ _ _ _)).of_trims
      (trims_trimRange _ _ _ _),
    ((rangeTrimmed_trimRange _ _ _ _).of_trims (trims_trimRange _ _ _ _)).of_trims (trims_trimRange _ _ _ _),
    (rangeTrimmed_trimRange _ _ _ _).of_trims (trims_trimRange _ _ _ _), rangeTrimmed_trimRange _ _ _ _⟩

/-- What the zero fill of a RESIZE leaves (03 Table 03.5). -/
theorem State.finishResize_result (s : State) {op : TenOp} {n : Nat} (hidx : op.idx = 0x3000 + n) :
    (s.finishResize op).ten = { s.ten with
      table := put noTen s.ten.table n { s.tenancy n with
        base := (s.tenancy n).newBase, limit := (s.tenancy n).newLimit, created := s.progSeqs } } ∧
    ∀ m, (s.finishResize op).firn m = (s.resizeTrims n).firn m := by
  have trims := trims_resizeTrims s n
  unfold State.finishResize
  rw [hidx, Nat.add_sub_cancel_left]
  dsimp only
  refine ⟨?_, fun m => ?_⟩
  · rw [State.cdatChanged, State.report_ten, State.opOk_ten, State.zeroRange_ten, State.zeroRange_ten,
      State.snowGone_ten]
    show ((s.resizeTrims n).setTen n { s.tenancy n with
      base := (s.tenancy n).newBase, limit := (s.tenancy n).newLimit, created := (s.resizeTrims n).progSeqs }).ten = _
    rw [State.setTen, trims.ten, trims.progSeqs]
  · rw [State.cdatChanged, State.firn_report, State.firn_opOk, State.firn_zeroRange, State.firn_zeroRange,
      State.firn_snowGone, State.firn_setTen]
    rfl

/-- A zero fill of a RESIZE ends where its quadrants are awake, no flake that leaves is RESTORING, and no access to a
drift that leaves is under way. -/
theorem State.finishFill_resize {s : State} {op : TenOp} (hop : s.ten.filling = some op) (hv : op.value = 2)
    (hr : ∀ m, s.firn m ≠ fRestoring) (hl : s.leavers op = false) (hsl : s.fillSleeps = false) :
    let u := { s with ten := { s.ten with filling := none } }.finishResize op
    s.finishFill = u.takeWaiting u.ten.waiting.length := by
  simp only [State.finishFill, hop, hsl, hv, hl, hr]
  simp

theorem does_fillResize {s : State} {n : Nat} {op : TenOp} (hon : s.aon.on = true) (hw : s.ten.waiting = [])
    (hop : s.ten.filling = some op) (hidx : op.idx = 0x3000 + n) (hv : op.value = 2)
    (hr : ∀ m, s.firn m ≠ fRestoring) (hl : s.leavers op = false) (hsl : s.fillSleeps = false) :
    Does .zeroFillComplete s fun t =>
      t.tenancy n = { s.tenancy n with
        base := (s.tenancy n).newBase, limit := (s.tenancy n).newLimit, created := s.progSeqs } ∧
      (∀ m, m ≠ n → t.tenancy m = s.tenancy m) ∧
      RangeTrimmed t (s.tenancy n).base (min (s.tenancy n).limit (s.tenancy n).newBase) ∧
      RangeTrimmed t (max (s.tenancy n).base (s.tenancy n).newLimit) (s.tenancy n).limit ∧
      RangeTrimmed t (s.tenancy n).newBase (min (s.tenancy n).newLimit (s.tenancy n).base) ∧
      RangeTrimmed t (max (s.tenancy n).newBase (s.tenancy n).limit) (s.tenancy n).newLimit ∧ t.ten.filling = none := by
  set u : State := { s.fresh with ten := { s.ten with filling := none } } with hu
  obtain ⟨hten, hfirn⟩ := u.finishResize_result hidx
  have waiting : (u.finishResize op).ten.waiting = [] := by rw [hten]; exact hw
  obtain ⟨below, above, joinsBelow, joinsAbove⟩ := rangeTrimmed_resizeTrims u n
  have firn (m : Nat) : (settle (u.finishResize op)).firn m = (u.resizeTrims n).firn m :=
    (State.firn_settle ..).trans (hfirn m)
  obtain ⟨hy, hothers⟩ := tenancy_of_table (t := settle (u.finishResize op)) (by rw [settle_ten, hten])
  exact does_of_effect hon rfl ((State.finishFill_resize (s := s.fresh) hop hv hr hl hsl).trans
    (State.takeWaiting_none waiting)) ⟨hy, hothers, below.of_firn firn, above.of_firn firn, joinsBelow.of_firn firn,
      joinsAbove.of_firn firn, congrArg (·.filling) ((settle_ten _).trans hten)⟩

/-! The trim of a RETIRE. -/

theorem does_retireTrimEnd {s : State} {n : Nat} (hon : s.aon.on = true) (hst : (s.tenancy n).st = 3)
    (hrun : s.hosts.stopped = false) (hret : ∀ e ∈ s.ten.retiring, e.ten ≠ n)
    (hfirn : ∀ e ∈ s.shadow.firn, s.firn e.1 ≠ fRestoring) : Does (.retireTrimEnd n) s fun t =>
      t.tenancy n = noTen ∧ (∀ m, m ≠ n → t.tenancy m = s.tenancy m) ∧
      RangeTrimmed t (s.tenancy n).base (s.tenancy n).limit ∧ t.ten.keys = s.ten.keys := by
  have idle : ((s.fresh.listedIn (s.tenancy n).base (s.tenancy n).limit).any fun m =>
      decide (s.fresh.firn m = fRestoring)) = false := by
    refine List.any_eq_false.2 fun m hm => ?_
    obtain ⟨hlisted, -⟩ := List.mem_filter.1 hm
    obtain ⟨e, he, rfl⟩ := List.mem_map.1 hlisted
    exact decide_eq_false (hfirn e he) ▸ Bool.false_ne_true
  have drained : (s.fresh.ten.retiring.any fun e => decide (e.ten = n)) = false :=
    List.any_eq_false.2 fun e he => by simpa using hret e he
  set u := (s.fresh.trimRange (s.tenancy n).base (s.tenancy n).limit (some n)).setTen n noTen with hu
  have effect : s.fresh.endTrim n =
      (u.snowGone.setReg (ixPer 0x5818 n) (subPer n) 0).setReg (ixPer 0x5820 n) (subPer n) 0 :=
    if_pos ⟨hst, hrun, drained, idle⟩
  have trims := trims_trimRange s.fresh (s.tenancy n).base (s.tenancy n).limit (some n)
  have hten : (settle ((u.snowGone.setReg (ixPer 0x5818 n) (subPer n) 0).setReg (ixPer 0x5820 n) (subPer n) 0)).ten =
      { s.ten with table := put noTen s.ten.table n noTen } := by
    rw [settle_ten]
    show u.snowGone.ten = _
    rw [State.snowGone_ten, hu, State.setTen, trims.ten]
    rfl
  have hkept : RangeTrimmed u (s.tenancy n).base (s.tenancy n).limit :=
    rangeTrimmed_trimRange s.fresh _ _ _
  obtain ⟨hy, hothers⟩ := tenancy_of_table (l := s.ten.table) (n := n) (y := noTen) (congrArg (·.table) hten)
  refine does_of_effect hon rfl effect ⟨hy, hothers, hkept.of_firn fun m => ?_, congrArg (·.keys) hten⟩
  rw [State.firn_settle]
  exact u.firn_snowGone m

end Sys2Proof.Machine
end

section
/-! PROOFS. What answers later and what keys do (03 R66, R71, R76, R81): drains, refusals, key loads and zeroisations. -/
namespace Sys2Proof.Machine

open Sys2Proof.Safety

/-! The drain of a RETIRE, and of a changed entry. -/

/-- The slot that rekeys a tenancy is a transit slot. -/
theorem State.transitOf_ge {s : State} {n k : Nat} (h : s.transitOf n = some k) : 1024 ≤ k := by
  obtain ⟨e, he, rfl⟩ := Option.map_eq_some_iff.1 h
  have found := List.find?_some he
  simp at found
  exact found.1.1

/-- A RETIRE's tenancy once its transit slot is zeroised: its home slot is too, and the answer leaves where it has not
gone (03 Table 03.6 step 3). -/
def State.retireDrained (s : State) (n : Nat) (e : Retiring) : State :=
  let s := s.setKey n (s.keySlot n).cleared
  let s := s.setTen n { s.tenancy n with watermark := u64max }
  let s : State := { s with ten := { s.ten with retiring := s.ten.retiring.filter fun x => !decide (x.ten = n) } }
  if e.answered then s else s.answerWrite e.caller true stOk 1 1

theorem State.retireDrained_ten (s : State) (n : Nat) (e : Retiring) :
    (s.retireDrained n e).ten = { s.ten with
      keys := put noKey s.ten.keys n (s.keySlot n).cleared
      table := put noTen s.ten.table n { s.tenancy n with watermark := u64max }
      retiring := s.ten.retiring.filter fun x => !decide (x.ten = n) } := by
  unfold State.retireDrained
  dsimp only
  split <;> simp only [State.setKey, State.setTen, State.tenancy, State.answerWrite_ten]

theorem State.retireDrained_idle {s : State} (hw : s.ten.waiting = []) (n : Nat) (e : Retiring) :
    (s.retireDrained n e).takeWaiting (s.retireDrained n e).ten.waiting.length = s.retireDrained n e :=
  State.takeWaiting_none (by rw [State.retireDrained_ten]; exact hw)

theorem keeps_retireDrained {s t : State} {l : List Part} (h : Keeps s t l) (hl : [.ten, .bus, .wire, .out] ⊆ l)
    (n : Nat) (e : Retiring) : Keeps s (t.retireDrained n e) l := by
  have hten : Part.ten ∈ l := hl (by simp)
  dsimp only [State.retireDrained, State.setKey, State.setTen]
  split
  · exact keeps_setTenancies h hten _
  · exact keeps_answerWrite (keeps_setTenancies h hten _) (hl (by simp)) (hl (by simp)) (hl (by simp)) _ _ _ _

/-- Where a transit slot rekeys the tenancy, that is zeroised first. -/
theorem State.endDrain_retire {s : State} {n : Nat} {e : Retiring} (hn : n < 1024) (hw : s.ten.waiting = [])
    (he : s.ten.retiring.find? (fun e => decide (e.ten = n)) = some e) :
    ∃ u, u.keySlot n = s.keySlot n ∧ { u.ten with keys := s.ten.keys } = s.ten ∧
      Keeps s u [.ten, .out] ∧ s.endDrain n = u.retireDrained n e := by
  cases ht : s.transitOf n with
  | none =>
    refine ⟨s, rfl, rfl, Keeps.mono (Keeps.refl s) (by simp), ?_⟩
    rw [← State.retireDrained_idle hw n e]
    simp only [State.endDrain, State.retireDrained, he, ht]
  | some k =>
    have other : n ≠ k := by have := State.transitOf_ge ht; omega
    refine ⟨s.setKey k (s.keySlot k).cleared, State.keySlot_setKey_ne _ _ other,
      by simp only [State.setKey], keeps_setTenancies (Keeps.mono (Keeps.refl s) (by simp)) (by simp) _, ?_⟩
    rw [← State.retireDrained_idle (s := s.setKey k (s.keySlot k).cleared) (by simp only [State.setKey, hw]) n e]
    simp only [State.endDrain, State.retireDrained, he, ht]

theorem does_retireDrained {s : State} {n : Nat} {e : Retiring} (hon : s.aon.on = true) (hw : s.ten.waiting = [])
    (hn : n < 1024) (he : s.ten.retiring.find? (fun e => decide (e.ten = n)) = some e) :
    Does (.retireDrainEnd n) s fun t =>
      t.keySlot n = (s.keySlot n).cleared ∧ (∀ r ∈ t.ten.retiring, r.ten ≠ n) ∧
      t.tenancy n = { s.tenancy n with watermark := u64max } ∧ Keeps s t [.ten, .bus, .wire, .out] := by
  obtain ⟨u, hslot, hrest, hkeeps, effect⟩ := State.endDrain_retire (s := s.fresh) hn hw he
  have hten := (settle_ten _).trans (u.retireDrained_ten n e)
  have table : u.ten.table = s.ten.table := congrArg (·.table) hrest
  have same : u.tenancy n = s.tenancy n := by rw [State.tenancy, table]; rfl
  have keys : (settle (u.retireDrained n e)).ten.keys = put noKey u.ten.keys n (u.keySlot n).cleared := by rw [hten]
  refine does_of_effect (f := fun s => s.endDrain n) hon rfl effect ⟨?_, ?_, ?_, Keeps.settle ?_⟩
  · exact (keySlot_of_keys keys).1.trans (congrArg KeySlot.cleared hslot)
  · intro r hr
    rw [hten] at hr
    simpa using (List.mem_filter.1 hr).2
  · exact (tenancy_of_table (congrArg (·.table) hten)).1.trans (by rw [same])
  · exact keeps_retireDrained (Keeps.trans (Keeps.fresh s _) (Keeps.mono hkeeps (by simp))) (by simp) n e

/-- The answer to a mailbox's write leaves by its link. -/
theorem State.answerWrite_mailbox (s : State) (port link st len : Nat) :
    s.answerWrite (callerOf (.mailbox port link)) true st len len = s.emit (.dict port link st len len []) := rfl

theorem State.endDrain_noRetire {s : State} {n : Nat} (h : ∀ e ∈ s.ten.retiring, e.ten ≠ n) :
    s.endDrain n = s.endSettle n := by
  have none_retires : s.ten.retiring.find? (fun e => decide (e.ten = n)) = none :=
    List.find?_eq_none.2 fun e he => by simpa using h e he
  unfold State.endDrain
  rw [none_retires]

/-- A changed entry whose earlier requests are complete answers OK (03 R66; log 163). -/
theorem State.endSettle_answers {s : State} {n : Nat} {y : Settle} (hw : s.ten.waiting = [])
    (hy : s.ten.settling = some y) (hn : y.ten = n) (hu : s.unsettled n y.upTo = []) :
    s.endSettle n = { s with ten := { s.ten with settling := none } }.opOk y.op := by
  unfold State.endSettle
  rw [hy]
  dsimp only
  rw [if_neg (by simp [hn, hu])]
  exact State.takeWaiting_none (by rw [State.opOk_ten]; exact hw)

theorem does_settled {s : State} {n port link : Nat} {y : Settle} (hon : s.aon.on = true) (hw : s.ten.waiting = [])
    (hy : s.ten.settling = some y) (hn : y.ten = n) (hc : y.op.caller = callerOf (.mailbox port link))
    (hret : ∀ e ∈ s.ten.retiring, e.ten ≠ n) (hu : s.unsettled n y.upTo = []) :
    Does (.retireDrainEnd n) s fun t =>
      t.ten = { s.ten with settling := none } ∧ (∃ len, t.out = [.dict port link stOk len len []]) ∧
      Keeps s t [.ten, .out] := by
  have answer (u : State) : ∃ len, u.opOk y.op = u.emit (.dict port link stOk len len []) :=
    ⟨_, by rw [State.opOk, hc]; exact State.answerWrite_mailbox ..⟩
  obtain ⟨len, answered⟩ := answer { s.fresh with ten := { s.ten with settling := none } }
  have effect := (State.endDrain_noRetire (s := s.fresh) hret).trans (State.endSettle_answers (s := s.fresh) hw hy hn hu)
  exact does_of_effect (f := fun s => s.endDrain n) hon rfl (effect.trans answered)
    ⟨settle_ten _, ⟨len, settle_out _⟩,
    Keeps.settle (keeps_emit (keeps_setTenancies (Keeps.fresh s _) (by simp) _) (by simp) _)⟩

/-! Refusals. -/

theorem does_refusalAnswer {s : State} {port link st : Nat} {l : List Refused} (hon : s.aon.on = true)
    (hr : s.ten.refused = { caller := callerOf (.mailbox port link), status := st } :: l) :
    Does .refusalAnswer s fun t =>
      t.ten = { s.ten with refused := l } ∧ t.out = [.dict port link st 0 0 []] ∧ Keeps s t [.ten, .out] := by
  have effect : execRefusalAnswer s = act (fun s => match s.ten.refused with
      | [] => s
      | r :: l => { s with ten := { s.ten with refused := l } }.answerWrite r.caller true r.status 0 0) s := rfl
  refine does_of_effect (t := { s.fresh with ten := { s.ten with refused := l } }.emit (.dict port link st 0 0 [])) hon
    effect ?_ ⟨settle_ten _, settle_out _,
      Keeps.settle (keeps_emit (keeps_setTenancies (Keeps.fresh s _) (by simp) _) (by simp) _)⟩
  show (match s.ten.refused with
    | [] => s.fresh
    | r :: l => { s.fresh with ten := { s.ten with refused := l } }.answerWrite r.caller true r.status 0 0) = _
  rw [hr]
  rfl

/-! Keys. -/

/-- The home slot of a tenancy's key is written and the write is answered. -/
theorem keyWritten {s : State} {o : Origin} {n len : Nat} (ht : TakesNow s o) (x : KeySlot) :
    let t := settle ((s.fresh.setKey n x).answerWrite (callerOf o) true stOk len len)
    t.keySlot n = x ∧ OnlyTenancy s t 0xFFFFF n ∧ SaysWrite s t o stOk len ∧ Keeps s t [.ten, .bus, .out] := by
  obtain ⟨answered, keeps, hten⟩ := answerWrite_answers (u := s.fresh.setKey n x) (st := stOk) (len := len) (l := [.ten])
    ht (keeps_setTenancies (Keeps.fresh s _) (by simp) _) (by simp)
  have only : OnlyTenancy s (s.fresh.setKey n x) 0xFFFFF n :=
    ⟨fun _ _ => rfl, fun j hj => State.keySlot_setKey_ne _ _ hj, by simp only [State.setKey, State.fresh]⟩
  exact ⟨(keySlot_of_ten ((settle_ten _).trans hten) n).trans (State.keySlot_setKey_same ..),
    onlyTenancy_of_ten ((settle_ten _).trans hten) only, saysWrite_settle answered, Keeps.settle keeps⟩

/-- A key loaded over an IDE stream begins the load of the slot (03 R76). -/
theorem State.writeBy_keyLoad {s : State} {port link n : Nat} {data : Bytes} (ht : TakesNow s (.mailbox port link))
    (hr : s.realm (.mailbox port link) = .hostOwner) (hn : n < 1024) (hlen : data.length = 64) :
    s.writeBy (.mailbox port link) (keyIndex (0x3400 + n)) 2 0 data =
      s.runKeyLoad { caller := callerOf (.mailbox port link), idx := 0x3400 + n, sub := 2, value := 0, data := data } n := by
  have reach : s.reaches (.mailbox port link) = true := ht.2.1
  have gate : s.writeGate (callerOf (.mailbox port link)).origin (0x3400 + n) 2 = .ok (.homeKey n, _) :=
    State.writeGate_takesNow (r := row 0x02 .domain .woHost 0 0 0 .reset) ht
      ⟨classify_homeKey _ hn, rfl, by decide, .inr (congrArg (Rights.of .woHost) hr)⟩
  have begun : s.writeBy (.mailbox port link) (keyIndex (0x3400 + n)) 2 0 data = s.runOp
      { caller := callerOf (.mailbox port link), idx := 0x3400 + n, sub := 2, value := 0, data := data } := by
    simp only [State.writeBy, reach, if_true, keyIndex_eq hn, State.runWrite, State.writeObj, gate]
    simp [row, ObjTy.size, State.applyBytes, hlen, State.submit_now ht]
  rw [begun, State.runOp]
  dsimp only
  rw [if_neg (by omega), if_neg (by omega), if_pos rfl, Nat.add_sub_cancel_left]

theorem does_keyLoad {s : State} {port link n : Nat} {data : Bytes} (ht : TakesNow s (.mailbox port link))
    (hr : s.realm (.mailbox port link) = .hostOwner) (hn : n < 1024) (hide : (s.hlink port link).ideUp = true)
    (hlen : data.length = 64) (hhalves : data.take 32 ≠ data.drop 32) (hst : (s.keySlot n).st ≤ 1) :
    Does (.keyLoad (.mailbox port link) (0x3400 + n) data) s fun t =>
      t.keySlot n = { s.keySlot n with
        st := 1, material := BitVec.ofNat 512 (leNat data), gen := min 0xFFFFFFFF ((s.keySlot n).gen + 1) } ∧
      OnlyTenancy s t 0xFFFFF n ∧ SaysWrite s t (.mailbox port link) stOk 64 ∧ Keeps s t [.ten, .bus, .out] := by
  have loads (u : State) (hu : u.keySlot n = s.keySlot n) (hl : u.hlink port link = s.hlink port link) :
      u.runKeyLoad { caller := callerOf (.mailbox port link), idx := 0x3400 + n, sub := 2, value := 0, data := data } n =
        (u.setKey n { s.keySlot n with
          st := 1, material := BitVec.ofNat 512 (leNat data), gen := min u32max ((s.keySlot n).gen + 1) }).answerWrite
            (callerOf (.mailbox port link)) true stOk 64 64 := by
    have free : ¬ 2 ≤ (s.keySlot n).st := by omega
    have secure : u.ideOf (callerOf (.mailbox port link)).origin = true := by
      show (u.hlink port link).ideUp = true
      rw [hl, hide]
    have full : data.isEmpty = false := by
      cases data with
      | nil => cases hlen
      | cons => rfl
    simp only [State.runKeyLoad, hu, secure, free, hhalves, State.opOk, full, hlen, Bool.not_true, Bool.false_eq_true,
      if_false]
  exact does_of_effect (f := fun s => s.writeBy (.mailbox port link) (keyIndex (0x3400 + n)) 2 0 data) ht.1 rfl
    ((State.writeBy_keyLoad (s := s.fresh) ht hr hn hlen).trans (loads s.fresh rfl rfl)) (keyWritten ht _)

theorem State.runOp_zeroise {s : State} {op : TenOp} {k : Nat} (hidx : op.idx = 0x3400 + k) (hk : k < 1024)
    (hsub : op.sub = 4) : s.runOp op = s.runZeroise op k := by
  rw [State.runOp, hidx, hsub, if_neg (by omega), if_neg (by omega), if_neg (by decide), Nat.add_sub_cancel_left]

/-- The value 1 written to .04 of a home slot begins its zeroisation (03 R76). -/
theorem State.writeNum_keyZeroise {s : State} {o : Origin} {n : Nat} (ht : TakesNow s o) (hn : n < 1024) :
    s.writeNum o (keyIndex (0x3400 + n)) 4 1 = s.runZeroise (opOf o (0x3400 + n) 4 1) n := by
  have writable : Writable s o (0x3400 + n) (.homeKey n) (row 0x04 .u8 .woHostRack 0 1 1 .reset) :=
    ⟨classify_homeKey _ hn, rfl, by decide, rights_of_takesNow ht (.inr (.inr rfl))⟩
  have begun : s.writeNum o (0x3400 + n) 4 1 = s.runOp (opOf o (0x3400 + n) 4 1) :=
    State.writeNum_op ht writable (.inr (.inl ⟨n, rfl, rfl⟩)) (by decide)
  rw [keyIndex_eq hn, begun, State.runOp_zeroise rfl hn rfl]

theorem does_keyZeroise {s : State} {o : Origin} {n : Nat} (ht : TakesNow s o) (hn : n < 1024)
    (hst : (s.keySlot n).st ≤ 1) : Does (.keyZeroise o (0x3400 + n) 1) s fun t =>
      t.keySlot n = (s.keySlot n).cleared ∧ OnlyTenancy s t 0xFFFFF n ∧ SaysWrite s t o stOk 1 ∧
      Keeps s t [.ten, .bus, .out] := by
  have size (u : State) : u.sizeOf (0x3400 + n) 4 = 1 := by
    simp [State.sizeOf, objRow, classify_homeKey _ hn, Cls.rows, rowsKeySlot, rowsKey, findRow, row, ObjTy.size]
  have cleared (u : State) (hu : u.keySlot n = s.keySlot n) : u.runZeroise (opOf o (0x3400 + n) 4 1) n =
      (u.setKey n (s.keySlot n).cleared).answerWrite (callerOf o) true stOk 1 1 := by
    have free : ¬ 2 ≤ (s.keySlot n).st := by omega
    simp only [State.runZeroise, hu, free, if_false, State.opOk, opOf, size, List.isEmpty_nil, if_true]
  exact does_of_effect (f := fun s => s.writeNum o (keyIndex (0x3400 + n)) 4 1) ht.1 rfl
    ((State.writeNum_keyZeroise (s := s.fresh) ht hn).trans (cleared s.fresh rfl)) (keyWritten ht _)

/-! Checkpoints. -/

/-- A tenancy's number written to 0x5802.01 begins its checkpoint (07 R177). -/
theorem State.writeNum_checkpoint {s : State} {o : Origin} {n : Nat} (ht : TakesNow s o) (hn : n < 1024) :
    s.writeNum o 0x5802 1 n = s.runCheckpoint (opOf o 0x5802 1 n) := by
  have writable : Writable s o 0x5802 .shadow2 (row 0x01 .u16 .woHostRack 0 0 1023 .reset) :=
    ⟨rfl, rfl, by decide, rights_of_takesNow ht (.inr (.inr rfl))⟩
  have value : s.legal .shadow2 1 (clampRaw (row 0x01 .u16 .woHostRack 0 0 1023 .reset) (n % 256 ^ 2)) = n := by
    rw [Nat.mod_eq_of_lt (by omega), clampRaw_of_range (.inr (.inl rfl)) (show (0 : Int) ≤ n by omega)
      (show (n : Int) ≤ 1023 by omega)]
    rfl
  have begun := State.writeNum_op (v := n) ht writable (.inr (.inr ⟨rfl, rfl⟩)) (by decide)
  exact begun.trans (congrArg (fun v => s.runCheckpoint (opOf o 0x5802 1 v)) value)

/-- A checkpoint that may run is answered, and complete at once without snow (07 R177). -/
theorem State.runCheckpoint_runs {s : State} {op : TenOp}
    (hst : (s.tenancy op.value).st = 1 ∨ (s.tenancy op.value).st = 2)
    (hmode : (s.tenancy op.value).mode = 1) (hreg : s.reg (ixPer 0x5820 op.value) (subPer op.value) ≠ 1) :
    s.runCheckpoint op =
      ((s.setReg (ixPer 0x5820 op.value) (subPer op.value) 1).opOk op).ckptSettle op.value := by
  have opened : (s.tenancy op.value).open_ = true := by rcases hst with h | h <;> simp [Tenancy.open_, h]
  simp [State.runCheckpoint, opened, hmode, hreg]

/-- Whether flakes of a tenancy's range are snow. -/
def State.hasSnow (s : State) (n : Nat) : Prop :=
  ∃ e ∈ s.shadow.firn, isSnow e.2 = true ∧ 128 * (s.tenancy n).base ≤ e.1 ∧ e.1 < 128 * (s.tenancy n).limit

/-- A running checkpoint is complete where no snow is left, and goes on where some is (07 R177). -/
theorem State.ckptSettle_running {s : State} {n : Nat} (hreg : s.reg (ixPer 0x5820 n) (subPer n) = 1) :
    (s.hasSnow n → s.ckptSettle n = s) ∧
    (¬ s.hasSnow n → s.ckptSettle n = { s.setReg (ixPer 0x5820 n) (subPer n) 2 with
      shadow := { s.shadow with ckptDone := addOnce n s.shadow.ckptDone } }) := by
  have snow : (s.shadow.firn.any fun e => isSnow e.2 && decide (128 * (s.tenancy n).base ≤ e.1) &&
      decide (e.1 < 128 * (s.tenancy n).limit)) = true ↔ s.hasSnow n := by
    simp [State.hasSnow, and_assoc]
  refine ⟨fun h => if_neg ?_, fun h => if_pos ⟨hreg, ?_⟩⟩
  · rw [snow.2 h]; simp
  · rw [← snow] at h; simpa using h

/-- The state of a checkpoint that has begun and is answered. -/
def State.checkpointed (s : State) (o : Origin) (n : Nat) : State :=
  (s.setReg (ixPer 0x5820 n) (subPer n) 1).opOk (opOf o 0x5802 1 n)

/-- No object of the checkpoints is a counter of a recorder. -/
theorem not_stagingCount_ixPer (n k : Nat) : ¬ stagingCount (ixPer 0x5820 n) k := by
  unfold stagingCount ixPer; omega

theorem subPer_lt (n : Nat) : subPer n < 256 := by unfold subPer; omega

theorem State.reg_opOk (s : State) (op : TenOp) (i k : Nat) : (s.opOk op).reg i k = s.reg i k := by
  unfold State.opOk State.answerWrite
  dsimp only
  split
  · split <;> rfl
  · rfl
  · split <;> rfl

theorem State.reg_checkpointed (s : State) (o : Origin) (n : Nat) :
    (s.checkpointed o n).reg (ixPer 0x5820 n) (subPer n) = 1 := by
  rw [State.checkpointed, State.reg_opOk, State.reg_setReg_same]

theorem regsBut_checkpointed (s : State) (o : Origin) (n : Nat) :
    RegsBut s (s.fresh.checkpointed o n) [(ixPer 0x5820 n, subPer n)] := by
  intro i k hk hs hnot
  rw [State.checkpointed, State.reg_opOk]
  exact regsBut_setReg (RegsBut.refl s _) (by simp) (subPer_lt n) 1 i k hk hs hnot

theorem State.firn_checkpointed (s : State) (o : Origin) (n : Nat) :
    (s.fresh.checkpointed o n).shadow.firn = s.shadow.firn := by
  have frame : Keeps (s.fresh.setReg (ixPer 0x5820 n) (subPer n) 1) (s.fresh.checkpointed o n) [.bus, .wire, .out] :=
    State.opOk_frame _ _
  rw [Keeps.shadow_eq frame (by simp)]; rfl

/-- What a begun checkpoint says of the snow that is left. -/
theorem State.hasSnow_checkpointed (s : State) (o : Origin) (n : Nat) :
    (s.fresh.checkpointed o n).hasSnow n ↔ s.hasSnow n := by
  have ten : (s.fresh.checkpointed o n).tenancy n = s.tenancy n := tenancy_of_ten (State.opOk_ten ..) n
  rw [State.hasSnow, State.hasSnow, s.firn_checkpointed, ten]

theorem does_checkpointStart {s : State} {o : Origin} {n : Nat} (ht : TakesNow s o) (hn : n < 1024)
    (hst : (s.tenancy n).st = 1 ∨ (s.tenancy n).st = 2) (hmode : (s.tenancy n).mode = 1)
    (hreg : s.reg (ixPer 0x5820 n) (subPer n) ≠ 1) : Does (.checkpointStart o n) s fun t =>
      ((s.hasSnow n → t.reg (ixPer 0x5820 n) (subPer n) = 1) ∧
        (¬ s.hasSnow n → t.reg (ixPer 0x5820 n) (subPer n) = 2)) ∧
      RegsBut s t [(ixPer 0x5820 n, subPer n)] ∧ t.shadow.firn = s.shadow.firn ∧
      SaysWrite s t o stOk 2 ∧ Keeps s t [.regs, .shadow, .bus, .out] := by
  have effect : s.fresh.writeNum o 0x5802 1 n = (s.fresh.checkpointed o n).ckptSettle n :=
    (State.writeNum_checkpoint (s := s.fresh) ht hn).trans
      (State.runCheckpoint_runs (s := s.fresh) (op := opOf o 0x5802 1 n) hst hmode hreg)
  obtain ⟨answered, keeps, -⟩ := opOk_answers (u := s.fresh.setReg (ixPer 0x5820 n) (subPer n) 1) (idx := 0x5802)
    (sub := 1) (v := n) (len := 2) (l := [.regs, .shadow]) ht (keeps_setReg (Keeps.fresh s _) (by simp) _ _ _) (by simp)
    rfl
  obtain ⟨goesOn, ends⟩ := State.ckptSettle_running (s.fresh.reg_checkpointed o n)
  have settled (u : State) := reg_settle_of_not_stagingCount u (subPer_lt n) (not_stagingCount_ixPer n (subPer n))
  have firn (u : State) : (settle u).shadow.firn = u.shadow.firn := by rw [settle_shadow]
  rw [s.hasSnow_checkpointed o n] at goesOn ends
  by_cases hsnow : s.hasSnow n
  · refine does_of_effect (f := fun s => s.writeNum o 0x5802 1 n) ht.1 rfl (effect.trans (goesOn hsnow))
      ⟨⟨fun _ => ?_, fun h => absurd hsnow h⟩, regsBut_settle (regsBut_checkpointed s o n),
        (firn _).trans (s.firn_checkpointed o n), saysWrite_settle answered, Keeps.settle keeps⟩
    rw [settled, State.reg_checkpointed]
  · refine does_of_effect (f := fun s => s.writeNum o 0x5802 1 n) ht.1 rfl (effect.trans (ends hsnow))
      ⟨⟨fun h => absurd h hsnow, fun _ => ?_⟩, ?_, (firn _).trans (s.firn_checkpointed o n),
        saysWrite_settle (t := { (s.fresh.checkpointed o n).setReg _ _ 2 with shadow := _ }) answered,
        Keeps.settle (keeps_setShadow (keeps_setReg keeps (by simp) _ _ _) (by simp) _)⟩
    · rw [settled]
      exact State.reg_setReg_same ..
    · exact regsBut_settle (regsBut_setReg (regsBut_checkpointed s o n) (by simp) (subPer_lt n) 2)

end Sys2Proof.Machine
end

section
/-! PROOFS. A rekey sweep moves past a line (03 R77): what its accesses to the line and to its flake leave of tenancies and
keys, and where the watermark stands. -/
namespace Sys2Proof.Machine

open Sys2Proof.Safety

/-! Accesses to lines and flakes leave tenancies and keys. -/

section
variable (s : State)

theorem State.setCell_ten (o : Nat) (c : LineCell) : (s.setCell o c).ten = s.ten := by
  unfold State.setCell
  dsimp only
  repeat' split
  all_goals rfl

theorem State.touchBank_ten (r off : Nat) : (s.touchBank r off).ten = s.ten := by
  have activated (sc k b row : Nat) (low : Bool) : (s.activateAt sc k b row low).ten = s.ten := by
    unfold State.activateAt
    dsimp only
    repeat' split
    all_goals rfl
  unfold State.touchBank State.columnAt
  dsimp only
  split
  · rfl
  · exact activated ..

theorem State.setLine_ten (o : Nat) (c : LineCell) : (s.setLine o c).ten = s.ten := by
  unfold State.setLine
  split
  · rfl
  · rw [State.setCell_ten, State.touchBank_ten]

theorem State.fillFlake_ten (m : Nat) (c : LineCell) : (s.fillFlake m c).ten = s.ten :=
  foldl_leaves (p := fun t : State => t.ten) (fun _ _ => State.setLine_ten _ _ _) _ _

theorem State.listPoison_ten (d o n : Nat) (inj : Bool) : (s.listPoison d o n inj).ten = s.ten := by
  unfold State.listPoison State.addPoison
  split
  · rfl
  · exact (trims_poisonFull s).ten

theorem State.unswept_ten (m : Nat) : (s.unswept m).ten = s.ten := rfl

theorem State.touchMap_ten (m : Nat) : (s.touchMap m).ten = s.ten := rfl

theorem State.setFirn_ten (m c : Nat) : (s.setFirn m c).ten = s.ten := rfl

theorem State.poisonFlake_ten (m : Nat) (list : Bool) : (s.poisonFlake m list).ten = s.ten := by
  unfold State.poisonFlake
  dsimp only
  split
  · rw [State.listPoison_ten, State.unswept_ten, State.touchMap_ten, State.fillFlake_ten, (trims_setFmap _ _ _).ten,
      State.setFirn_ten, (trims_releaseFlake _ _ _).ten]
  · rw [State.unswept_ten, State.touchMap_ten, State.fillFlake_ten, (trims_setFmap _ _ _).ten, State.setFirn_ten,
      (trims_releaseFlake _ _ _).ten]

theorem State.settleFirn_ten (m : Nat) : (s.settleFirn m).ten = s.ten := by
  unfold State.settleFirn
  split
  · rfl
  · rw [State.report_ten, State.poisonFlake_ten]

theorem State.summarise_ten (m : Nat) : (s.summarise m).ten = s.ten := by
  unfold State.summarise
  dsimp only
  split <;> rfl

theorem State.makeDirty_ten (m : Nat) : (s.makeDirty m).ten = s.ten := by
  have charged : (s.chargeFlake m).ten = s.ten := by
    unfold State.chargeFlake
    repeat' split
    · exact State.summarise_ten ..
    · rfl
    · rfl
  rw [State.makeDirty, State.touchMap_ten, State.setFirn_ten, charged]

theorem State.firnWrite_ten (m : Nat) : (s.firnWrite m).ten = s.ten := by
  have settled : ((s.settleFirn m).unpoisonNote m).ten = s.ten := s.settleFirn_ten m
  unfold State.firnWrite
  dsimp only
  repeat' split
  · exact settled
  · exact settled
  · exact settled
  · exact settled
  · exact (State.makeDirty_ten _ m).trans settled

theorem State.sweepEnter_ten (n m : Nat) : (s.sweepEnter n m).ten = s.ten := by
  unfold State.sweepEnter
  repeat' split
  · rfl
  · exact s.firnWrite_ten m
  · exact s.firnWrite_ten m

theorem State.countLine_ten (r off : Nat) : (s.countLine r off).ten = s.ten := by
  unfold State.countLine
  dsimp only
  split <;> rfl

theorem State.countCe_ten (r off pos : Nat) : (s.countCe r off pos).ten = s.ten := by
  unfold State.countCe
  rw [State.countLine_ten, State.setDom_ten, State.inc_ten]

end

/-- An engine's read of a line with errors at one device position at most goes on with what it finds (04 R98 to R100). -/
theorem State.engineRead_finds (s : State) (src : Src) (o r off : Nat) {errs : List Nat} (he : errs.length ≤ 1)
    (found : State → ReadOut → State) : ∃ u v, s.engineRead src o r off errs found = found u v ∧ u.ten = s.ten := by
  unfold State.engineRead
  match errs, he with
  | [], _ =>
    cases s.cellAt o r off with
    | data l k => exact ⟨_, _, rfl, s.touchBank_ten r off⟩
    | poison => exact ⟨_, _, rfl, s.touchBank_ten r off⟩
  | [p], _ =>
    cases s.cellAt o r off with
    | data l k => exact ⟨_, _, rfl, (State.countCe_ten ..).trans (s.touchBank_ten r off)⟩
    | poison => exact ⟨_, _, rfl, s.touchBank_ten r off⟩

/-- The watermark of a tenancy behind a line that its sweep has read. -/
def State.sweptTo (s : State) (n : Nat) : Tenancy := { s.tenancy n with watermark := (s.tenancy n).watermark + 64 }

/-- What a sweep finds at a line moves the watermark behind it; at the limit the slot is SEALING (03 R77). -/
theorem State.sweepFound_moves {s : State} {n k : Nat} (hk : s.transitOf n = some k) (v : ReadOut) :
    ∃ u, u.ten = (s.setTen n (s.sweptTo n)).ten ∧ s.sweepFound n v =
      if (s.tenancy n).limit * driftBytes ≤ (s.tenancy n).watermark + 64 then
        u.setKey k { u.keySlot k with st := 5 } else u := by
  unfold State.sweepFound
  rw [hk]
  refine ⟨_, ?_, rfl⟩
  have moved (w : State) (hw : w.ten = s.ten) : (w.setTen n (s.sweptTo n)).ten = (s.setTen n (s.sweptTo n)).ten := by
    rw [State.setTen, State.setTen, hw]
  cases v with
  | clean c =>
    cases c with
    | data l key => exact State.setLine_ten ..
    | poison => rfl
  | corrected c pos =>
    cases c with
    | data l key => exact State.setLine_ten ..
    | poison => rfl
  | poison =>
    refine moved _ ?_
    show (if s.isLost (s.place (s.tenancy n).watermark).rank then s else _).ten = _
    split <;> rfl
  | uncorrectable =>
    refine moved _ ?_
    simp only [State.report_ten, State.countUe, State.inc_ten, State.setRank_ten, State.listPoison_ten,
      State.setLine_ten]

/-- A sweep whose turn at its line has come reads the line (03 R77, Table 03.8). -/
theorem State.sweepLine_finds {s : State} {n k : Nat} {errs : List Nat} (hk : s.transitOf n = some k)
    (hst : s.seq.st = 12) (hfz : s.freeze.active = false) (hth : s.thawing = false) (hslot : (s.keySlot k).st = 4)
    (hheld : s.tenHeld n = false) (he : errs.length ≤ 1) (hretry : s.awaitsRetry (.sweep n) = false)
    (hlost : s.isLost (s.place (s.tenancy n).watermark).rank = false)
    (hturn : s.turnOf (s.physOf (s.tenancy n).watermark) (s.place (s.tenancy n).watermark).off
      (s.tenancy n).watermark 7 = true)
    (hreb : s.needsRebuild (s.place (s.tenancy n).watermark).rank (s.place (s.tenancy n).watermark).off = false)
    (htrust : s.untrusted (s.physOf (s.tenancy n).watermark) (s.tenancy n).watermark = false) :
    ∃ (u : State) (v : ReadOut), s.sweepLine n errs = u.sweepFound n v ∧ u.ten = s.ten := by
  have entered (m o : Nat) : (if s.sweepMarks n m o then s.sweepEnter n m else s).ten = s.ten := by
    split
    · exact s.sweepEnter_ten n m
    · rfl
  unfold State.sweepLine
  rw [hk]
  dsimp only
  rw [if_neg (by simp [hst, hfz, hth, hslot, hretry]), if_neg (by simp [hheld]),
    if_neg (by simp [hturn, hreb, htrust]), if_neg (by simp [hlost])]
  obtain ⟨u, v, found, hten⟩ := State.engineRead_finds
    (if s.sweepMarks n (flakeOf (s.tenancy n).watermark) (s.tenancy n).watermark then
      s.sweepEnter n (flakeOf (s.tenancy n).watermark) else s)
    (.sweep n) (s.tenancy n).watermark _ _ he fun t v => t.sweepFound n v
  exact ⟨u, v, found, hten.trans (entered _ _)⟩

/-- What a tenancy's sweep leaves of the entry and of the transit slot when it has read a line. -/
theorem State.sweepFound_result {s u : State} {n k : Nat} (hk : s.transitOf n = some k) (hu : u.ten = s.ten)
    (v : ReadOut) :
    (u.sweepFound n v).tenancy n = { s.tenancy n with watermark := (s.tenancy n).watermark + 64 } ∧
    ((s.tenancy n).limit * driftBytes ≤ (s.tenancy n).watermark + 64 → ((u.sweepFound n v).keySlot k).st = 5) ∧
    ((s.tenancy n).watermark + 64 < (s.tenancy n).limit * driftBytes → (u.sweepFound n v).keySlot k = s.keySlot k) := by
  have transit : u.transitOf n = some k := by rw [State.transitOf, hu]; exact hk
  obtain ⟨w, hw, moved⟩ := State.sweepFound_moves transit v
  have entry : w.tenancy n = u.sweptTo n := (tenancy_of_ten hw n).trans (State.tenancy_setTen_same ..)
  have slot : w.keySlot k = s.keySlot k := (keySlot_of_ten hw k).trans (keySlot_of_ten (t := s) hu k)
  rw [State.sweptTo, tenancy_of_ten hu] at entry
  rw [tenancy_of_ten hu] at moved
  rw [moved]
  by_cases hlim : (s.tenancy n).limit * driftBytes ≤ (s.tenancy n).watermark + 64
  · rw [if_pos hlim]
    exact ⟨entry, fun _ => congrArg (·.st) (State.keySlot_setKey_same w k _), fun h => absurd hlim (by omega)⟩
  · rw [if_neg hlim]
    exact ⟨entry, fun h => absurd h hlim, fun _ => slot⟩

/-! A turn at a line depends on no output. -/

section
variable (s : State)

theorem sameWay_fresh : SameWay s s.fresh := ⟨rfl, rfl, rfl, rfl, rfl, rfl, rfl, rfl, rfl⟩

theorem State.bankOfReq_fresh (q : Req) : s.fresh.bankOfReq q = s.bankOfReq q := by
  have way := sameWay_fresh s
  have physical : s.fresh.physical q = s.physical q := by
    simp only [State.physical, way.place, way.readRank]
  rw [State.bankOfReq, State.bankOfReq, physical]
  rfl

theorem State.bankReady_fresh (sc : Nat) (q : Req) : s.fresh.bankReady sc q = s.bankReady sc q := by
  have bank (k b : Nat) : s.fresh.bank sc k b = s.bank sc k b := rfl
  have retry (k b : Nat) : s.fresh.retryOn sc k b = s.retryOn sc k b := rfl
  have way := sameWay_fresh s
  have needs (r o : Nat) : s.fresh.needsRebuild r o = s.needsRebuild r o := rfl
  have rebuild : s.fresh.waitsRebuild q = s.waitsRebuild q := by
    rw [State.waitsRebuild, State.waitsRebuild, way.place, needs]
  simp only [State.bankReady, s.bankOfReq_fresh, bank, retry, rebuild]

theorem State.slotList_fresh (sc : Nat) (batch : Bool) : s.fresh.slotList sc batch = s.slotList sc batch := by
  have chan : s.fresh.chan sc = s.chan sc := rfl
  have read : s.fresh.readReady sc = s.readReady sc := by
    funext q; rw [State.readReady, State.readReady, s.bankReady_fresh, chan]
  have write : s.fresh.writeReady sc = s.writeReady sc := by
    funext q; rw [State.writeReady, State.writeReady, s.bankReady_fresh, chan]
  have prio : s.fresh.prioOf = s.prioOf := rfl
  simp only [State.slotList, chan, read, write, prio]

theorem State.turnOf_fresh (r off o p : Nat) : s.fresh.turnOf r off o p = s.turnOf r off o p := by
  have chan (sc : Nat) : s.fresh.chan sc = s.chan sc := rfl
  have free (sc : Nat) : s.fresh.slotFree sc p = s.slotFree sc p := by
    have batch (c : Chan) : s.fresh.batchNow c = s.batchNow c := rfl
    have prio : s.fresh.prioOf = s.prioOf := rfl
    have runs : s.fresh.quadRuns sc = s.quadRuns sc := rfl
    have urgent : s.fresh.urgentBank sc = s.urgentBank sc := rfl
    have best : s.fresh.bestPrio sc = s.bestPrio sc := by
      simp only [State.bestPrio, s.slotList_fresh, batch, prio, chan]
    rw [State.slotFree, State.slotFree, best, chan, runs, urgent]
  have bankAt : s.fresh.bankAt r off = s.bankAt r off := rfl
  have bank (sc k b : Nat) : s.fresh.bank sc k b = s.bank sc k b := rfl
  have retry (sc k b : Nat) : s.fresh.retryOn sc k b = s.retryOn sc k b := rfl
  have column (sc : Nat) : s.fresh.mayColumn sc p = s.mayColumn sc p := rfl
  have row (sc : Nat) : s.fresh.mayActivate sc p = s.mayActivate sc p := rfl
  simp only [State.turnOf, State.slotTurn, free, chan, bankAt, bank, retry, column, row]

end

end Sys2Proof.Machine
end

section
/-! PROOFS. Zero fills, drains, trims, key loads, sweeps, refusals and checkpoints complete (O32). -/
namespace Sys2Proof.Machine

open Sys2Proof.Safety

/-- Settles O32: each step by what it leaves of the entry, of the key slots and of the firn states. -/
theorem tenancyHardwareStepsComplete : Obligations.TenancyHardwareStepsComplete := by
  intro s n errs hon hw hn
  refine ⟨fun op hop hidx hv hsl => does_fillCreate hon hw hop hidx hv hsl,
    fun op hop hidx hv hr hl hsl => does_fillResize hon hw hop hidx hv hr hl hsl,
    fun e he => does_retireDrained hon hw hn he,
    fun y port link hy hyn hc hret hu => does_settled hon hw hy hyn hc hret hu,
    fun hst hrun hret hfirn => does_retireTrimEnd hon hst hrun hret hfirn,
    fun port link st l hr => does_refusalAnswer hon hr,
    fun port link data ht hr hide hlen hhalves hst => does_keyLoad ht hr hn hide hlen hhalves hst,
    fun o ht hst => does_keyZeroise ht hn hst, ?_, ?_⟩
  · intro k hk hst hfz hth hslot hheld he hretry hlost hturn hreb htrust
    have way := sameWay_fresh s
    have entry : s.fresh.tenancy n = s.tenancy n := rfl
    have trust (r o : Nat) : s.fresh.untrusted r o = s.untrusted r o := rfl
    have rebuild (r o : Nat) : s.fresh.needsRebuild r o = s.needsRebuild r o := rfl
    have held : s.fresh.tenHeld n = s.tenHeld n := rfl
    rw [← held] at hheld
    rw [← way.isLost, ← way.place, ← entry] at hlost
    rw [← way.physOf, ← way.place, ← s.turnOf_fresh, ← entry] at hturn
    rw [← way.place, ← rebuild, ← entry] at hreb
    rw [← way.physOf, ← trust, ← entry] at htrust
    obtain ⟨u, v, found, hten⟩ := State.sweepLine_finds (s := s.fresh) hk hst hfz hth hslot hheld he hretry hlost hturn
      hreb htrust
    obtain ⟨hentry, hlast, hbefore⟩ := State.sweepFound_result (s := s.fresh) hk hten v
    refine does_of_effect (f := fun s => s.sweepLine n errs) hon rfl found ⟨?_, ?_, ?_⟩
    · rw [State.tenancy_settle]; exact hentry
    · rw [State.keySlot_settle]; exact hlast
    · rw [State.keySlot_settle]; exact hbefore
  · intro o ht hst hmode hreg
    obtain ⟨t, hx, ⟨hsnow, hnone⟩, rest⟩ := does_checkpointStart ht hn hst hmode hreg
    refine ⟨t, hx, ?_, rest⟩
    split
    · next h => exact hsnow h
    · next h => exact hnone h

end Sys2Proof.Machine
end

section
/-! PROOFS. Banks, queues, ranks and scrub positions read back what is written to them, and settling leaves them (04):
the rules that O33 and O34 share. -/
namespace Sys2Proof.Machine

open Sys2Proof.Safety

/-! Settling leaves the DRAM. -/

@[simp] theorem State.chan_settle (s : State) (j : Nat) : (settle s).chan j = s.chan j := by
  rw [State.chan, settle_dram]; rfl

@[simp] theorem State.bank_settle (s : State) (sc k b : Nat) : (settle s).bank sc k b = s.bank sc k b := by
  rw [State.bank, settle_dram]; rfl

@[simp] theorem State.rank_settle (s : State) (r : Nat) : (settle s).rank r = s.rank r := by
  rw [State.rank, settle_dram]; rfl

@[simp] theorem State.scrubOf_settle (s : State) (ch : Nat) : (settle s).scrubOf ch = s.scrubOf ch := by
  rw [State.scrubOf, settle_dram]; rfl

/-! A read after a write. -/

theorem State.chan_setChan_same (s : State) (sc : Nat) (c : Chan) : (s.setChan sc c).chan sc = c := look_put_same ..

theorem State.rank_setRank_same (s : State) (r : Nat) (k : Rank) : (s.setRank r k).rank r = k := look_put_same ..

theorem State.scrubOf_setScrub_same (s : State) (ch : Nat) (x : Scrub) : (s.setScrub ch x).scrubOf ch = x :=
  look_put_same ..

theorem State.bank_setBank_same (s : State) (sc k b : Nat) (x : Bank) : (s.setBank sc k b x).bank sc k b = x :=
  look_put_same ..

theorem bankKey_ne {sc k a b : Nat} (h : a ≠ b) : bankKey sc k a ≠ bankKey sc k b := by
  unfold bankKey; omega

theorem State.bank_setBank_ne (s : State) {sc k a b : Nat} (x : Bank) (h : a ≠ b) :
    (s.setBank sc k b x).bank sc k a = s.bank sc k a := look_put_ne _ _ _ (bankKey_ne h)

/-! Frames of writes to the DRAM. -/

section
variable {s t : State} {l : List Part} (h : Keeps s t l) (hl : Part.dram ∈ l)
include h hl

theorem keeps_setChan (sc : Nat) (c : Chan) : Keeps s (t.setChan sc c) l := keeps_setDram h hl _

theorem keeps_setRank (r : Nat) (k : Rank) : Keeps s (t.setRank r k) l := keeps_setDram h hl _

theorem keeps_setScrub (ch : Nat) (x : Scrub) : Keeps s (t.setScrub ch x) l := keeps_setDram h hl _

end

/-! Objects of a rank and of a die's throttle are no staging counters. -/

theorem not_stagingCount_ixRank (r k : Nat) : ¬ stagingCount (ixRank r) k := by
  unfold stagingCount ixRank ixChan; omega

theorem not_stagingCount_throttle {d : Nat} (hd : d < 8) (k : Nat) : ¬ stagingCount (0x1010 + d) k := by
  unfold stagingCount; omega

/-- A report counts on nothing but the staging counters. -/
theorem State.reg_report_of_not_stagingCount (s : State) {d : Nat} (hd : d < 8) (c v w : Nat) (a : List Nat) {i k : Nat}
    (hk : k < 256) (h : ¬ stagingCount i k) : (s.report d c v w a).reg i k = s.reg i k :=
  State.reg_report _ _ _ _ _ _ (stagingCount_ne hk h hd (.inl rfl)) (stagingCount_ne hk h hd (.inr rfl))

theorem regsBut_report {s t : State} {l : List (Nat × Nat)} (h : RegsBut s t l) {d : Nat} (hd : d < 8) (c v w : Nat)
    (a : List Nat) : RegsBut s (t.report d c v w a) l :=
  fun i k hk hn hnot => (t.reg_report_of_not_stagingCount hd c v w a hk hn).trans (h i k hk hn hnot)

/-! Slots depend on no output. -/

section
variable (s : State)

theorem State.slotFree_fresh (sc p : Nat) : s.fresh.slotFree sc p = s.slotFree sc p := by
  have chan : s.fresh.chan sc = s.chan sc := rfl
  have batch (c : Chan) : s.fresh.batchNow c = s.batchNow c := rfl
  have prio : s.fresh.prioOf = s.prioOf := rfl
  have runs : s.fresh.quadRuns sc = s.quadRuns sc := rfl
  have urgent : s.fresh.urgentBank sc = s.urgentBank sc := rfl
  have best : s.fresh.bestPrio sc = s.bestPrio sc := by
    simp only [State.bestPrio, s.slotList_fresh, batch, prio, chan]
  rw [State.slotFree, State.slotFree, best, chan, runs, urgent]

theorem State.mayMr4_fresh (r : Nat) : s.fresh.mayMr4 r = s.mayMr4 r := by
  have runs : s.fresh.quadRuns = s.quadRuns := rfl
  have free : s.fresh.slotFree = s.slotFree := by funext sc p; exact s.slotFree_fresh sc p
  have chan (sc : Nat) : s.fresh.chan sc = s.chan sc := rfl
  have rank : s.fresh.rank r = s.rank r := rfl
  simp only [State.mayMr4, runs, free, chan, rank, State.fresh_aon]

theorem State.waitingOn_fresh (sc k b : Nat) : s.fresh.waitingOn sc k b = s.waitingOn sc k b := by
  have chan : s.fresh.chan sc = s.chan sc := rfl
  simp only [State.waitingOn, s.bankOfReq_fresh, chan]

theorem State.class0On_fresh (sc k b : Nat) : s.fresh.class0On sc k b = s.class0On sc k b := by
  rw [State.class0On, State.class0On, s.waitingOn_fresh]

theorem State.banksIdle_fresh (sc k : Nat) (bs : List Nat) : s.fresh.banksIdle sc k bs = s.banksIdle sc k bs := by
  have bank (b : Nat) : s.fresh.bank sc k b = s.bank sc k b := rfl
  have retry (b : Nat) : s.fresh.retryOn sc k b = s.retryOn sc k b := rfl
  simp only [State.banksIdle, s.waitingOn_fresh, bank, retry]

end

end Sys2Proof.Machine
end

section
/-! PROOFS. Refresh and refresh management (04 R92 to R95): every bank of the list that a command blocks is changed once,
and nothing but banks changes. -/
namespace Sys2Proof.Machine

open Sys2Proof.Safety

/-! The lists of banks name each bank once. -/

theorem sameBankOf_nodup (chip b : Nat) : (sameBankOf chip b).Nodup :=
  List.nodup_range.map fun g g' (h : (chip * 8 + g) * 4 + b = (chip * 8 + g') * 4 + b) => by omega

theorem rfmBanks_nodup (b : Nat) : (rfmBanks b).Nodup := sameBankOf_nodup ..

theorem State.refBanks_nodup (s : State) (r chip b : Nat) : (s.refBanks r chip b).Nodup := by
  unfold State.refBanks
  split
  · exact List.nodup_range
  · exact sameBankOf_nodup chip b

theorem State.runningBanks_nodup (s : State) (sc r chip b : Nat) : (s.runningBanks sc r chip b).Nodup := by
  unfold State.runningBanks
  split
  · exact List.nodup_range
  · exact sameBankOf_nodup chip b

/-! Banks changed together. -/

/-- The same state with these banks. -/
def State.setBanks (s : State) (banks : Sparse Bank) : State := { s with dram := { s.dram with banks := banks } }

section
variable (s : State) (sc k : Nat) (f : Nat → Bank → Bank)

theorem State.mapBanks_eq_setBanks (l : List Nat) : ∃ banks, s.mapBanks sc k l f = s.setBanks banks := by
  induction l generalizing s with
  | nil => exact ⟨s.dram.banks, rfl⟩
  | cons b l ih =>
    obtain ⟨banks, h⟩ := ih (s.setBank sc k b (f b (s.bank sc k b)))
    exact ⟨banks, h⟩

theorem State.bank_mapBanks_of_notMem {l : List Nat} {x : Nat} (h : x ∉ l) :
    (s.mapBanks sc k l f).bank sc k x = s.bank sc k x := by
  induction l generalizing s with
  | nil => rfl
  | cons b l ih =>
    rw [List.mem_cons, not_or] at h
    exact (ih _ h.2).trans (s.bank_setBank_ne _ h.1)

/-- Each bank of a list without repetitions is changed once. -/
theorem State.bank_mapBanks {l : List Nat} (hn : l.Nodup) {x : Nat} (h : x ∈ l) :
    (s.mapBanks sc k l f).bank sc k x = f x (s.bank sc k x) := by
  induction l generalizing s with
  | nil => cases h
  | cons b l ih =>
    obtain ⟨hb, hl⟩ := List.nodup_cons.1 hn
    rcases List.mem_cons.1 h with rfl | hx
    · exact (State.bank_mapBanks_of_notMem _ sc k f hb).trans (s.bank_setBank_same ..)
    · have hne : x ≠ b := fun he => hb (he ▸ hx)
      exact (ih _ hl hx).trans (congrArg (f x) (s.bank_setBank_ne _ hne))

end

theorem keeps_mapBanks {s t : State} {l : List Part} (h : Keeps s t l) (hl : Part.dram ∈ l) (sc k : Nat) (bs : List Nat)
    (f : Nat → Bank → Bank) : Keeps s (t.mapBanks sc k bs f) l := by
  obtain ⟨banks, ht⟩ := t.mapBanks_eq_setBanks sc k f bs
  exact ht ▸ keeps_setDram h hl _

/-! A refresh that starts. -/

/-- A command blocks banks, their rows closed, and changes no line and no queue. -/
def Blocks (s t : State) (sc k : Nat) (bs : List Nat) : Prop :=
  (∀ x ∈ bs, (t.bank sc k x).refreshing = true ∧ (t.bank sc k x).openRow = none) ∧
    t.dram.lines = s.dram.lines ∧ (∀ j, t.chan j = s.chan j) ∧ Keeps s t [.dram]

theorem State.startRefresh_eq_setBanks (s : State) (sc k : Nat) (bs : List Nat) (p1 : Bool) :
    ∃ banks, s.startRefresh sc k bs p1 = s.setBanks banks := s.mapBanks_eq_setBanks ..

theorem blocks_startRefresh {s u : State} {sc k : Nat} {bs : List Nat} (hn : bs.Nodup) (p1 : Bool)
    (hlines : u.dram.lines = s.dram.lines) (hchan : ∀ j, u.chan j = s.chan j) (hk : Keeps s u [.dram]) :
    Blocks s (settle (u.startRefresh sc k bs p1)) sc k bs := by
  have blocked (x : Nat) (hx : x ∈ bs) : ((u.startRefresh sc k bs p1).bank sc k x).refreshing = true ∧
      ((u.startRefresh sc k bs p1).bank sc k x).openRow = none := by
    rw [State.startRefresh, State.bank_mapBanks _ _ _ _ hn hx]
    exact ⟨rfl, rfl⟩
  obtain ⟨banks, started⟩ := u.startRefresh_eq_setBanks sc k bs p1
  rw [started] at blocked ⊢
  refine ⟨fun x hx => ?_, ?_, fun j => ?_, Keeps.settle (keeps_setDram hk (by simp) _)⟩
  · rw [State.bank_settle]; exact blocked x hx
  · rw [settle_dram]; exact hlines
  · rw [State.chan_settle]; exact hchan j

/-- Leaving Idle concerns the quadrant alone (12 Table 12.3). -/
theorem State.leaveIdle_eq (s : State) (sc : Nat) : ∃ quads,
    s.leaveIdle sc = { s with dram := { s.dram with quads := quads } } := by
  unfold State.leaveIdle
  dsimp only
  split
  · exact ⟨_, rfl⟩
  · exact ⟨_, rfl⟩

theorem exec_refreshDue (sc r chip bk : Nat) (s : State) :
    exec (.refreshDue sc r chip bk) s = execRefreshDue sc r chip bk s := rfl
theorem exec_refreshComplete (sc r chip bk : Nat) (s : State) :
    exec (.refreshComplete sc r chip bk) s = execRefreshComplete sc r chip bk s := rfl
theorem exec_rfmCountMax (sc k bk : Nat) (s : State) : exec (.rfmCountMax sc k bk) s = execRfmCountMax sc k bk s := rfl

/-- A refresh may fall due on a rank: its quadrant takes commands, and the rank is populated and not in self-refresh. -/
structure Refreshable (s : State) (sc r : Nat) : Prop where
  runs : s.quadRuns sc = true
  populated : s.capOf r ≠ 0
  awake : (s.rank r).selfRefresh = false

section
variable {s : State} {sc r chip bk : Nat} (h : Refreshable s sc r)
include h

/-- A refresh is issued on idle banks, else postponed below the limit (04 R93). -/
theorem State.refreshDue_of_refreshable : s.refreshDue sc r chip bk =
    if s.banksIdle sc (r % 2) (s.refBanks r chip bk) = true ∧ (s.chan sc).slice = none then
      (s.leaveIdle sc).startRefresh sc (r % 2) (s.refBanks r chip bk) false
    else if (s.bank sc (r % 2) ((s.refBanks r chip bk).headD 0)).postponed < s.reg (ixChan (sc / 2)) 6 then
      s.mapBanks sc (r % 2) (s.refBanks r chip bk) fun _ x => { x with postponed := x.postponed + 1 }
    else s.dueAtP1 sc (r % 2) (s.refBanks r chip bk) false := by
  simp [State.refreshDue, h.runs, h.populated, h.awake]

variable (hon : s.aon.on = true)
include hon

theorem does_refreshDue_idle (hslice : (s.chan sc).slice = none)
    (hidle : s.banksIdle sc (r % 2) (s.refBanks r chip bk) = true) :
    Does (.refreshDue sc r chip bk) s fun t => Blocks s t sc (r % 2) (s.refBanks r chip bk) := by
  have fresh : Refreshable s.fresh sc r := ⟨h.runs, h.populated, h.awake⟩
  have issued : s.fresh.refreshDue sc r chip bk =
      (s.fresh.leaveIdle sc).startRefresh sc (r % 2) (s.refBanks r chip bk) false :=
    (State.refreshDue_of_refreshable fresh).trans (if_pos ⟨(s.banksIdle_fresh ..).trans hidle, hslice⟩)
  obtain ⟨quads, left⟩ := s.fresh.leaveIdle_eq sc
  refine does_of_effect hon (exec_refreshDue ..) issued ?_
  rw [left]
  exact blocks_startRefresh (s.refBanks_nodup ..) false rfl (fun _ => rfl) (keeps_setDram (Keeps.fresh s _) (by simp) _)

theorem does_refreshDue_postponed
    (hbusy : (s.chan sc).slice.isSome = true ∨ s.banksIdle sc (r % 2) (s.refBanks r chip bk) = false)
    (hlimit : (s.bank sc (r % 2) ((s.refBanks r chip bk).headD 0)).postponed < s.reg (ixChan (sc / 2)) 6) :
    Does (.refreshDue sc r chip bk) s fun t => (∀ x ∈ s.refBanks r chip bk, t.bank sc (r % 2) x =
      { s.bank sc (r % 2) x with postponed := (s.bank sc (r % 2) x).postponed + 1 }) ∧ Keeps s t [.dram] := by
  have fresh : Refreshable s.fresh sc r := ⟨h.runs, h.populated, h.awake⟩
  have notIdle : ¬ (s.fresh.banksIdle sc (r % 2) (s.refBanks r chip bk) = true ∧ (s.chan sc).slice = none) := by
    rintro ⟨hidle, hslice⟩
    rw [s.banksIdle_fresh] at hidle
    rcases hbusy with hb | hb
    · rw [hslice] at hb; cases hb
    · rw [hidle] at hb; cases hb
  have postponed := (State.refreshDue_of_refreshable (chip := chip) (bk := bk) fresh).trans
    ((if_neg notIdle).trans (if_pos hlimit))
  refine does_of_effect hon (exec_refreshDue ..) postponed
    ⟨fun x hx => ?_, Keeps.settle (keeps_mapBanks (Keeps.fresh s _) (by simp) _ _ _ _)⟩
  rw [State.bank_settle]
  exact State.bank_mapBanks _ _ _ _ (s.refBanks_nodup r chip bk) hx

end

/-- A bank at which a P1 command falls due: it yields to at most eight class 0 requests (06 R142). -/
def Bank.dueFor (x : Bank) (rfm : Bool) (class0 : List Nat) : Bank :=
  { x with urgent := x.urgent || !rfm, rfm := x.rfm || rfm
           yields := if x.urgent || x.rfm then x.yields else class0.take 8 }

/-- Where no class 0 request waits, nothing bars a P1 command that nothing barred before it fell due (06 R142). -/
theorem State.dueAtP1_starts {s : State} {sc k : Nat} {bs : List Nat} (hn : bs.Nodup) (rfm : Bool)
    (hslice : (s.chan sc).slice = none) (hbar : s.p1Barred sc k bs = false) (hwait : ∀ x ∈ bs, s.class0On sc k x = []) :
    ∃ banks, s.dueAtP1 sc k bs rfm = (s.setBanks banks).startRefresh sc k bs true := by
  obtain ⟨banks, due⟩ := s.mapBanks_eq_setBanks sc k (fun b x => x.dueFor rfm (s.class0On sc k b)) bs
  have bank (x : Nat) (hx : x ∈ bs) : (s.setBanks banks).bank sc k x = (s.bank sc k x).dueFor rfm (s.class0On sc k x) :=
    due ▸ s.bank_mapBanks sc k _ hn hx
  have chan : (s.setBanks banks).chan sc = s.chan sc := rfl
  have retry (x : Nat) : (s.setBanks banks).retryOn sc k x = s.retryOn sc k x := rfl
  have yields (x : Bank) (hx : (s.chan sc).holds x.yields = false) :
      (s.chan sc).holds (x.dueFor rfm []).yields = false := by
    unfold Bank.dueFor
    dsimp only
    split
    · exact hx
    · rfl
  have free : (s.setBanks banks).p1Barred sc k bs = false := by
    simp only [State.p1Barred, Bool.or_eq_false_iff, List.any_eq_false, Bool.not_eq_true, chan, retry] at hbar ⊢
    obtain ⟨hslice0, hbanks⟩ := hbar
    refine ⟨hslice0, fun x hx => ?_⟩
    obtain ⟨⟨⟨hrefresh, hyields⟩, hwaiting⟩, hretry⟩ := hbanks x hx
    rw [bank x hx, hwait x hx]
    exact ⟨⟨⟨hrefresh, yields _ hyields⟩, hwaiting⟩, hretry⟩
  have starts : s.dueAtP1 sc k bs rfm = if (s.chan sc).slice.isSome || (s.setBanks banks).p1Barred sc k bs then
      s.setBanks banks else (s.setBanks banks).startRefresh sc k bs true := by
    rw [← due]; rfl
  exact ⟨banks, by rw [starts, free, hslice]; rfl⟩

section
variable {s : State} (hon : s.aon.on = true)
include hon

/-- A refresh that ends frees the banks that it blocks (04 R94). -/
theorem does_refreshComplete (sc r chip bk : Nat) : Does (.refreshComplete sc r chip bk) s fun t =>
    (∀ x ∈ s.runningBanks sc r chip bk, t.bank sc (r % 2) x =
      (if (s.bank sc (r % 2) x).refreshing = true then
        { s.bank sc (r % 2) x with
          refreshing := false, p1 := false, whole := false
          raa := (s.bank sc (r % 2) x).raa - ((s.rfmOf r).map (·.1)).getD 0
          waiting := s.class0On sc (r % 2) x }
       else s.bank sc (r % 2) x)) ∧ Keeps s t [.dram] := by
  have once : ((s.runningBanks sc r chip bk).filter fun b => (s.bank sc (r % 2) b).refreshing).Nodup :=
    (s.runningBanks_nodup sc r chip bk).filter _
  refine does_of hon (exec_refreshComplete ..) ?_
  refine ⟨fun x hx => ?_, Keeps.settle (keeps_mapBanks (Keeps.fresh s _) (by simp) _ _ _ _)⟩
  rw [State.bank_settle]
  split
  · next hr =>
    refine (State.bank_mapBanks _ _ _ _ once (List.mem_filter.2 ⟨hx, hr⟩)).trans ?_
    dsimp only
    rw [s.class0On_fresh]
    rfl
  · next hr =>
    exact State.bank_mapBanks_of_notMem _ _ _ _ fun hm => hr (List.mem_filter.1 hm).2

/-- Refresh management of a bank whose count has reached the maximum, where nothing bars it, blocks its banks
(04 R95). -/
theorem does_rfmCountMax {sc k bk least top : Nat} (hrun : s.quadRuns sc = true) (hslice : (s.chan sc).slice = none)
    (hrfm : s.rfmOf (sc / 2 * 2 + k) = some (least, top)) (htop : top ≤ (s.bank sc k bk).raa)
    (hbar : s.p1Barred sc k (rfmBanks bk) = false) (hwait : ∀ x ∈ rfmBanks bk, s.class0On sc k x = []) :
    Does (.rfmCountMax sc k bk) s fun t => Blocks s t sc k (rfmBanks bk) := by
  obtain ⟨banks, started⟩ := State.dueAtP1_starts (s := s.fresh) (rfmBanks_nodup bk) true hslice hbar
    fun x hx => (s.class0On_fresh ..).trans (hwait x hx)
  refine does_of hon (exec_rfmCountMax ..) ?_
  have reached : s.fresh.quadRuns sc = true ∧ top ≤ (s.fresh.bank sc k bk).raa := ⟨hrun, htop⟩
  have required : s.fresh.rfmOf (sc / 2 * 2 + k) = some (least, top) := hrfm
  simp only [required, if_pos reached, started]
  exact blocks_startRefresh (rfmBanks_nodup bk) true rfl (fun _ => rfl) (keeps_setDram (Keeps.fresh s _) (by simp) _)

end

end Sys2Proof.Machine
end

section
/-! PROOFS. MR4 readings and parity errors of a rank (04 R97, R106, Table 04.3): the rank and one of its objects are
written, and a record is raised. -/
namespace Sys2Proof.Machine

open Sys2Proof.Safety

theorem exec_mr4Poll (r : Nat) (m : Mr4) (field : Nat) (s : State) :
    exec (.mr4Poll r m field) s = execMr4Poll r m field s := rfl
theorem exec_caParityError (ch : Nat) (r : Option Nat) (s : State) :
    exec (.caParityError ch r) s = execCaParityError ch r s := rfl

theorem dieOfRank_lt {s : State} {r : Nat} (h : r < 16 * s.n) : dieOfRank r < 8 := by
  have := s.n_le_eight
  unfold dieOfRank; omega

/-! A rank and one of its objects. -/

/-- A rank has become k and an object of it v, and nothing else of ranks' objects or of the rest has changed. -/
structure RankNoted (s t : State) (r sub v : Nat) (k : Rank) : Prop where
  rank : t.rank r = k
  reg : t.reg (ixRank r) sub = v
  regs : RegsBut s t [(ixRank r, sub)]
  keeps : Keeps s t [.dram, .regs]

theorem rankNoted_fresh (s : State) (r : Nat) {sub : Nat} (hsub : sub < 256) (v : Nat) (k : Rank) :
    RankNoted s ((s.fresh.setRank r k).setReg (ixRank r) sub v) r sub v k where
  rank := State.rank_setRank_same ..
  reg := State.reg_setReg_same ..
  regs := regsBut_setReg (RegsBut.refl s _) (by simp) hsub _
  keeps := keeps_setReg (keeps_setRank (Keeps.fresh s _) (by simp) _ _) (by simp) _ _ _

section
variable {s t : State} {r sub v : Nat} {k : Rank} (h : RankNoted s t r sub v k)
include h

theorem RankNoted.setRank (x : Rank) : RankNoted s (t.setRank r x) r sub v x where
  rank := State.rank_setRank_same ..
  reg := h.reg
  regs := h.regs
  keeps := keeps_setRank h.keeps (by simp) _ _

variable (hsub : sub < 256)
include hsub

theorem RankNoted.report {d : Nat} (hd : d < 8) (c w y : Nat) (a : List Nat) :
    RankNoted s (t.report d c w y a) r sub v k where
  rank := by rw [State.rank, State.report_dram]; exact h.rank
  reg := (t.reg_report_of_not_stagingCount hd _ _ _ _ hsub (not_stagingCount_ixRank r sub)).trans h.reg
  regs := regsBut_report h.regs hd _ _ _ _
  keeps := keeps_report h.keeps hd _ _ _ _

theorem RankNoted.settle : RankNoted s (settle t) r sub v k where
  rank := (t.rank_settle r).trans h.rank
  reg := (reg_settle_of_not_stagingCount t hsub (not_stagingCount_ixRank r sub)).trans h.reg
  regs := regsBut_settle h.regs
  keeps := Keeps.settle h.keeps

end

/-! The throttle that DRAM engages (20 R423). -/

/-- A die's throttle engages: its objects, the time, a record. -/
theorem State.setThrottle_engages {s : State} {d : Nat} (h : s.throttled d = false) : ∃ x,
    s.setThrottle d 2 = (((s.setReg (0x1010 + d) 6 2).inc (0x1010 + d) 7).setAdc d x).report d cThrottle 0 0 [d, 2] := by
  have old : s.reg (0x1010 + d) 6 = 0 := by simpa [State.throttled] using h
  simp only [State.setThrottle, old]
  exact ⟨_, rfl⟩

section
variable (s : State) {d : Nat} (hd : d < 8)

theorem State.rank_throttleByDram (d r : Nat) : (s.throttleByDram d).rank r = s.rank r := by
  unfold State.throttleByDram
  split
  · rfl
  · next h =>
    obtain ⟨x, engaged⟩ := State.setThrottle_engages (Bool.not_eq_true _ ▸ h)
    rw [engaged, State.rank, State.report_dram]
    rfl

include hd

theorem State.throttled_throttleByDram : (s.throttleByDram d).throttled d = true := by
  unfold State.throttleByDram
  split
  · assumption
  · next h =>
    obtain ⟨x, engaged⟩ := State.setThrottle_engages (Bool.not_eq_true _ ▸ h)
    have cause : (s.setThrottle d 2).reg (0x1010 + d) 6 = 2 := by
      rw [engaged, State.reg_report_of_not_stagingCount _ hd _ _ _ _ (by decide) (not_stagingCount_throttle hd 6),
        State.reg_setAdc, State.reg_inc_ne _ (okey_ne (by decide) (by decide) (.inr (by decide))), State.reg_setReg_same]
    simp [State.throttled, cause]

/-- An object of a rank has nothing to do with the throttle. -/
theorem State.reg_throttleByDram (r : Nat) {k : Nat} (hk : k < 256) :
    (s.throttleByDram d).reg (ixRank r) k = s.reg (ixRank r) k := by
  have other : ixRank r ≠ 0x1010 + d := by unfold ixRank ixChan; omega
  unfold State.throttleByDram
  split
  · rfl
  · next h =>
    obtain ⟨x, engaged⟩ := State.setThrottle_engages (Bool.not_eq_true _ ▸ h)
    rw [engaged, State.reg_report_of_not_stagingCount _ hd _ _ _ _ hk (not_stagingCount_ixRank r k),
      State.reg_setAdc, State.reg_inc_ne _ (okey_ne hk (by decide) (.inl other)),
      State.reg_setReg_ne _ _ (okey_ne hk (by decide) (.inl other))]

theorem State.throttled_settle : (settle s).throttled d = s.throttled d := by
  rw [State.throttled, State.throttled,
    reg_settle_of_not_stagingCount _ (by decide) (not_stagingCount_throttle hd 6)]

end

/-! MR4 readings. -/

/-- The refresh state of a rank changes with a reading, and a record is raised. -/
def State.refreshTurns (s : State) (r field : Nat) (k : Rank) (c sev : Nat) : State :=
  (((s.setRank r { s.rank r with mr4At := s.aon.now }).setReg (ixRank r) 8 field).setRank r k).report (dieOfRank r) c sev
    0 [r]

theorem rankNoted_refreshTurns (s : State) {r : Nat} (hd : dieOfRank r < 8) (field : Nat) (k : Rank) (c sev : Nat) :
    RankNoted s (s.fresh.refreshTurns r field k c sev) r 8 field k :=
  ((rankNoted_fresh s r (by decide) field _).setRank k).report (by decide) hd _ _ _ _

section
variable {s : State} {r : Nat} {k : Rank} (field : Nat)

theorem State.mr4_beyond (h : (s.rank r).refresh ≠ 2)
    (hk : k = { s.rank r with refresh := 2, mr4At := s.aon.now }) :
    s.mr4 r .beyond field = (s.refreshTurns r field k cOverTemp 2).throttleByDram (dieOfRank r) := by
  subst hk
  simp only [State.mr4, State.refreshTurns, State.rank_setRank_same, if_neg h]

theorem State.mr4_double (h : (s.rank r).refresh = 0)
    (hk : k = { s.rank r with refresh := 1, normalCount := 0, mr4At := s.aon.now }) :
    s.mr4 r .double field = s.refreshTurns r field k cRefreshDouble 0 := by
  subst hk
  simp only [State.mr4, State.refreshTurns, State.rank_setRank_same, if_pos h]

/-- The sixteenth normal reading in a row ends the doubled refresh. -/
theorem State.mr4_single (h : (s.rank r).refresh = 1) (hcount : 15 ≤ (s.rank r).normalCount)
    (hk : k = { s.rank r with refresh := 0, normalCount := 0, mr4At := s.aon.now }) :
    s.mr4 r .single field = s.refreshTurns r field k cRefreshSingle 0 := by
  have last : ¬ (s.rank r).normalCount + 1 < 16 := by omega
  subst hk
  simp only [State.mr4, State.refreshTurns, State.rank_setRank_same, h, if_neg last, one_ne_zero, if_false, if_true]

variable (hon : s.aon.on = true) (hcap : s.capOf r ≠ 0)
include hon hcap

section
variable (hmay : s.mayMr4 r = true)
include hmay

/-- A rank that may be read is read (04 R97). -/
theorem does_mr4Poll {m : Mr4} {u : State} {P : State → Prop} (hu : s.fresh.mr4 r m field = u) (h : P (settle u)) :
    Does (.mr4Poll r m field) s P := by
  have readable : ¬ (s.fresh.capOf r = 0 ∨ s.fresh.mayMr4 r = false) := by
    rw [s.mayMr4_fresh, hmay]
    exact fun h => h.elim hcap Bool.noConfusion
  refine does_of hon (exec_mr4Poll ..) ?_
  rw [if_neg readable, hu]
  exact h

variable (hr : r < 16 * s.n)
include hr

theorem does_mr4Poll_beyond (h : (s.rank r).refresh ≠ 2) : Does (.mr4Poll r .beyond field) s fun t =>
    t.rank r = { s.rank r with refresh := 2, mr4At := s.aon.now } ∧ t.reg (ixRank r) 8 = field ∧
      t.throttled (dieOfRank r) = true := by
  have hd := dieOfRank_lt hr
  have noted := rankNoted_refreshTurns s hd field { s.rank r with refresh := 2, mr4At := s.aon.now } cOverTemp 2
  refine does_mr4Poll field hon hcap hmay (State.mr4_beyond field h rfl) ⟨?_, ?_, ?_⟩
  · rw [State.rank_settle, State.rank_throttleByDram]; exact noted.rank
  · rw [reg_settle_of_not_stagingCount _ (by decide) (not_stagingCount_ixRank r 8),
      State.reg_throttleByDram _ hd r (by decide)]
    exact noted.reg
  · rw [State.throttled_settle _ hd, State.throttled_throttleByDram _ hd]

theorem does_mr4Poll_noted {m : Mr4} {c sev : Nat}
    (hu : s.fresh.mr4 r m field = s.fresh.refreshTurns r field k c sev) : Does (.mr4Poll r m field) s fun t =>
      t.rank r = k ∧ t.reg (ixRank r) 8 = field ∧ RegsBut s t [(ixRank r, 8)] ∧ Keeps s t [.dram, .regs] := by
  have noted := (rankNoted_refreshTurns s (dieOfRank_lt hr) field k c sev).settle (by decide)
  exact does_mr4Poll field hon hcap hmay hu ⟨noted.rank, noted.reg, noted.regs, noted.keeps⟩

end

/-- A parity error counts on the rank that it names (04 R106). -/
theorem does_caParityError {ch : Nat} (hch : ch < 8 * s.n) : Does (.caParityError ch (some r)) s fun t =>
    t.reg (ixRank r) 6 = min 0xFFFFFFFF (s.reg (ixRank r) 6 + 1) ∧
      (t.rank r).parity.head? = some s.aon.now ∧ RegsBut s t [(ixRank r, 6)] ∧ Keeps s t [.dram, .regs] := by
  have hd : ch / 8 < 8 := by
    have := s.n_le_eight
    omega
  have named : ([r].filter fun r => decide (s.fresh.capOf r ≠ 0)) = [r] :=
    List.filter_eq_self.2 fun x hx => by
      rw [List.mem_singleton.1 hx]
      exact decide_eq_true hcap
  have counted : (([r].filter fun r => decide (s.fresh.capOf r ≠ 0)).foldl (fun t r => t.countParity r) s.fresh).report
      (ch / 8) cParity 0 0 [ch] = (s.fresh.countParity r).report (ch / 8) cParity 0 0 [ch] := by
    rw [named]; rfl
  have noted := ((rankNoted_fresh s r (sub := 6) (by decide) (min u32max (s.reg (ixRank r) 6 + 1))
    { s.rank r with
      parity := s.aon.now :: ((s.rank r).parity.filter fun t => decide (s.aon.now - t < 60000000000)) }).report
    (by decide) hd cParity 0 0 [ch]).settle (by decide)
  exact does_of_effect hon (exec_caParityError ..) counted
    ⟨noted.reg, congrArg (·.parity.head?) noted.rank, noted.regs, noted.keeps⟩

end

end Sys2Proof.Machine
end

section
/-! PROOFS. Patrol scrub and the initialising pass of a spare (04 R107 to R109). -/
namespace Sys2Proof.Machine

open Sys2Proof.Safety

theorem exec_scrubReadDue (ch : Nat) (s : State) : exec (.scrubReadDue ch) s = execScrubReadDue ch s := rfl
theorem exec_scrubReadResult (ch : Nat) (errs : List Nat) (s : State) :
    exec (.scrubReadResult ch errs) s = execScrubReadResult ch errs s := rfl
theorem exec_scrubInitPass (r : Nat) (s : State) : exec (.scrubInitPass r) s = execScrubInitPass r s := rfl

/-! The patrol read of a line. -/

theorem queuedLine_eq_none {o : Nat} {l : List Req} (h : ∀ e ∈ l, e.dpa ≠ o) : queuedLine o l = none := by
  simpa [queuedLine] using h

/-- What a scrub may read is trusted: no thaw mark that a hibernation cleared is left in its quadrant (10 R260). -/
theorem State.untrusted_of_scrubMay {s : State} {r : Nat} (h : s.scrubMay r = true) (o : Nat) :
    s.untrusted r o = false := by
  simp only [State.scrubMay, Bool.and_eq_true, List.isEmpty_iff] at h
  obtain ⟨⟨-, hmarks⟩, -⟩ := h
  simp [State.untrusted, hmarks]

/-- The rank and the rank offset at which a channel's scrub stands (04 R107). -/
def State.scrubRank (s : State) (ch : Nat) : Nat := 2 * ch + (s.scrubOf ch).k
def State.scrubOff (s : State) (ch : Nat) : Nat := (s.scrubOf ch).line * 64

/-- A patrol read joins the queue of its physical line, as a class 3 request of the SW74's own (04 R86). -/
theorem State.queueOwn_scrub (s : State) (r off o : Nat) :
    s.queueOwn (.scrub r off) o 3 = (s.setNextReq (s.hosts.nextReq + 1)).setChan (subOf r off)
      { s.chan (subOf r off) with
        reads := (s.chan (subOf r off)).reads ++
          [{ s.ownRead (.scrub r off) o 3 with arr := (s.chan (subOf r off)).arrivals }]
        arrivals := (s.chan (subOf r off)).arrivals + 1 } := rfl

/-- A channel's next patrol read may be queued: none is in flight, the scrub may read the rank, and no queued write holds
the line (04 R90, R107 to R109). -/
structure PatrolDue (s : State) (ch : Nat) : Prop where
  free : (s.scrubOf ch).inFlight = false
  quad : (s.quad (ch / 8) (ch % 8 / 2)).st ≤ 1
  freeze : s.freeze.active = false
  may : s.scrubMay (s.scrubRank ch) = true
  line : ∀ e ∈ (s.chan (subOf (s.scrubRank ch) (s.scrubOff ch))).writes,
    e.dpa ≠ s.dpaOfPhys (s.scrubRank ch) (s.scrubOff ch)

theorem PatrolDue.queues {s : State} {ch : Nat} (h : PatrolDue s ch) :
    s.scrubDue ch = (s.setScrub ch { s.scrubOf ch with inFlight := true }).queueOwn
      (.scrub (s.scrubRank ch) (s.scrubOff ch)) (s.dpaOfPhys (s.scrubRank ch) (s.scrubOff ch)) 3 := by
  have awake : ¬ 1 < (s.quad (ch / 8) (ch % 8 / 2)).st := Nat.not_lt.2 h.quad
  have may : s.scrubMay (2 * ch + (s.scrubOf ch).k) = true := h.may
  have read : s.scrubDue ch = s.scrubRead ch (s.scrubRank ch) (s.scrubOff ch) := by
    simp [State.scrubDue, h.free, awake, h.freeze, may, State.scrubRank, State.scrubOff]
  rw [read, State.scrubRead]
  simp only [State.untrusted_of_scrubMay h.may, queuedLine_eq_none h.line, Bool.false_eq_true, if_false]

theorem does_scrubReadDue {s : State} (hon : s.aon.on = true) {ch : Nat} (h : PatrolDue s ch) :
    Does (.scrubReadDue ch) s fun t =>
      let sc := subOf (s.scrubRank ch) (s.scrubOff ch)
      t.scrubOf ch = { s.scrubOf ch with inFlight := true } ∧
      (∃ q, (t.chan sc).reads = (s.chan sc).reads ++ [q] ∧ q.src = .scrub (s.scrubRank ch) (s.scrubOff ch) ∧
        q.op = .read ∧ q.id = s.hosts.nextReq) ∧
      hostsAre t { s.hosts with nextReq := s.hosts.nextReq + 1 } ∧ Keeps s t [.dram, .hosts] := by
  have fresh : PatrolDue s.fresh ch := ⟨h.free, h.quad, h.freeze, h.may, h.line⟩
  have queued := fresh.queues.trans (State.queueOwn_scrub ..)
  refine does_of_effect hon (exec_scrubReadDue ..) queued ⟨?_, ?_, hostsAre_settle_of rfl, ?_⟩
  · rw [State.scrubOf_settle]
    exact s.scrubOf_setScrub_same ch _
  · exact ⟨_, congrArg (·.reads) ((State.chan_settle ..).trans (State.chan_setChan_same ..)), rfl, rfl, rfl⟩
  · exact Keeps.settle (keeps_setChan (keeps_setNextReq (keeps_setScrub (Keeps.fresh s _) (by simp) _ _) (by simp) _)
      (by simp) _ _)

/-! The result of a patrol read. -/

/-- The oldest read on the first subchannel of a channel is the patrol read at which its scrub stands, before the last
line of the rank, and the line holds data. -/
structure PatrolBack (s : State) (ch : Nat) (i : Issued) (l : List Issued) : Prop where
  issued : (s.chan (2 * ch)).issued = i :: l
  first : i.retry = false
  src : i.req.src = .scrub i.rank i.off
  position : (s.scrubOf ch).k < 2
  rank : i.rank = s.scrubRank ch
  off : i.off = s.scrubOff ch
  more : ((s.scrubOf ch).line + 1) * 64 < s.capOf i.rank
  data : ∃ w k, s.cellAt i.req.dpa i.rank i.off = .data w k

/-- A clean patrol read moves the scrub on to the next line of its rank (04 R107). -/
theorem PatrolBack.moves_on {s : State} {ch : Nat} {i : Issued} {l : List Issued} (h : PatrolBack s ch i l) :
    s.scrubResult ch [] = (s.setChan (2 * ch) { s.chan (2 * ch) with issued := l }).setScrub ch
      { s.scrubOf ch with line := (s.scrubOf ch).line + 1, inFlight := false } := by
  obtain ⟨w, k, cell⟩ := h.data
  have onChannel : i.rank / 2 = ch := by
    have rank := h.rank
    have position := h.position
    unfold State.scrubRank at rank
    omega
  have found : s.scrubResult ch [] =
      (s.setChan (2 * ch) { s.chan (2 * ch) with issued := l }).scrubNext ch i.rank i.off := by
    simp only [State.scrubResult, h.issued, takeIssued, h.src, onChannel, h.first, decide_true, Bool.not_false,
      Bool.and_self, if_true, cell, State.decodeLine, State.scrubFound]
  have here : ¬ (s.scrubRank ch ≠ i.rank ∨ s.scrubOff ch ≠ i.off) := by
    simp [← h.rank, ← h.off]
  rw [found]
  exact (if_neg here).trans (if_pos h.more)

theorem does_scrubReadResult {s : State} (hon : s.aon.on = true) {ch : Nat} {i : Issued} {l : List Issued}
    (h : PatrolBack s ch i l) : Does (.scrubReadResult ch []) s fun t =>
      t.scrubOf ch = { s.scrubOf ch with line := (s.scrubOf ch).line + 1, inFlight := false } ∧
      (t.chan (2 * ch)).issued = l ∧ t.dram.lines = s.dram.lines ∧ Keeps s t [.dram] := by
  have fresh : PatrolBack s.fresh ch i l := ⟨h.issued, h.first, h.src, h.position, h.rank, h.off, h.more, h.data⟩
  refine does_of_effect hon (exec_scrubReadResult ..) fresh.moves_on ⟨?_, ?_, ?_, ?_⟩
  · rw [State.scrubOf_settle, State.scrubOf_setScrub_same]
    rfl
  · rw [State.chan_settle]
    exact congrArg (·.issued) (s.chan_setChan_same ..)
  · rw [settle_dram]
    rfl
  · exact Keeps.settle (keeps_setScrub (keeps_setChan (Keeps.fresh s _) (by simp) _ _) (by simp) _ _)

/-! The initialising pass. -/

/-- A listed value under a key that a filter of keys drops is gone. -/
theorem look?_keepK {α : Type} {p : Nat → Bool} {a : Nat} (h : p a = false) (m : Sparse α) :
    look? (keepK p m) a = none := by
  refine look?_eq_none fun hm => ?_
  obtain ⟨e, he, rfl⟩ := List.mem_map.1 hm
  have := (List.mem_filter.1 he).2
  rw [h] at this
  cases this

/-- An initialising pass leaves no line of its rank listed: an unlisted line is the zero line (04 R109; log 4). -/
theorem does_scrubInitPass {s : State} (hon : s.aon.on = true) {r : Nat} (hst : (s.rank r).st = 3) (hinit : (s.rank r).initPass = false)
    (hfreeze : s.freeze.active = false) (h0 : s.slotFree (2 * (r / 2)) 10 = true)
    (h1 : s.slotFree (2 * (r / 2) + 1) 10 = true) : Does (.scrubInitPass r) s fun t =>
      t.rank r = { s.rank r with initPass := true } ∧
      (∀ off, look? t.dram.lines (lineKey r (64 * (off % 2 ^ 40))) = none) ∧ Keeps s t [.dram] := by
  have free : ([2 * (r / 2), 2 * (r / 2) + 1].all fun sc => s.fresh.slotFree sc 10) = true := by
    simp [s.slotFree_fresh, h0, h1]
  have begun : (s.fresh.rank r).st = 3 ∧ (s.fresh.rank r).initPass = false ∧ s.fresh.freeze.active = false ∧
      ([2 * (r / 2), 2 * (r / 2) + 1].all fun sc => s.fresh.slotFree sc 10) = true := ⟨hst, hinit, hfreeze, free⟩
  refine does_of_effect hon (exec_scrubInitPass ..) (if_pos begun) ⟨?_, fun off => ?_, ?_⟩
  · rw [State.rank_settle]
    exact s.rank_setRank_same r _
  · have ofRank : lineKey r (64 * (off % 2 ^ 40)) / 2 ^ 40 = r := by
      unfold lineKey; omega
    rw [settle_dram]
    exact look?_keepK (p := fun a => !decide (a / 2 ^ 40 = r)) (by simp only [ofRank, decide_true, Bool.not_true]) _
  · exact Keeps.settle (keeps_setDram (keeps_setRank (Keeps.fresh s _) (by simp) _ _) (by simp) _)

end Sys2Proof.Machine
end

section
/-! PROOFS. Refresh, refresh management, temperature, parity and scrub (O34). -/
namespace Sys2Proof.Machine

open Sys2Proof.Safety

/-- Settles O34: each command by what it does to banks, ranks and scrub positions. -/
theorem refreshAndCareOfRanks : Obligations.RefreshAndCareOfRanks := by
  intro s sc r chip bk ch field hon hr
  refine ⟨fun hrun hcap hself => ?_, does_refreshComplete hon sc r chip bk, ?_, fun hcap => ⟨?_, ?_, ?_, ?_⟩,
    ⟨?_, ?_⟩, ?_⟩
  · have due : Refreshable s sc r := ⟨hrun, hcap, hself⟩
    exact ⟨fun hslice hidle => does_refreshDue_idle due hon hslice hidle,
      fun hbusy hlimit => does_refreshDue_postponed due hon hbusy hlimit⟩
  · exact fun least top hrun hslice hrfm htop hbar hwait => does_rfmCountMax hon hrun hslice hrfm htop hbar hwait
  · exact fun hmay h => does_mr4Poll_beyond field hon hcap hmay hr h
  · exact fun hmay h => does_mr4Poll_noted field hon hcap hmay hr (State.mr4_double field h rfl)
  · exact fun hmay h hcount => does_mr4Poll_noted field hon hcap hmay hr (State.mr4_single field h hcount rfl)
  · exact fun hch => does_caParityError hon hcap hch
  · exact fun hfree hquad hfreeze hmay hline => does_scrubReadDue hon ⟨hfree, hquad, hfreeze, hmay, hline⟩
  · exact fun i l w k hissued hfirst hsrc hk hrank hoff hmore hcell =>
      does_scrubReadResult hon ⟨hissued, hfirst, hsrc, hk, hrank, hoff, hmore, w, k, hcell⟩
  · exact fun hst hinit hfreeze h0 h1 => does_scrubInitPass hon hst hinit hfreeze h0 h1

end Sys2Proof.Machine
end

section
/-! PROOFS. A write that stands among the reads of a channel stays there (O33). O33 says of a lone ready request of a
read queue, whose row is open, that the slot takes it out of the queue. That is so of a read. A write's column command
serves the write queue (04 R89, R104; `State.issueColumn`) and leaves the reads alone. Only reads join a read queue
(`State.enterChannel`, `State.joinQueue`, `State.queueOwn`), but O33 speaks of every state. -/
namespace Sys2Proof.Machine

open Sys2Proof.Safety

theorem exec_commandSlot (sc : Nat) (s : State) : exec (.commandSlot sc) s = execCommandSlot sc s := rfl

/-- A slot in which a request is chosen for a column command issues it, with no other change to the read queue. -/
theorem State.commandSlot_column {s : State} {sc : Nat} {q : Req} (hrun : s.quadRuns sc = true)
    (hslice : (s.chan sc).slice = none) (hurgent : s.urgentBank sc = none)
    (hpick : s.choose sc (s.slotList sc (s.batchNow (s.chan sc)).1) = some (true, q)) :
    ∃ c, c.reads = (s.chan sc).reads ∧ s.commandSlot sc = ((s.setChan sc c).leaveIdle sc).issueColumn sc q := by
  unfold State.commandSlot
  simp only [hrun, hslice, hurgent, hpick, ite_self]
  refine ⟨_, ?_, rfl⟩
  rfl

/-- The column command of a partial write locks it in the write queue and has its line read; the read queue stays as it
is (04 R104). -/
theorem State.reads_issueColumn_partialWrite {s : State} {sc : Nat} {q : Req} (hop : q.op = .partialWrite) :
    ((s.issueColumn sc q).chan sc).reads = (s.chan sc).reads := by
  unfold State.issueColumn
  simp only [hop, State.issueRead, State.chan_setChan_same]
  rfl

theorem State.reads_leaveIdle (s : State) (sc j : Nat) : ((s.leaveIdle sc).chan j).reads = (s.chan j).reads := by
  obtain ⟨quads, left⟩ := s.leaveIdle_eq sc
  rw [left]
  rfl

theorem State.reads_commandSlot_partialWrite {s : State} {sc : Nat} {q : Req} (hrun : s.quadRuns sc = true)
    (hslice : (s.chan sc).slice = none) (hurgent : s.urgentBank sc = none)
    (hpick : s.choose sc (s.slotList sc (s.batchNow (s.chan sc)).1) = some (true, q)) (hop : q.op = .partialWrite) :
    ((s.commandSlot sc).chan sc).reads = (s.chan sc).reads := by
  obtain ⟨c, hreads, issued⟩ := State.commandSlot_column hrun hslice hurgent hpick
  rw [issued, State.reads_issueColumn_partialWrite hop, State.reads_leaveIdle, State.chan_setChan_same, hreads]

/-- A partial write of a host to the first line. -/
def strayWrite : Req :=
  { src := .host, id := 0, port := 0, link := 0, tag := 0, op := .partialWrite, dpa := 0, data := 0, be := 1, cls := 2
    ten := 0, key := { transit := false, slot := 0, gen := 0 }, born := 0, enter := 0, arr := 0, met := false
    promoted := false, silent := false, answered := false, confirmed := true, locked := false }

/-- One rank in a quadrant that runs, and a partial write alone among the reads of its subchannel 0, its row open. -/
def writeAmongReads : State :=
  { State.reset with dram := { State.reset.dram with
      ranks := [(0, { noRank with train := 1, st := 1, trained := true, density := 32, stack := 4 })]
      quads := [(0, { noQuad with st := 0 })]
      banks := [(0, { noBank with openRow := some 0 })]
      chans := [(0, { noChan with reads := [strayWrite] })] } }

theorem writeAmongReads_chosen : writeAmongReads.choose 0
    (writeAmongReads.slotList 0 (writeAmongReads.batchNow (writeAmongReads.chan 0)).1) = some (true, strayWrite) := by
  decide +kernel

/-- The slot leaves the write among the reads. -/
theorem reads_commandSlot_writeAmongReads {t : State} (h : exec (.commandSlot 0) writeAmongReads = .next t) :
    (t.chan 0).reads = [strayWrite] := by
  rw [exec_commandSlot, execCommandSlot, act_on _ rfl, Host.Outcome.next.injEq] at h
  rw [← h, State.chan_settle]
  exact State.reads_commandSlot_partialWrite (s := writeAmongReads.fresh) (by decide) rfl (by decide)
    writeAmongReads_chosen rfl

/-- Refutes O33: a slot serves a lone partial write that stands among the reads, its row open, and the read queue still
holds it. -/
theorem not_commandSlotsAndBurstsServeRequests : ¬ Obligations.CommandSlotsAndBurstsServeRequests := by
  intro h
  obtain ⟨slots, -⟩ := h writeAmongReads 0 strayWrite rfl rfl
  obtain ⟨lone, -⟩ := slots (by decide) rfl (by decide)
  obtain ⟨column, -⟩ := lone rfl rfl (by decide +kernel)
  obtain ⟨t, ht, hreads, -⟩ := column (by decide +kernel) (by decide +kernel)
  rw [reads_commandSlot_writeAmongReads ht] at hreads
  exact absurd hreads (List.cons_ne_nil _ _)

end Sys2Proof.Machine
end

section
/-! PROOFS. What training knows of a rank, and which ranks an effect of training concerns (05 R116, R119): each effect
of start-up training is about one rank position, and leaves tenancies, quadrants and the training of every other one. -/
namespace Sys2Proof.Machine

open Sys2Proof.Safety

@[simp] theorem State.rank_report (s : State) (d c v w : Nat) (a : List Nat) (r : Nat) :
    (s.report d c v w a).rank r = s.rank r := by
  rw [State.rank, State.report_dram]; rfl

@[simp] theorem State.rank_setReg (s : State) (i k v r : Nat) : (s.setReg i k v).rank r = s.rank r := rfl

theorem State.rank_setRank_ne (s : State) {r j : Nat} (k : Rank) (h : j ≠ r) : (s.setRank r k).rank j = s.rank j :=
  look_put_ne _ _ _ h

/-- Training state, density and stack height of a rank (05 G+1+k.01, Table 05.2 step 3). -/
def Rank.fit (k : Rank) : Nat × Nat × Nat := (k.train, k.density, k.stack)

/-- What training says of a rank position: how it fits, and why it failed (05 G+1+k.08). -/
def State.trainingOf (s : State) (r : Nat) : (Nat × Nat × Nat) × Nat := ((s.rank r).fit, s.reg (ixTrainRank r) 8)

/-- From one state to another, at most these rank positions have been trained or recorded. -/
structure TrainsOnly (l : Set Nat) (s t : State) : Prop where
  ten : t.ten = s.ten
  build : t.build = s.build
  quads : t.dram.quads = s.dram.quads
  others : ∀ k < 128, k ∉ l → t.trainingOf k = s.trainingOf k
  recorded : ∀ k ∉ l, look? t.dram.population k = look? s.dram.population k

theorem TrainsOnly.refl (l : Set Nat) (s : State) : TrainsOnly l s s :=
  ⟨rfl, rfl, rfl, fun _ _ _ => rfl, fun _ _ => rfl⟩

theorem TrainsOnly.trans {l : Set Nat} {s t u : State} (h : TrainsOnly l s t) (h' : TrainsOnly l t u) :
    TrainsOnly l s u :=
  ⟨h'.ten.trans h.ten, h'.build.trans h.build, h'.quads.trans h.quads,
    fun k hk hm => (h'.others k hk hm).trans (h.others k hk hm),
    fun k hm => (h'.recorded k hm).trans (h.recorded k hm)⟩

/-- The same state with this population record. -/
def State.setPopulation (s : State) (p : Sparse RankDev) : State := { s with dram := { s.dram with population := p } }

/-! One write. -/

/-- A write that keeps how a rank fits. -/
theorem State.trainingOf_setRank_of_fit (s : State) {r : Nat} {k : Rank} (hk : k.fit = (s.rank r).fit) (j : Nat) :
    (s.setRank r k).trainingOf j = s.trainingOf j := by
  have fit : ((s.setRank r k).rank j).fit = (s.rank j).fit := by
    by_cases h : j = r
    · rw [h, State.rank_setRank_same, hk]
    · rw [State.rank_setRank_ne _ _ h]
  exact congrArg (·, s.reg (ixTrainRank j) 8) fit

theorem State.trainingOf_report (s : State) (d c v w : Nat) (a : List Nat) (j : Nat) :
    (s.report d c v w a).trainingOf j = s.trainingOf j := by
  rw [State.trainingOf, State.rank_report,
    State.reg_report _ _ _ _ _ _ (okey_ne (by decide) (by decide) (.inr (by decide)))
      (okey_ne (by decide) (by decide) (.inr (by decide)))]
  rfl

/-- An object other than the reason of a rank's failure. -/
theorem State.trainingOf_setReg (s : State) {i k j : Nat} (hk : k < 256) (h : ixTrainRank j ≠ i ∨ k ≠ 8) (v : Nat) :
    (s.setReg i k v).trainingOf j = s.trainingOf j :=
  congrArg ((s.rank j).fit, ·) (s.reg_setReg_ne v (okey_ne (by decide) hk (h.imp_right Ne.symm)))

theorem ixTrainRank_lt {r : Nat} (h : r < 128) : ixTrainRank r < 0x5000 := by
  unfold ixTrainRank ixTrain; omega

theorem ixTrainRank_inj {r j : Nat} (h : ixTrainRank r = ixTrainRank j) : r = j := by
  unfold ixTrainRank ixTrain at h; omega

section
variable {l : Set Nat} {s t : State} (h : TrainsOnly l s t)
include h

/-- A step after which training says the same of every position. -/
theorem TrainsOnly.step {u : State} (hten : u.ten = t.ten) (hbuild : u.build = t.build)
    (hquads : u.dram.quads = t.dram.quads) (hpop : u.dram.population = t.dram.population)
    (hof : ∀ k < 128, k ∉ l → u.trainingOf k = t.trainingOf k) : TrainsOnly l s u :=
  h.trans ⟨hten, hbuild, hquads, hof, fun _ _ => by rw [hpop]⟩

theorem trainsOnly_setRank {r : Nat} (hr : r ∈ l) (k : Rank) : TrainsOnly l s (t.setRank r k) :=
  h.step rfl rfl rfl rfl fun j _ hj => by
    have other : (t.setRank r k).rank j = t.rank j := t.rank_setRank_ne k fun he => hj (he ▸ hr)
    exact congrArg (fun x => (Rank.fit x, t.reg (ixTrainRank j) 8)) other

theorem trainsOnly_setRank_of_fit {r : Nat} {k : Rank} (hk : k.fit = (t.rank r).fit) : TrainsOnly l s (t.setRank r k) :=
  h.step rfl rfl rfl rfl fun j _ _ => t.trainingOf_setRank_of_fit hk j

/-- An object of another subindex than the reasons have. -/
theorem trainsOnly_setReg {k : Nat} (hk : k < 256) (h8 : k ≠ 8) (i v : Nat) : TrainsOnly l s (t.setReg i k v) :=
  h.step rfl rfl rfl rfl fun _ _ _ => t.trainingOf_setReg hk (.inr h8) v

/-- An object of another index than training has. -/
theorem trainsOnly_setReg_above {i k : Nat} (hk : k < 256) (hi : 0x5000 ≤ i) (v : Nat) :
    TrainsOnly l s (t.setReg i k v) :=
  h.step rfl rfl rfl rfl fun _ hj _ => t.trainingOf_setReg hk (.inl (by have := ixTrainRank_lt hj; omega)) v

theorem trainsOnly_setReason {r : Nat} (hr : r ∈ l) (v : Nat) : TrainsOnly l s (t.setReg (ixTrainRank r) 8 v) :=
  h.step rfl rfl rfl rfl fun j _ hj =>
    t.trainingOf_setReg (by decide) (.inl fun he => hj ((ixTrainRank_inj he : j = r) ▸ hr)) v

theorem trainsOnly_setDom (i k : Nat) (b : Bytes) : TrainsOnly l s (t.setDom i k b) :=
  h.step rfl rfl rfl rfl fun _ _ _ => rfl

theorem trainsOnly_setDie (d : Nat) (x : DieShadow) : TrainsOnly l s (t.setDie d x) :=
  h.step rfl rfl rfl rfl fun _ _ _ => rfl

theorem trainsOnly_report (d c v w : Nat) (a : List Nat) : TrainsOnly l s (t.report d c v w a) :=
  h.step (State.report_ten ..) (State.report_build ..) (by rw [State.report_dram]) (by rw [State.report_dram])
    fun j _ _ => t.trainingOf_report _ _ _ _ _ j

theorem trainsOnly_setPopulation {p : Sparse RankDev} (hp : ∀ k ∉ l, look? p k = look? t.dram.population k) :
    TrainsOnly l s (t.setPopulation p) :=
  h.trans ⟨rfl, rfl, rfl, fun _ _ _ => rfl, hp⟩

end

/-- An effect run for each element of a list. -/
theorem trainsOnly_foldl {α : Type} {l : Set Nat} {f : State → α → State}
    (hf : ∀ {s t : State} (a : α), TrainsOnly l s t → TrainsOnly l s (f t a)) {s t : State} (h : TrainsOnly l s t)
    (m : List α) : TrainsOnly l s (m.foldl f t) :=
  List.foldlRecOn m f h fun _ hb a _ => hf a hb

/-- An effect of training on a rank position, with what became of the position. -/
def Trains {α : Type} (f : State → Nat × α → State) : Prop :=
  ∀ {l : Set Nat} {s t : State} (e : Nat × α), TrainsOnly l s t → e.1 ∈ l → TrainsOnly l s (f t e)

theorem Trains.all {α : Type} {f : State → Nat × α → State} (hf : Trains f) {s t : State}
    (h : TrainsOnly Set.univ s t) (m : List (Nat × α)) : TrainsOnly Set.univ s (m.foldl f t) :=
  trainsOnly_foldl (fun e ht => hf e ht (Set.mem_univ _)) h m

/-- Of a list of rank positions, each once, one is trained at its turn: before and after it, others are. -/
theorem Trains.turn {α : Type} {f : State → Nat × α → State} (hf : Trains f) {m : List (Nat × α)}
    (hn : (m.map Prod.fst).Nodup) {r : Nat} {a : α} (hm : (r, a) ∈ m) (s : State) :
    ∃ u, TrainsOnly {r}ᶜ s u ∧ TrainsOnly {r}ᶜ (f u (r, a)) (m.foldl f s) := by
  induction m generalizing s with
  | nil => cases hm
  | cons e m ih =>
    rw [List.map_cons, List.nodup_cons] at hn
    obtain ⟨he, hn⟩ := hn
    rcases List.mem_cons.1 hm with rfl | hm
    · refine ⟨s, .refl _ s, List.foldlRecOn m f (.refl _ _) fun t ht x hx => hf x ht ?_⟩
      have key : x.1 ∈ m.map Prod.fst := List.mem_map_of_mem hx
      exact fun hx' => he (hx' ▸ key)
    · obtain ⟨u, before, after⟩ := ih hn hm (f s e)
      refine ⟨u, (hf e (.refl _ s) ?_).trans before, after⟩
      exact fun hx => he (hx ▸ List.mem_map_of_mem (f := Prod.fst) hm)

end Sys2Proof.Machine
end

section
/-! PROOFS. Start-up training of one rank position, and the end of a quadrant's training (05 R116, R119, Table 05.3). -/
namespace Sys2Proof.Machine

open Sys2Proof.Safety

/-! Each effect trains its own position. -/

section
variable {l : Set Nat} {s t : State} (h : TrainsOnly l s t)
include h

theorem trainsOnly_setRankSt (r st : Nat) : TrainsOnly l s (t.setRankSt r st) :=
  trainsOnly_setReg (trainsOnly_setRank_of_fit h (k := { t.rank r with st := st }) rfl) (by decide) (by decide) _ _

theorem trainsOnly_putSide (r : Nat) (write : Bool) (e : List EyeFound) : TrainsOnly l s (t.putSide r write e) := by
  have codes (i : Nat) (x y z : Bytes) : TrainsOnly l s (((t.setDom i 2 x).setDom i 3 y).setDom i 4 z) :=
    trainsOnly_setDom (trainsOnly_setDom (trainsOnly_setDom h _ _ _) _ _ _) _ _ _
  cases write with
  | true => exact codes ..
  | false => exact trainsOnly_setRank_of_fit (codes ..) rfl

theorem trainsOnly_clearRank (r : Nat) : TrainsOnly l s (t.clearRank r) := by
  unfold State.clearRank
  have cleared (v : Nat) : TrainsOnly l s (t.setReg (0x6910 + dieOfRank r) 8 v) :=
    trainsOnly_setReg_above h (by decide) (by omega) v
  have leaves (v st : Nat) : TrainsOnly l s
      (((t.setReg (0x6910 + dieOfRank r) 8 v).setRankSt r st).setReason r 0) :=
    trainsOnly_setReg (trainsOnly_setRankSt (cleared v) r st) (by decide) (by decide) _ _
  dsimp only
  repeat' split
  · exact h
  · exact leaves ..
  · exact leaves ..
  · exact leaves ..
  · exact cleared _

variable {r : Nat} (hr : r ∈ l)
include hr

theorem trainsOnly_landRank (k : Rank) : TrainsOnly l s (t.landRank r k) := by
  have landed := trainsOnly_setRank h hr k
  unfold State.landRank
  dsimp only
  split
  · exact landed
  · exact trainsOnly_setReg landed (by decide) (by decide) _ _

theorem trainsOnly_calibrated (osc : List Nat) : TrainsOnly l s (t.calibrated r osc) := by
  have regs (i a b c : Nat) : TrainsOnly l s (((t.setReg i 5 a).setReg i 6 b).setReg i 7 c) :=
    trainsOnly_setReg (trainsOnly_setReg (trainsOnly_setReg h (by decide) (by decide) _ _) (by decide) (by decide) _ _)
      (by decide) (by decide) _ _
  unfold State.calibrated
  dsimp only
  exact trainsOnly_setRank_of_fit (trainsOnly_setReason (regs ..) hr 0) rfl

theorem trainsOnly_publish (x : Trained) : TrainsOnly l s (t.publish r x) := by
  have sides := trainsOnly_putSide (trainsOnly_putSide h r false x.read) r true x.write
  unfold State.publish
  exact trainsOnly_setRank_of_fit (trainsOnly_calibrated sides hr x.osc) rfl

theorem trainsOnly_trainFail (reason : Nat) (dev : Option RankDev) : TrainsOnly l s (t.trainFail r reason dev) :=
  trainsOnly_report (trainsOnly_setReason (trainsOnly_landRank h hr _) hr _) _ _ _ _ _

theorem trainsOnly_trainPass (x : Trained) : TrainsOnly l s (t.trainPass r x) := by
  unfold State.trainPass
  dsimp only
  split
  · exact trainsOnly_report (trainsOnly_landRank h hr _) _ _ _ _ _
  · exact trainsOnly_clearRank (trainsOnly_publish (trainsOnly_landRank h hr _) hr x) r

theorem trainsOnly_trainOne (x : RankTrain) : TrainsOnly l s (t.trainOne r x) := by
  unfold State.trainOne
  split
  · exact trainsOnly_landRank h hr _
  · split
    · exact trainsOnly_trainPass h hr _
    · exact trainsOnly_trainFail h hr _ _

end

/-! The population record. -/

theorem look?_insertK_of_mem {l : Set Nat} {r : Nat} (hr : r ∈ l) (m : Sparse RankDev) (dev : RankDev) :
    ∀ k ∉ l, look? (insertK m r dev) k = look? m k := fun _ hk => look?_insertK_ne m dev fun he => hk (he ▸ hr)

theorem look?_eraseK_of_mem {l : Set Nat} {r : Nat} (hr : r ∈ l) (m : Sparse RankDev) :
    ∀ k ∉ l, look? (eraseK m r) k = look? m k := fun _ hk => look?_eraseK_ne m fun he => hk (he ▸ hr)

theorem trainsOnly_recordPopulation {l : Set Nat} {s t : State} (h : TrainsOnly l s t) {r : Nat} (hr : r ∈ l)
    (x : RankTrain) : TrainsOnly l s (t.recordPopulation r x) := by
  unfold State.recordPopulation
  repeat' split
  · exact h
  · exact trainsOnly_setPopulation h (look?_insertK_of_mem hr _ _)
  · exact trainsOnly_setPopulation h (look?_eraseK_of_mem hr _)
  · exact h

/-- Recording writes the population record alone. -/
theorem State.trainingOf_recordPopulation (s : State) (r : Nat) (x : RankTrain) (j : Nat) :
    (s.recordPopulation r x).trainingOf j = s.trainingOf j := by
  unfold State.recordPopulation
  repeat' split
  all_goals rfl

theorem trainsOnly_trainLate {l : Set Nat} {s t : State} (h : TrainsOnly l s t) {r : Nat} (hr : r ∈ l)
    (x : Option RankTrain) : TrainsOnly l s (t.trainLate r x) := by
  unfold State.trainLate
  cases x with
  | some x => exact trainsOnly_recordPopulation (trainsOnly_trainOne h hr x) hr x
  | none =>
    dsimp only
    split
    · exact trainsOnly_trainOne h hr _
    · exact trainsOnly_trainFail h hr _ _

/-! What becomes of the position itself. -/

theorem State.rank_landRank (s : State) (r : Nat) (k : Rank) : (s.landRank r k).rank r = k := by
  unfold State.landRank
  dsimp only
  split
  · exact s.rank_setRank_same r k
  · exact s.rank_setRank_same r k

theorem State.fit_setRank_same (s : State) (r : Nat) (k : Rank) : ((s.setRank r k).rank r).fit = k.fit :=
  congrArg Rank.fit (s.rank_setRank_same r k)

theorem State.fit_calibrated (s : State) (r : Nat) (osc : List Nat) :
    ((s.calibrated r osc).rank r).fit = (s.rank r).fit := by
  simp only [State.calibrated, State.rank_setRank_same, State.rank_setReg, Rank.fit]

/-- What is measured of a rank leaves how it fits. -/
theorem State.fit_publish (s : State) {r : Nat} (hr : r < 128) (x : Trained) :
    ((s.publish r x).rank r).fit = (s.rank r).fit := by
  have sides := (trainsOnly_putSide (trainsOnly_putSide (.refl ∅ s) r false x.read) r true x.write).others r hr id
  calc ((s.publish r x).rank r).fit
      = ((((s.putSide r false x.read).putSide r true x.write).calibrated r x.osc).rank r).fit :=
        State.fit_setRank_same ..
    _ = (((s.putSide r false x.read).putSide r true x.write).rank r).fit := State.fit_calibrated ..
    _ = (s.rank r).fit := congrArg Prod.fst sides

/-- A silent position outside the record is absent (Table 05.3). -/
theorem State.fit_trainOne_silent {s : State} {r : Nat} {x : RankTrain} (hsilent : startsSilent x = true)
    (hrecord : look? s.dram.population r = none) : ((s.trainOne r x).rank r).fit = (0, 0, 0) := by
  have absent : (startsSilent x && (look? s.dram.population r).isNone) = true := by rw [hsilent, hrecord]; rfl
  unfold State.trainOne
  rw [if_pos absent, State.rank_landRank]
  rfl

section
variable {s : State} {r : Nat} {x : RankTrain}
    (hpresent : startsSilent x = false ∨ (look? s.dram.population r).isSome = true)
include hpresent

theorem not_absent_of_present : ¬ (startsSilent x && (look? s.dram.population r).isNone) = true := by
  rw [← Option.not_isSome]
  rcases hpresent with hp | hp <;> simp [hp]

theorem State.trainOne_of_ok {t : Trained} (hout : trainOutcome x = .ok t) : s.trainOne r x = s.trainPass r t := by
  unfold State.trainOne
  rw [if_neg (not_absent_of_present hpresent), hout]

theorem State.trainOne_of_error {reason : Nat} (hout : trainOutcome x = .error reason) :
    s.trainOne r x = s.trainFail r reason (trainDev x) := by
  unfold State.trainOne
  rw [if_neg (not_absent_of_present hpresent), hout]

/-- A rank that trains while no tenancy is LIVE or FENCED is in service (Table 05.3). -/
theorem State.fit_trainOne_ok (hr : r < 128) {t : Trained} (hout : trainOutcome x = .ok t) (hopen : s.anyOpen = false) :
    ((s.trainOne r x).rank r).fit = (1, t.dev.density, t.dev.stack) := by
  rw [State.trainOne_of_ok hpresent hout]
  have shut : ¬ (s.anyOpen = true ∧ look? s.dram.population r ≠ some t.dev) := fun h => by
    rw [hopen] at h; cases h.1
  dsimp only [State.trainPass]
  rw [if_neg shut]
  refine (congrArg Prod.fst ((trainsOnly_clearRank (.refl ∅ _) r).others r hr id)).trans ?_
  exact (State.fit_publish _ hr t).trans (congrArg Rank.fit (State.rank_landRank ..))

end

theorem State.train_trainFail (s : State) (r reason : Nat) (dev : Option RankDev) :
    ((s.trainFail r reason dev).rank r).train = 3 := by
  unfold State.trainFail
  rw [State.rank_report]
  exact congrArg (·.train) (State.rank_landRank ..)

theorem State.reason_trainFail (s : State) (r reason : Nat) (dev : Option RankDev) :
    (s.trainFail r reason dev).reg (ixTrainRank r) 8 = reason :=
  (congrArg Prod.snd (State.trainingOf_report _ _ _ _ _ _ r)).trans (State.reg_setReg_same ..)

/-! The end of a quadrant's training. -/

section
variable {l : Set Nat} {s t : State} (h : TrainsOnly l s t)
include h

theorem trainsOnly_placeSpares (d : Nat) : TrainsOnly l s (t.placeSpares d) := by
  unfold State.placeSpares
  dsimp only
  refine trainsOnly_foldl (fun i ht => ?_) ?_ _
  · split
    · exact trainsOnly_setRankSt ht _ _
    · exact ht
  · exact h.step rfl rfl rfl rfl fun _ _ _ => rfl

theorem trainsOnly_addMoraine (d b reason : Nat) : TrainsOnly l s (t.addMoraine d b reason) := by
  unfold State.addMoraine
  dsimp only
  split
  · exact h
  · exact trainsOnly_setDie h _ _

theorem trainsOnly_addFactory (d f : Nat) (nd : NandDev) : TrainsOnly l s (t.addFactory d f nd) :=
  trainsOnly_foldl (fun _ ht => trainsOnly_addMoraine ht _ _ _) h _

theorem trainsOnly_channelLost (d f : Nat) : TrainsOnly l s (t.channelLost d f) := by
  unfold State.channelLost
  refine trainsOnly_setReg (trainsOnly_foldl (fun x ht => ?_) h _) (by decide) (by decide) _ _
  refine trainsOnly_report (trainsOnly_setDie ?_ _ _) _ _ _ _ _
  exact trainsOnly_foldl (fun b hu => trainsOnly_addMoraine hu d b 5) (trainsOnly_setDie ht _ _) _

theorem trainsOnly_trainFlash (d : Nat) : TrainsOnly l s (t.trainFlash d) := by
  unfold State.trainFlash
  refine trainsOnly_foldl (fun {s t} f ht => ?_) h _
  extract_lets o differs t1 t2 t3
  have h1 : TrainsOnly l s t1 := trainsOnly_setReg ht (by decide) (by decide) _ _
  have h2 : TrainsOnly l s t2 := by
    unfold t2
    split
    · exact trainsOnly_report h1 _ _ _ _ _
    · exact h1
  have h3 : TrainsOnly l s t3 := by
    unfold t3
    repeat' split
    · exact trainsOnly_addFactory h2 _ _ _
    · exact h2
    · exact h2
  repeat' split
  · exact trainsOnly_setReg h3 (by decide) (by decide) _ _
  · exact trainsOnly_channelLost h3 _ _
  · exact h3

theorem trainsOnly_releaseDie (d : Nat) : TrainsOnly l s (t.releaseDie d) :=
  h.step rfl rfl rfl rfl fun _ _ _ => rfl

theorem trainsOnly_recordGlacier : TrainsOnly l s t.recordGlacier := by
  unfold State.recordGlacier
  repeat' split
  · exact h.step rfl rfl rfl rfl fun _ _ _ => rfl
  · exact h
  · exact h

theorem trainsOnly_finishTraining (d : Nat) : TrainsOnly l s (t.finishTraining d) := by
  have released : TrainsOnly l s (((t.placeSpares d).trainFlash d).releaseDie d) :=
    trainsOnly_releaseDie (trainsOnly_trainFlash (trainsOnly_placeSpares h d) d) d
  unfold State.finishTraining
  dsimp only
  split
  · split
    · exact trainsOnly_recordGlacier released
    · exact released
  · exact h

end

end Sys2Proof.Machine
end

section
/-! PROOFS. The rank positions of a quadrant, and channels of unequal ranks (04 R82, log 129). -/
namespace Sys2Proof.Machine

open Sys2Proof.Safety

/-! Each position of a quadrant is listed once. -/

theorem nodup_keys_zip {α β : Type} {l : List α} (hl : l.Nodup) (m : List β) : ((l.zip m).map Prod.fst).Nodup := by
  induction l generalizing m with
  | nil => simp
  | cons a l ih =>
    cases m with
    | nil => simp
    | cons b m =>
      obtain ⟨ha, hl⟩ := List.nodup_cons.1 hl
      refine List.nodup_cons.2 ⟨fun hm => ha ?_, ih hl m⟩
      obtain ⟨e, he, rfl⟩ := List.mem_map.1 hm
      exact (List.of_mem_zip he).1

theorem nodup_trainPairs {α : Type} (d q : Nat) (res : List α) : ((trainPairs d q res).map Prod.fst).Nodup :=
  nodup_keys_zip (List.nodup_range.map fun i j (h : 16 * d + 4 * q + i = 16 * d + 4 * q + j) => by omega) res

theorem mem_trainPairs {α : Type} {d q i : Nat} (hi : i < 4) {res : List α} {a : α} (ha : res[i]? = some a) :
    (16 * d + 4 * q + i, a) ∈ trainPairs d q res := by
  refine List.mem_of_getElem? (i := i) (List.getElem?_zip_eq_some.2 ⟨?_, ha⟩)
  simp [ranksOf, hi]

/-! Unequal ranks count as silent. -/

theorem State.barMixed_of_ten {s t : State} (h : t.ten = s.ten) : ∀ res, t.barMixed res = s.barMixed res
  | [] => rfl
  | [_] => rfl
  | a :: b :: l => by
    have same : t.anyOpen = s.anyOpen := by rw [State.anyOpen, h]; rfl
    rw [State.barMixed, State.barMixed, same, State.barMixed_of_ten h l]

/-- The two ranks of the first channel, unless they are barred, and the other channels. -/
theorem State.barMixed_cons (s : State) (a b : RankTrain) (l : List RankTrain) :
    s.barMixed (a :: b :: l) = a :: b :: s.barMixed l ∨
      s.barMixed (a :: b :: l) = silentTrain :: silentTrain :: s.barMixed l := by
  rw [State.barMixed]
  split
  · exact .inr rfl
  · exact .inl rfl

theorem State.length_barMixed (s : State) : ∀ res, (s.barMixed res).length = res.length
  | [] => rfl
  | [_] => rfl
  | a :: b :: l => by
    have rest := s.length_barMixed l
    rcases s.barMixed_cons a b l with h | h <;> rw [h] <;> simp [rest]

theorem State.getElem?_barMixed {s : State} {x y : RankTrain} : ∀ {res : List RankTrain} {i : Nat}, res[i]? = some x →
    (s.barMixed res)[i]? = some y → y = x ∨ y = silentTrain
  | [], _, hx, _ => by cases hx
  | [_], _, hx, hy => .inl (Option.some.inj (hy.symm.trans hx))
  | a :: b :: l, i, hx, hy => by
    match i with
    | 0 | 1 =>
      rcases s.barMixed_cons a b l with h | h <;> rw [h] at hy
      · exact .inl (Option.some.inj (hy.symm.trans hx))
      · exact .inr (Option.some.inj hy).symm
    | i + 2 =>
      have rest : (s.barMixed l)[i]? = some y := by
        rcases s.barMixed_cons a b l with h | h <;> rw [h] at hy <;> exact hy
      exact State.getElem?_barMixed (res := l) hx rest

theorem State.exists_getElem?_barMixed (s : State) {res : List RankTrain} {i : Nat} {x : RankTrain}
    (hx : res[i]? = some x) : ∃ y, (s.barMixed res)[i]? = some y := by
  obtain ⟨hi, -⟩ := List.getElem?_eq_some_iff.1 hx
  exact ⟨_, List.getElem?_eq_getElem (hi.trans_eq (s.length_barMixed res).symm)⟩

/-- A position that has not finished by the time limit has not, whatever its channel's ranks came to. -/
theorem State.getElem?_barLate (s : State) {late : List (Option RankTrain)} {i : Nat} (h : late[i]? = some none) :
    (s.barLate late)[i]? = some none := by
  have silent : (late.map fun x => x.getD silentTrain)[i]? = some silentTrain := by rw [List.getElem?_map, h]; rfl
  obtain ⟨y, hy⟩ := s.exists_getElem?_barMixed silent
  have pair : (late.zip (s.barMixed (late.map fun x => x.getD silentTrain)))[i]? = some (none, y) :=
    List.getElem?_zip_eq_some.2 ⟨h, hy⟩
  rw [State.barLate, List.getElem?_map, pair]
  rfl

/-- The channels that are barred leave the population record, one position at a time. -/
def State.forgetUnequal (s : State) (e : Nat × RankTrain × RankTrain) : State :=
  if e.2.1 ≠ e.2.2 then s.setPopulation (eraseK s.dram.population e.1) else s

theorem State.forgetMixed_eq_foldl (s : State) (d q : Nat) (res : List RankTrain) :
    s.forgetMixed d q res = (trainPairs d q (res.zip (s.barMixed res))).foldl State.forgetUnequal s := rfl

theorem trains_forgetUnequal : Trains State.forgetUnequal := by
  intro l s t e h he
  unfold State.forgetUnequal
  split
  · exact trainsOnly_setPopulation h (look?_eraseK_of_mem he _)
  · exact h

theorem State.look?_forgetUnequal (s : State) (r : Nat) (x y : RankTrain) :
    look? (s.forgetUnequal (r, x, y)).dram.population r = if x = y then look? s.dram.population r else none := by
  unfold State.forgetUnequal
  by_cases h : x = y
  · rw [if_neg (not_not_intro h), if_pos h]
  · rw [if_pos h, if_neg h]
    exact look?_eraseK_same _ _

section
variable (s : State) (d q : Nat) (res : List RankTrain)

theorem trainsOnly_forgetMixed : TrainsOnly Set.univ s (s.forgetMixed d q res) :=
  trains_forgetUnequal.all (.refl _ s) _

variable {i : Nat} (hi : i < 4) {x y : RankTrain} (hx : res[i]? = some x) (hy : (s.barMixed res)[i]? = some y)
include hi hx hy

theorem State.look?_forgetMixed : look? (s.forgetMixed d q res).dram.population (16 * d + 4 * q + i) =
    if x = y then look? s.dram.population (16 * d + 4 * q + i) else none := by
  have pair : (res.zip (s.barMixed res))[i]? = some (x, y) := List.getElem?_zip_eq_some.2 ⟨hx, hy⟩
  obtain ⟨u, before, after⟩ := trains_forgetUnequal.turn (nodup_trainPairs d q _) (mem_trainPairs hi pair) s
  have at_ : 16 * d + 4 * q + i ∉ ({16 * d + 4 * q + i} : Set Nat)ᶜ := fun h => h rfl
  rw [State.forgetMixed_eq_foldl, after.recorded _ at_, State.look?_forgetUnequal, before.recorded _ at_]

end

end Sys2Proof.Machine
end

section
/-! PROOFS. Start-up training of a quadrant, in time or at its limit, settles each rank position (O35). -/
namespace Sys2Proof.Machine

open Sys2Proof.Safety

theorem exec_trainingDone (die q : Nat) (res : List RankTrain) (s : State) :
    exec (.trainingDone die q res) s = execTrainingDone die q res s := rfl
theorem exec_trainingTimeLimit (quad : Nat) (late : List (Option RankTrain)) (s : State) :
    exec (.trainingTimeLimit quad late) s = execTrainingTimeLimit quad late s := rfl

/-- A quadrant is trained and in Run, and tenancies are as before. -/
def QuadTrained (s t : State) (d q : Nat) : Prop :=
  (t.quad d q).trained = true ∧ (t.quad d q).st = 0 ∧ t.ten = s.ten

theorem State.trainingOf_settle (s : State) (r : Nat) : (settle s).trainingOf r = s.trainingOf r := by
  have reason : ¬ stagingCount (ixTrainRank r) 8 := by unfold stagingCount; omega
  rw [State.trainingOf, State.rank_settle, reg_settle_of_not_stagingCount s (by decide) reason]
  rfl

/-- The end of a quadrant's training leaves what its ranks came to. -/
theorem settle_endTraining {l : Set Nat} {s u : State} (h : TrainsOnly l s u) (d q : Nat) :
    QuadTrained s (settle (u.endTraining d q)) d q ∧
      ∀ r < 128, (settle (u.endTraining d q)).trainingOf r = u.trainingOf r := by
  have ends (x : Quad) := trainsOnly_finishTraining (.refl ∅ (u.setQuad d q x)) d
  have quad (x : Quad) : (settle ((u.setQuad d q x).finishTraining d)).quad d q = x := by
    rw [State.quad, settle_dram, (ends x).quads]
    exact look_put_same ..
  refine ⟨⟨congrArg (·.trained) (quad _), congrArg (·.st) (quad _), ?_⟩, fun r hr => ?_⟩
  · exact (settle_ten _).trans ((ends _).ten.trans h.ten)
  · exact (State.trainingOf_settle ..).trans ((ends _).others r hr id)

/-- A quadrant whose start-up training runs, and the rank of a position of it. -/
structure InTraining (s : State) (d q i r : Nat) : Prop where
  on : s.aon.on = true
  st : s.seq.st = 9
  undone : s.quadDone d q = false
  die : d < s.n
  quad : q < 4
  pos : i < 4
  rank : r = 16 * d + 4 * q + i

theorem InTraining.rank_lt {s : State} {d q i r : Nat} (h : InTraining s d q i r) : r < 128 := by
  have := s.n_le_eight
  have := h.die
  have := h.quad
  have := h.pos
  have := h.rank
  omega

/-- Recording leaves what training says of each position. -/
theorem State.trainingOf_foldl_recordPopulation (l : List (Nat × RankTrain)) (s : State) (r : Nat) :
    (l.foldl (fun (t : State) e => t.recordPopulation e.1 e.2) s).trainingOf r = s.trainingOf r :=
  List.foldlRecOn (motive := fun t : State => t.trainingOf r = s.trainingOf r) l _ rfl
    fun _ ht _ _ => (State.trainingOf_recordPopulation ..).trans ht

theorem trains_trainOne : Trains fun t (e : Nat × RankTrain) => t.trainOne e.1 e.2 :=
  fun e h he => trainsOnly_trainOne h he e.2

theorem trains_recordPopulation : Trains fun t (e : Nat × RankTrain) => t.recordPopulation e.1 e.2 :=
  fun e h he => trainsOnly_recordPopulation h he e.2

theorem trains_trainLate : Trains fun t (e : Nat × Option RankTrain) => t.trainLate e.1 e.2 :=
  fun e h he => trainsOnly_trainLate h he e.2

theorem notMem_compl_self (r : Nat) : r ∉ ({r} : Set Nat)ᶜ := fun h => h rfl

/-- What a training does at the turn of a position, in a state with the tenancies and the package as they were and with
this record of the position. -/
def SettlesAtTurn (c : Instr) (s : State) (d q r : Nat) (record : Option RankDev) (f : State → State) : Prop :=
  ∃ u : State, u.ten = s.ten ∧ u.build = s.build ∧ look? u.dram.population r = record ∧
    Does c s fun t => QuadTrained s t d q ∧ t.trainingOf r = (f u).trainingOf r

section
variable {s : State} {d q i r : Nat} (h : InTraining s d q i r)
include h

theorem settlesAtTurn_trainingDone {res : List RankTrain} {x y : RankTrain} (hpll : s.pllOut d (6 + q) = false)
    (hrate : s.fallsBack d q (s.barMixed res) = false) (hx : res[i]? = some x) (hy : (s.barMixed res)[i]? = some y) :
    SettlesAtTurn (.trainingDone d q res) s d q r (if x = y then look? s.dram.population r else none)
      fun u => u.trainOne r y := by
  have same : s.fresh.barMixed res = s.barMixed res := State.barMixed_of_ten (s := s) (t := s.fresh) rfl res
  rw [← same] at hrate hy
  have barred := trainsOnly_forgetMixed s.fresh d q res
  have turn : (r, y) ∈ trainPairs d q (s.fresh.barMixed res) := h.rank ▸ mem_trainPairs h.pos hy
  obtain ⟨u, before, after⟩ := trains_trainOne.turn (nodup_trainPairs d q _) turn (s.fresh.forgetMixed d q res)
  have trained := trains_recordPopulation.all (trains_trainOne.all barred (trainPairs d q (s.fresh.barMixed res)))
    (trainPairs d q (s.fresh.barMixed res))
  obtain ⟨ended, settled⟩ := settle_endTraining trained d q
  have record : look? u.dram.population r = if x = y then look? s.dram.population r else none := by
    rw [before.recorded r (notMem_compl_self r), h.rank]
    exact State.look?_forgetMixed _ d q res h.pos hx hy
  have runs : s.fresh.seq.st = 9 ∧ s.fresh.quadDone d q = false ∧ d < s.fresh.n := ⟨h.st, h.undone, h.die⟩
  have halted : ¬ s.fresh.pllOut d (6 + q) = true := fun hp => Bool.false_ne_true (hpll.symm.trans hp)
  have slower : ¬ s.fresh.fallsBack d q (s.fresh.barMixed res) = true :=
    fun hp => Bool.false_ne_true (hrate.symm.trans hp)
  refine ⟨u, before.ten.trans barred.ten, before.build.trans barred.build, record, ?_⟩
  refine does_of_effect h.on (exec_trainingDone ..) ((if_neg halted).trans ((if_pos runs).trans (if_neg slower)))
    ⟨ended, ?_⟩
  exact ((settled r h.rank_lt).trans (State.trainingOf_foldl_recordPopulation ..)).trans
    (after.others r h.rank_lt (notMem_compl_self r))

theorem settlesAtTurn_trainingTimeLimit {late : List (Option RankTrain)} (hlate : late[i]? = some none) :
    SettlesAtTurn (.trainingTimeLimit (4 * d + q) late) s d q r (look? s.dram.population r)
      fun u => u.trainLate r none := by
  have silent : (late.map fun x => x.getD silentTrain)[i]? = some silentTrain := by rw [List.getElem?_map, hlate]; rfl
  obtain ⟨y, hy⟩ := s.fresh.exists_getElem?_barMixed silent
  have equal : silentTrain = y := ((State.getElem?_barMixed silent hy).elim id id).symm
  have barred := trainsOnly_forgetMixed s.fresh d q (late.map fun x => x.getD silentTrain)
  have turn : (r, none) ∈ trainPairs d q (s.fresh.barLate late) :=
    h.rank ▸ mem_trainPairs h.pos (s.fresh.getElem?_barLate hlate)
  obtain ⟨u, before, after⟩ := trains_trainLate.turn (nodup_trainPairs d q _) turn
    (s.fresh.forgetMixed d q (late.map fun x => x.getD silentTrain))
  obtain ⟨ended, settled⟩ :=
    settle_endTraining (trains_trainLate.all barred (trainPairs d q (s.fresh.barLate late))) d q
  have record : look? u.dram.population r = look? s.dram.population r := by
    rw [before.recorded r (notMem_compl_self r), h.rank, State.look?_forgetMixed _ d q _ h.pos silent hy, if_pos equal]
    rfl
  have die : (4 * d + q) / 4 = d := by have := h.quad; omega
  have quad : (4 * d + q) % 4 = q := by have := h.quad; omega
  have runs : s.fresh.seq.st = 9 ∧ s.fresh.quadDone d q = false ∧ d < s.fresh.n := ⟨h.st, h.undone, h.die⟩
  refine ⟨u, before.ten.trans barred.ten, before.build.trans barred.build, record, ?_⟩
  refine does_of_effect h.on (exec_trainingTimeLimit ..) ?_ ⟨ended, ?_⟩
  · dsimp only
    rw [die, quad, if_pos runs]
  · exact (settled r h.rank_lt).trans (after.others r h.rank_lt (notMem_compl_self r))

end

/-! What the position has come to. -/

theorem does_mono {c : Instr} {s : State} {P Q : State → Prop} (h : Does c s P) (hq : ∀ t, P t → Q t) : Does c s Q := by
  obtain ⟨t, ht, hp⟩ := h
  exact ⟨t, ht, hq t hp⟩

/-- The position is absent, and its quadrant trained. -/
def Absent (s t : State) (d q r : Nat) : Prop := (t.rank r).train = 0 ∧ t.capOf r = 0 ∧ QuadTrained s t d q

/-- The rank is in service as it was identified, and its quadrant trained. -/
def InService (s t : State) (d q r : Nat) (dev : RankDev) : Prop :=
  (t.rank r).train = 1 ∧ (t.rank r).density = dev.density ∧ (t.rank r).stack = dev.stack ∧ QuadTrained s t d q

/-- The rank has failed for a reason, and its quadrant is trained. -/
def FailsFor (s t : State) (d q r reason : Nat) : Prop :=
  (t.rank r).train = 3 ∧ t.reg (ixTrainRank r) 8 = reason ∧ QuadTrained s t d q

section
variable {c : Instr} {s : State} {d q r : Nat} {record : Option RankDev} {f : State → State}
    (h : SettlesAtTurn c s d q r record f)
include h

theorem SettlesAtTurn.absent (hf : ∀ u : State, u.build = s.build → look? u.dram.population r = record →
    ((f u).rank r).fit = (0, 0, 0)) : Does c s fun t => Absent s t d q r := by
  obtain ⟨u, -, hbuild, hrecord, does⟩ := h
  refine does_mono does fun t ⟨done, hof⟩ => ?_
  have fit : (t.rank r).fit = (0, 0, 0) := (congrArg Prod.fst hof).trans (hf u hbuild hrecord)
  have density : (t.rank r).density = 0 := congrArg (·.2.1) fit
  refine ⟨congrArg (·.1) fit, ?_, done⟩
  rw [State.capOf, rankBytes, density, Nat.zero_mul, Nat.zero_mul]

theorem SettlesAtTurn.inService {dev : RankDev} (hf : ∀ u : State, u.ten = s.ten → look? u.dram.population r = record →
    ((f u).rank r).fit = (1, dev.density, dev.stack)) : Does c s fun t => InService s t d q r dev := by
  obtain ⟨u, hten, -, hrecord, does⟩ := h
  refine does_mono does fun t ⟨done, hof⟩ => ?_
  have fit : (t.rank r).fit = (1, dev.density, dev.stack) := (congrArg Prod.fst hof).trans (hf u hten hrecord)
  exact ⟨congrArg (·.1) fit, congrArg (·.2.1) fit, congrArg (·.2.2) fit, done⟩

theorem SettlesAtTurn.failsFor {reason : Nat} {dev : Option RankDev} (hf : ∀ u : State, u.build = s.build →
    look? u.dram.population r = record → f u = u.trainFail r reason dev) :
    Does c s fun t => FailsFor s t d q r reason := by
  obtain ⟨u, -, hbuild, hrecord, does⟩ := h
  refine does_mono does fun t ⟨done, hof⟩ => ?_
  rw [hf u hbuild hrecord] at hof
  exact ⟨(congrArg (·.1.1) hof).trans (u.train_trainFail r reason dev),
    (congrArg Prod.snd hof).trans (u.reason_trainFail r reason dev), done⟩

end

section
variable {s : State} {d q i r : Nat} (h : InTraining s d q i r)
include h

section
variable {res : List RankTrain} {x : RankTrain} (hpll : s.pllOut d (6 + q) = false)
    (hrate : s.fallsBack d q (s.barMixed res) = false) (hx : res[i]? = some x)
include hpll hrate hx

section
variable (hy : (s.barMixed res)[i]? = some x)
include hy

/-- The turn of a position whose channel is not barred. -/
theorem settlesAtTurn_unbarred :
    SettlesAtTurn (.trainingDone d q res) s d q r (look? s.dram.population r) fun u => u.trainOne r x := by
  have turn := settlesAtTurn_trainingDone h hpll hrate hx hy
  rwa [if_pos rfl] at turn

theorem does_trainingDone_silent (hsilent : startsSilent x = true) (hrecord : look? s.dram.population r = none) :
    Does (.trainingDone d q res) s fun t => Absent s t d q r :=
  (settlesAtTurn_unbarred h hpll hrate hx hy).absent fun _ _ hu =>
    State.fit_trainOne_silent hsilent (hu.trans hrecord)

variable (hpresent : startsSilent x = false ∨ (look? s.dram.population r).isSome = true)
include hpresent

theorem does_trainingDone_ok {t : Trained} (hout : trainOutcome x = .ok t) (hopen : s.anyOpen = false) :
    Does (.trainingDone d q res) s fun u => InService s u d q r t.dev :=
  (settlesAtTurn_unbarred h hpll hrate hx hy).inService fun u hten hu =>
    State.fit_trainOne_ok (hu ▸ hpresent) h.rank_lt hout (by rw [State.anyOpen, hten]; exact hopen)

theorem does_trainingDone_error {reason : Nat} (hout : trainOutcome x = .error reason) :
    Does (.trainingDone d q res) s fun t => FailsFor s t d q r reason :=
  (settlesAtTurn_unbarred h hpll hrate hx hy).failsFor fun _ _ hu =>
    State.trainOne_of_error (hu ▸ hpresent) hout

end

/-- A rank of a barred channel counts as absent (04 R82, log 129). -/
theorem does_trainingDone_barred {y : RankTrain} (hy : (s.barMixed res)[i]? = some y) (hxy : x ≠ y) :
    Does (.trainingDone d q res) s fun t => Absent s t d q r := by
  have silent : y = silentTrain := (State.getElem?_barMixed hx hy).resolve_left hxy.symm
  subst silent
  refine (settlesAtTurn_trainingDone h hpll hrate hx hy).absent fun _ _ hu => State.fit_trainOne_silent rfl ?_
  rw [hu, if_neg hxy]

end

section
variable {late : List (Option RankTrain)} (hlate : late[i]? = some none)
include hlate

theorem does_trainingTimeLimit_devices (hdev : (look? s.build.ranks r).isSome = true) :
    Does (.trainingTimeLimit (4 * d + q) late) s fun t => FailsFor s t d q r 8 :=
  (settlesAtTurn_trainingTimeLimit h hlate).failsFor fun u hbuild _ =>
    if_neg (by simp [hbuild, ← Option.not_isSome, hdev])

theorem does_trainingTimeLimit_absent (hdev : look? s.build.ranks r = none)
    (hrecord : look? s.dram.population r = none) :
    Does (.trainingTimeLimit (4 * d + q) late) s fun t => Absent s t d q r := by
  refine (settlesAtTurn_trainingTimeLimit h hlate).absent fun u hbuild hu => ?_
  have silent : u.trainLate r none = u.trainOne r silentTrain := if_pos (by rw [hbuild, hdev]; rfl)
  rw [silent]
  exact State.fit_trainOne_silent rfl (hu.trans hrecord)

end

end

/-- Settles O35: each position by what its training does at its turn. -/
theorem trainingSettlesEveryRank : Obligations.TrainingSettlesEveryRank := by
  intro s die q i res late x y hon hst hundone hdie hq hi
  have h : InTraining s die q i (16 * die + 4 * q + i) := ⟨hon, hst, hundone, hdie, hq, hi, rfl⟩
  refine ⟨fun hpll hrate hx hy => ⟨?_, ?_, ?_⟩, fun hlate => ⟨?_, ?_⟩⟩
  · rintro rfl hpresent
    exact ⟨fun d hout hopen => does_trainingDone_ok h hpll hrate hx hy hpresent hout hopen,
      fun reason hout => does_trainingDone_error h hpll hrate hx hy hpresent hout⟩
  · rintro rfl hsilent hrecord
    exact does_trainingDone_silent h hpll hrate hx hy hsilent
      (Option.isNone_iff_eq_none.1 (Option.isSome_eq_false_iff.1 hrecord))
  · exact fun hxy => does_trainingDone_barred h hpll hrate hx hy hxy
  · exact fun hdev => does_trainingTimeLimit_devices h hlate hdev
  · exact fun hdev hrecord => does_trainingTimeLimit_absent h hlate hdev
      (Option.isNone_iff_eq_none.1 (Option.isSome_eq_false_iff.1 hrecord))

end Sys2Proof.Machine
end

section
/-! PROOFS. A rank that wakes is judged by a threshold that another rank's failure has moved (O36). The ranks of a
quadrant are checked one after the other at its exit from Idle-Deep (`execIdleDeepExit`; 05 R129). One whose recalibration
fails is retired, and where it receives a copy of a logical rank, the report of the rebuild goes to the die of that logical
rank (`State.retireServing`; 10 Table 10.3). O36 speaks of every state, also of one whose redirection entries name a
logical rank that no package has: the report then counts on an object that is no recorder's, and that object may be the
drift threshold of the channel (05 R121, R122). -/
namespace Sys2Proof.Machine

open Sys2Proof.Safety

theorem exec_idleDeepExit (die q : Nat) (checks : List WakeCheck) (recals : List WakeRecal) (s : State) :
    exec (.idleDeepExit die q checks recals) s = execIdleDeepExit die q checks recals s := rfl

/-- A quadrant leaves Idle-Deep: it runs, its hibernation cancelled and its scrub's deadlines extended (04 R110). -/
def State.runAgain (s : State) (die q : Nat) : State :=
  (chansOf die q).foldl (fun t g =>
    t.setScrub g { t.scrubOf g with extra := (t.scrubOf g).extra + (t.aon.now - (s.quad die q).deepAt) })
    ((s.cancelHib die q).setQuad die q { s.quad die q with st := 0, hibEntry := false })

theorem execIdleDeepExit_deep {s : State} {die q : Nat} (checks : List WakeCheck) (recals : List WakeRecal)
    (hon : s.aon.on = true) (hst : (s.quad die q).st = 2) : execIdleDeepExit die q checks recals s =
      .next (settle (((ranksOf die q).zip (checks.zip recals)).foldl (fun t e => t.wakeRank e.1 e.2.1 e.2.2)
        (s.fresh.runAgain die q))) :=
  (act_on _ hon).trans (congrArg (fun t => Host.Outcome.next (settle t)) (if_pos hst))

/-- The die past the package whose recorder would count its merged reports where channel 0 has its drift threshold. -/
def strayDie : Nat := ixTrain 0 - 0x1210

/-- A logical rank of that die. -/
def strayRank : Nat := 16 * strayDie

/-- Rank 0 receives a copy of that logical rank. -/
def strayCopy : Redirect :=
  { carrier := 0, source := strayRank, watermark := 0, complete := false, rebuild := false, reason := 1, queued := false
    order := 0, early := [] }

/-- The report of its rebuild, which waits in the die's staging queue. -/
def strayReport : Staged :=
  { typ := cCopyStart / 256 * 256, cause := some cCopyStart, args := [strayRank, 0, 5], sev := 1, vis := 0
    payload := [], time := 0, tv := false, count := 1, single := false }

/-- A trained rank of one nibble, whose passing run has codes 10 to 50. -/
def oneNibble : Rank :=
  { noRank with train := 1, st := 1, trained := true, density := 32, stack := 4, edges := [(10, 50)] }

/-- Quadrant 0 with its first channel's two ranks: one that receives the stray copy, and a spare. -/
def strayQuad (st : Nat) : State :=
  { State.reset with
    dram := { State.reset.dram with
      ranks := [(0, oneNibble), (1, { oneNibble with st := 3 })]
      quads := [(0, { noQuad with st := st })] }
    sparing := { redirect := [(strayRank, strayCopy)], heals := [] }
    recs := [(strayDie, { noRecorder with queue := [strayReport] })] }

/-- No probe of the first rank matches; of the second, the two do that lie four steps inwards from the edges. -/
def failingCheck : WakeCheck := { osc := [], probe := [0] }
def passingCheck : WakeCheck := { osc := [], probe := [2 ^ 14 + 2 ^ 46] }

/-- A recalibration in which no code passes. -/
def shutEyes : WakeRecal := { delay := [], ref := [], after := [] }

/-- The quadrant has left Idle-Deep, and its first rank has failed: the report of the rebuild repeats the one that
waits, and the threshold, which the count of merged reports has moved from 4, is 5. -/
def firstChecked : State := (strayQuad 0).wakeRank 0 failingCheck shutEyes

theorem probesMatch_strayQuad : (strayQuad 2).probesMatch 1 passingCheck.probe = true := by decide +kernel
theorem probesMatch_firstChecked : firstChecked.probesMatch 1 passingCheck.probe = false := by decide +kernel

theorem idleDeepExit_strayQuad :
    exec (.idleDeepExit 0 0 [failingCheck, passingCheck] [shutEyes, shutEyes]) (strayQuad 2) =
      .next (settle (firstChecked.wakeRank 1 passingCheck shutEyes)) := by
  have running : (strayQuad 2).fresh.runAgain 0 0 = strayQuad 0 := rfl
  have pairs : (ranksOf 0 0).zip ([failingCheck, passingCheck].zip [shutEyes, shutEyes]) =
      [(0, failingCheck, shutEyes), (1, passingCheck, shutEyes)] := rfl
  rw [exec_idleDeepExit, execIdleDeepExit_deep _ _ rfl rfl, running, pairs]
  simp only [List.foldl_cons, List.foldl_nil, firstChecked]

/-! A spare whose recalibration fails as it wakes. -/

theorem recalEyes_shutEyes (s : State) (r : Nat) (write : Bool) :
    s.recalEyes r write shutEyes.delay shutEyes.ref = .error 0 := rfl

theorem State.train_retireRank_spare {s : State} {r : Nat} (h : (s.rank r).st = 3) (reason : Nat) :
    ((s.retireRank r reason).rank r).train = (s.rank r).train := by
  have fails : s.retireRank r reason =
      ((s.setRankSt r 10).setReason r reason).report (dieOfRank r) cSpareFailed 1 0 [r] := by
    simp [State.retireRank, h]
  rw [fails, State.rank_report]
  exact congrArg (·.train) (s.rank_setRank_same ..)

theorem State.train_failRank_spare {s : State} {r : Nat} (h : (s.rank r).st = 3) (reason retire : Nat) :
    ((s.failRank r reason retire).rank r).train = 3 := by
  have failed : (((s.setRank r { s.rank r with train := 3 }).setReg (ixTrainRank r) 8 reason).report (dieOfRank r)
      cRankFailed 2 0 [r, reason]).rank r = { s.rank r with train := 3 } :=
    (State.rank_report ..).trans (s.rank_setRank_same ..)
  exact (State.train_retireRank_spare (by rw [failed]; exact h) retire).trans (congrArg (·.train) failed)

@[simp] theorem State.rank_checked (s : State) (r j : Nat) : (s.checked r).rank j = s.rank j := rfl

/-- The rank's entry once its drift is noted and its probes have run. -/
theorem State.rank_probed (s : State) (r : Nat) (osc : List Nat) :
    ((((s.noteDrift r osc).setRank r { (s.noteDrift r osc).rank r with
      probeAt := (s.noteDrift r osc).aon.now, probeDue := none }).checked r).rank r) =
      { s.rank r with oscAt := s.aon.now, oscDue := none, probeAt := s.aon.now, probeDue := none } := by
  rw [State.rank_checked, State.rank_setRank_same]
  exact congrArg (fun k : Rank => { k with probeAt := s.aon.now, probeDue := none }) (State.rank_setRank_same ..)

/-- A spare whose probes do not match and whose recalibration finds no eye fails as it wakes (05 R129). -/
theorem State.train_wakeRank_shutEyes {s : State} {r : Nat} {c : WakeCheck} (htrain : (s.rank r).train = 1)
    (hst : (s.rank r).st = 3) (hprobe : s.probesMatch r c.probe = false) :
    ((s.wakeRank r c shutEyes).rank r).train = 3 := by
  have fails (t : State) (h : (t.rank r).st = 3) :
      ((if s.driftsFar r c.osc = true ∧ ((t.failRank r 9 5).rank r).train = 1 then
        (t.failRank r 9 5).wantRecal r true else t.failRank r 9 5).rank r).train = 3 := by
    have failed := State.train_failRank_spare h 9 5
    rw [if_neg (by omega)]
    exact failed
  have checks : s.wakeRank r c shutEyes = _ := if_neg (by simp [htrain])
  rw [checks]
  simp only [hprobe, State.recalOutcome, recalEyes_shutEyes]
  refine fails _ ?_
  rw [State.rank_report]
  exact (congrArg (·.st) (s.rank_probed r c.osc)).trans hst

theorem train_idleDeepExit_strayQuad {t : State}
    (h : exec (.idleDeepExit 0 0 [failingCheck, passingCheck] [shutEyes, shutEyes]) (strayQuad 2) = .next t) :
    (t.rank 1).train = 3 := by
  rw [idleDeepExit_strayQuad, Host.Outcome.next.injEq] at h
  rw [← h, State.rank_settle]
  exact State.train_wakeRank_shutEyes (by decide +kernel) (by decide +kernel) probesMatch_firstChecked

/-- Refutes O36: at the exit from Idle-Deep the failure of one rank moves the threshold by which the next is judged, and
a rank whose probes match fails. -/
theorem not_driftIsTrackedAndRecalibrated : ¬ Obligations.DriftIsTrackedAndRecalibrated := by
  intro h
  obtain ⟨-, -, -, -, -, exits⟩ := h (strayQuad 2) 0 0 0 0 1 [] [] [] [failingCheck, passingCheck] passingCheck
    [shutEyes, shutEyes] shutEyes rfl
  obtain ⟨-, second⟩ := exits rfl
  obtain ⟨matching, -⟩ := second (by decide) rfl rfl rfl rfl
  obtain ⟨t, ht, -, serves⟩ := matching probesMatch_strayQuad
  have serves : (t.rank 1).train = 1 := serves
  rw [train_idleDeepExit_strayQuad ht] at serves
  exact absurd serves (by decide)

end Sys2Proof.Machine
end

section
/-! PROOFS. Flags that settling makes agree with what they follow from stay in agreement from step to step (O5, O6). -/
namespace Sys2Proof.Machine

open Sys2Proof.Safety

/-- A step settles, unless the AON supply is gone; then it clears the output and takes a command off the queue at most. So
what settling establishes, and what neither the output nor the queue is a part of, is kept by every step. -/
theorem step_keeps {I : State → Prop} (settles : ∀ s, I (settle s))
    (setOut : ∀ (s : State) (o : List Output) (l : List Instr), I s → I { s with out := o, pending := l })
    {s t : State} (hs : I s) (h : step s = .next t) : I t := by
  unfold step at h
  split at h
  · obtain rfl := Host.Outcome.next.inj h
    unfold tick
    split
    · exact setOut s [] s.pending hs
    · exact settles _
  · next c rest _ =>
    have hs := setOut s s.out rest hs
    by_cases hc : c = .aonPowerOn
    · subst hc
      obtain rfl := Host.Outcome.next.inj h
      show I (if _ then _ else _)
      split <;> exact settles _
    · obtain ⟨f, hf⟩ := exec_eq_act c hc
      rw [hf, act] at h
      obtain rfl := Host.Outcome.next.inj h
      split
      · exact settles _
      · exact setOut _ [] _ hs

/-- Settles O5: settling disarms what is not backed (07 R179). -/
theorem persistenceArmedOnlyWhileBacked : Obligations.PersistenceArmedOnlyWhileBacked := fun _ _ =>
  step_keeps (I := ArmedIsBacked) (fun s => (flagsAgree_settle s).armed)
    fun s o l h armed => ((sameCauses_setOut s o l).armable _).trans (h armed)

/-- Settles O6: settling compares the shares with what may be divided (07 R171). -/
theorem scaledSharesFlagAlwaysAgrees : Obligations.ScaledSharesFlagAlwaysAgrees := fun _ _ =>
  step_keeps (I := ScaledAgrees) (fun s => (flagsAgree_settle s).scaled)
    fun s o l h => Eq.trans h (sameCauses_setOut s o l).sharesScaled.symm

end Sys2Proof.Machine
end

section
/-! PROOFS. A write that its tenancy's hold or an earlier write keeps back waits for admission (O12): it is metered and
crosses like any other (07 R173, R174), and joins the held writes, and their stage where that takes it. -/
namespace Sys2Proof.Machine

open Sys2Proof.Safety

/-- The writes in the admission stages once a write has come: with it, where the stage of its die has room and none waits
for it at an ingress die (07 R174). -/
def State.stagedWith (s : State) (d id : Nat) : List Nat :=
  if s.stageOcc d < 1024 ∧ s.ingressWaits d = false then s.shadow.staged ++ [id] else s.shadow.staged

theorem State.stagedWith_eq_append_iff (s : State) (d id : Nat) :
    s.stagedWith d id = s.shadow.staged ++ [id] ↔ s.stageOcc d < 1024 ∧ s.ingressWaits d = false := by
  unfold State.stagedWith
  split
  · next h => exact iff_of_true rfl h
  · next h => exact iff_of_false (by simp) h

/-- A write that is held, or stands behind one that waits, and whose flake is not snow waits, and is counted (07 R173,
R174). -/
theorem State.admitOrHold_waits {s : State} {q : Req} (hop : q.op = .write)
    (hheld : s.tenHeld q.ten = true ∨ s.waitsBehind q.ten = true) (hsnow : isSnow (s.firn (flakeOf q.dpa)) = false) :
    s.admitOrHold q = s.setPath s.dram.chans
      { s.shadow with
        held := s.shadow.held ++ [{ q with enter := s.aon.now }], staged := s.stagedWith (s.place q.dpa).die q.id }
      (s.inc 0x5804 1).regs s.out := by
  have waits : (q.op.writes && (s.tenHeld q.ten || s.waitsBehind q.ten) && !isSnow (s.firn (flakeOf q.dpa))) = true := by
    rcases hheld with h | h <;> simp [hop, ReqOp.writes, h, hsnow]
  exact if_pos waits

/-- Where the channels are as they were and nothing is put out, neither is part of what has changed. -/
theorem keeps_decoded_sameQueues (s : State) (links : Sparse HLink) (regs regs' : Sparse Nat) (x y : Shadow) :
    Keeps s (settle ((s.decoded links regs x).setPath s.dram.chans y regs' [])) [.hosts, .shadow, .regs] := by
  intro p hp
  by_cases hd : p = .dram
  · subst hd
    exact settle_dram _
  · exact Keeps.of_out_nil (l := [.hosts, .dram, .shadow, .regs]) (keeps_decoded s links regs regs' x y s.dram.chans [])
      (settle_out _) (by simp) p (by simp_all)

section
variable {s : State} {port link n : Nat} {links : Sparse HLink} {regs regs' : Sparse Nat} {x : Shadow}
  (h : Decoded s port link n links regs x)
include h

/-- Where a request enters its channel, the stages are as they were. -/
theorem Decoded.stage (hp : port < 2 * s.n) (d : Nat) :
    (s.decoded links regs x).stageOcc d = s.stageOcc d ∧
      (s.decoded links regs x).ingressWaits d = s.ingressWaits d := by
  have held : x.held = s.shadow.held := congrArg (·.held) h.heated
  have staged : x.staged = s.shadow.staged := congrArg (·.staged) h.heated
  have place := (h.sameWay hp).place
  refine ⟨?_, ?_⟩
  · simp only [State.stageOcc, place]
    simp only [State.decoded, State.setShadow, held, staged]
  · simp only [State.ingressWaits, place]
    simp only [State.decoded, State.setShadow, held, staged]

/-- Of shadowing, the writes that wait have changed beside the heat counters with a write that joins them. -/
theorem Decoded.shadowIs_held {held : List Req} {staged : List Nat} {chans : Sparse Chan} {out : List Output} :
    let t := settle ((s.decoded links regs x).setPath chans { x with held := held, staged := staged } regs' out)
    shadowIs t { s.shadow with heat := t.shadow.heat, heatSub := t.shadow.heatSub, dies := t.shadow.dies,
                               held := t.shadow.held, staged := t.shadow.staged } := by
  obtain ⟨heat, sub, dies, rfl⟩ : ∃ heat sub dies, x = { s.shadow with heat := heat, heatSub := sub, dies := dies } :=
    ⟨_, _, _, h.heated⟩
  simp only [shadowIs]
  rw [settle_shadow]
  rfl

end

/-- Settles O12: the request crosses its open way and joins the held writes. -/
theorem heldTenancysWriteWaits : Obligations.HeldTenancysWriteWaits := by
  intro s port link tag hpa dpa n data ht hm ha hc hn hway hheld hsnow
  obtain ⟨links, regs, x, decoded, crossed⟩ := State.hostRequest_decoded (tag := tag) (op := .write) (data := data)
    (be := fullBe) ht hc hm ha hn hway
  have way := decoded.sameWay ht.2.1
  have snow := decoded.sameSnow ht.2.1
  set u := s.decoded links regs x with hu
  set q : Req := { s.makeReq port link tag dpa .write data fullBe with cls := meteredClass s port link n } with hq
  have ten : q.ten = n := by rw [hq]; simp only [State.makeReq, hn, Option.getD_some]
  have waits := State.admitOrHold_waits (s := u) (q := q) rfl
    (by rw [ten, snow.tenHeld, snow.waitsBehind]; exact hheld) (by rw [State.firn, snow.firn]; exact hsnow)
  have counted : RegsBut u (u.setPath u.dram.chans u.shadow (u.inc 0x5804 1).regs u.out) [(0x5804, 1)] :=
    regsBut_inc (RegsBut.refl u _) (by simp) (by decide)
  have apart : (0x5804, 1) ∉ [(0x5010 + port, 3), (0x5010 + port, 4)] := by simp
  refine does_of_effect ht.1 (exec_cxlMemWrite port link tag hpa data s) (crossed.trans waits)
    ⟨⟨{ q with enter := s.aon.now }, ?_, rfl, rfl, rfl, ten, rfl⟩, ?_, ?_, decoded.metered, decoded.shadowIs_held,
      decoded.regsBut (RegsBut.mono counted (by simp)) (by simp), keeps_decoded_sameQueues s links regs _ x _⟩
  · rw [settle_shadow]
    exact congrArg (· ++ _) (congrArg (·.held) decoded.heated)
  · have stage := decoded.stage ht.2.1 (s.place dpa).die
    have staged : u.shadow.staged = s.shadow.staged := congrArg (·.staged) decoded.heated
    rw [settle_shadow, ← staged, ← stage.1, ← stage.2, ← State.stagedWith_eq_append_iff u _ s.hosts.nextReq, ← way.place]
    rfl
  · rw [reg_settle_of_not_stagingCount _ (by decide) (by simp [stagingCount])]
    exact (u.reg_inc_same 0x5804 1).trans
      (congrArg (fun v => min u32max (v + 1)) (decoded.traffic _ _ (by decide) (by simp [stagingCount]) apart))

end Sys2Proof.Machine
end

section
/-! PROOFS. Two units of one number (O39). A die numbers its program units as they are opened (log 110), and takes a unit
off its LUN by its number (`State.takeUnit`). At the time limit of a unit the die's map work goes on too, and it may give
away the filled unit of a LUN whose erase has used its suspensions (`State.giveAway`; 08 R197). O39 speaks of every state,
also of one in which that unit bears the number of the unit whose time limit has come: then both leave the die. -/
namespace Sys2Proof.Machine

open Sys2Proof.Safety

theorem exec_unitFillTimeout (die unit : Nat) (s : State) :
    exec (.unitFillTimeout die unit) s = execUnitFillTimeout die unit s := rfl

@[simp] theorem State.die_settle (s : State) (d : Nat) : (settle s).die d = s.die d := by
  rw [State.die, settle_shadow]; rfl

/-- At the time limit of a full unit there is nothing to pad. -/
theorem State.padUnit_full {s : State} {d num : Nat} {u : PUnit}
    (hu : ((s.die d).units.find? fun u => decide (u.num = num)) = some u) (hfull : s.unitFull d u = true) (k : Nat) :
    s.padUnit d num k = s := by
  cases k with
  | zero => rfl
  | succ k => simp only [State.padUnit, hu, hfull, if_true]

/-- Blocks of LUN 0 that are open for data and for map pages, and one of LUN 1 that is open for map pages. -/
def dataBlk : Nat := 2 ^ 27 + 100
def mapBlk : Nat := 2 ^ 27 + 101
def wornBlk : Nat := 2 ^ 27 + 2 ^ 18 + 100

/-- A full unit of LUN 0, which waits to be programmed. -/
def fullUnit : PUnit :=
  { num := 0, lun := 0, blk := dataBlk, pages := [pageAddr dataBlk 0, pageAddr dataBlk 1, pageAddr dataBlk 2]
    running := false, map := false, moves := [], jobs := [] }

/-- A map page to be programmed. -/
def mapPageJob (i : Nat) : MapJob := { typ := 2, num := i, body := .pad }

/-- A unit of map pages of LUN 1 with the same number and one page left to fill. -/
def namesake : PUnit :=
  { num := 0, lun := 1, blk := wornBlk, pages := [pageAddr wornBlk 0, pageAddr wornBlk 1], running := false, map := true
    moves := [], jobs := [mapPageJob 0, mapPageJob 1] }

/-- Both units on die 0, with one more map page to be programmed; on LUN 0 a program runs, and the erase on LUN 1 has used
its suspensions. -/
def twoNamesakes : State :=
  ({ State.reset with regs := [(okey (ixFlash 0 0) 1, 1)] } : State).setDie 0 { noDieShadow with
    units := [{ fullUnit with num := 1, running := true }, fullUnit, namesake], nextUnit := 2, phase := 1, jobs := [mapPageJob 2]
    luns := [(0, { noLun with openData := some (dataBlk, 3), openMap := some (mapBlk, 0) }),
      (1, { noLun with openMap := some (wornBlk, 2), erasing := some (wornBlk + 1), suspends := 32 })] }

theorem unitFull_fullUnit : twoNamesakes.unitFull 0 fullUnit = true := by decide +kernel

/-- The third map page fills the namesake, which goes to LUN 0 as a unit of a new number. -/
theorem units_twoNamesakes :
    (((twoNamesakes.startUnits 0 0).advanceMaps 0).die 0).units.all (fun v => decide (v.num ≠ 0)) = true := by
  decide +kernel

theorem num_unitFillTimeout_twoNamesakes {t : State} (h : exec (.unitFillTimeout 0 0) twoNamesakes = .next t)
    {v : PUnit} (hv : v ∈ (t.die 0).units) : v.num ≠ 0 := by
  have padded : twoNamesakes.padUnit 0 0 4 = twoNamesakes := State.padUnit_full (u := fullUnit) rfl unitFull_fullUnit 4
  have runs : exec (.unitFillTimeout 0 0) twoNamesakes =
      .next (settle (((twoNamesakes.padUnit 0 0 4).startUnits 0 0).advanceMaps 0)) := by
    rw [exec_unitFillTimeout, execUnitFillTimeout, act_on _ rfl]
    rfl
  rw [runs, padded, Host.Outcome.next.injEq] at h
  rw [← h, State.die_settle] at hv
  exact of_decide_eq_true (List.all_eq_true.1 units_twoNamesakes v hv)

/-- Refutes O39: at its time limit a full unit leaves its die with another one that bears its number. -/
theorem not_pumpsMoveSnowToFlash : ¬ Obligations.PumpsMoveSnowToFlash := by
  intro h
  obtain ⟨-, -, -, timeout, -⟩ := h twoNamesakes 0 0 rfl (by decide)
  obtain ⟨t, ht, ⟨v, hv, hnum, -⟩, -⟩ := timeout fullUnit rfl rfl (List.cons_ne_nil _ _) (by decide +kernel) (.inl rfl)
    fun nd hnd => by
      obtain rfl := Option.some.inj hnd
      exact ⟨by decide, .inl unitFull_fullUnit⟩
  exact num_unitFillTimeout_twoNamesakes ht hv hnum

end Sys2Proof.Machine
end

section
/-! PROOFS. What a write's dirty notice does to the firn map (07 R151, R154, Table 07.2): the flake's firn state by the
one it had and by the mode of its tenancy, and nothing of the other flakes. -/
namespace Sys2Proof.Machine

open Sys2Proof.Safety

/-- From s, the firn state of one flake may have changed, with the summary, the swept flakes and the dies' charges and
changed map pages; and the flake may have left the list of the poisoned ones. -/
structure MarksFlake (s t : State) (m : Nat) : Prop where
  eq_update : t = { s with
    shadow := { s.shadow with
      firn := t.shadow.firn, summary := t.shadow.summary, swept := t.shadow.swept, dies := t.shadow.dies }
    freeze := { s.freeze with poisoned := t.freeze.poisoned } }
  others : ∀ k, k ≠ m → t.firn k = s.firn k

theorem MarksFlake.refl (s : State) (m : Nat) : MarksFlake s s m := ⟨rfl, fun _ _ => rfl⟩

theorem MarksFlake.trans {s t u : State} {m : Nat} (h : MarksFlake s t m) (h' : MarksFlake t u m) : MarksFlake s u m := by
  refine ⟨?_, fun k hk => (h'.others k hk).trans (h.others k hk)⟩
  conv_lhs => rw [h'.eq_update, h.eq_update]

theorem MarksFlake.keeps {s t : State} {m : Nat} (h : MarksFlake s t m) : Keeps s t [.shadow, .freeze, .out] := by
  have own : Keeps s s [.shadow, .freeze, .out] := Keeps.mono (Keeps.refl s) (by simp)
  rw [h.eq_update]
  exact keeps_setFreeze (keeps_setShadow own (by simp) { s.shadow with
    firn := t.shadow.firn, summary := t.shadow.summary, swept := t.shadow.swept, dies := t.shadow.dies }) (by simp) _

theorem marksFlake_setFirn (s : State) (m c : Nat) : MarksFlake s (s.setFirn m c) m :=
  ⟨rfl, fun _ hk => s.firn_setFirn_ne c hk⟩

theorem marksFlake_setDie (s : State) (m d : Nat) (x : DieShadow) : MarksFlake s (s.setDie d x) m :=
  ⟨rfl, fun _ _ => rfl⟩

theorem marksFlake_summarise (s : State) (m : Nat) : MarksFlake s (s.summarise m) m := by
  unfold State.summarise
  dsimp only
  split
  · exact ⟨rfl, fun _ _ => rfl⟩
  · exact .refl s m

theorem marksFlake_chargeFlake (s : State) (m : Nat) : MarksFlake s (s.chargeFlake m) m := by
  unfold State.chargeFlake
  repeat' split
  · exact (marksFlake_setDie s m _ _).trans (marksFlake_summarise _ m)
  · exact .refl s m
  · exact .refl s m

theorem marksFlake_makeDirty (s : State) (m : Nat) : MarksFlake s (s.makeDirty m) m :=
  ((marksFlake_chargeFlake s m).trans (marksFlake_setFirn _ m _)).trans (marksFlake_setDie _ m _ _)

theorem marksFlake_unpoisonNote (s : State) (m : Nat) : MarksFlake s (s.unpoisonNote m) m := ⟨rfl, fun _ _ => rfl⟩

theorem marksFlake_unswept (s : State) (m : Nat) : MarksFlake s (s.unswept m) m := ⟨rfl, fun _ _ => rfl⟩

/-! The transition of a write, by the firn state that it meets. -/

section
variable {s : State} {m : Nat}

theorem State.settleFirn_of_lt (h : s.firn m < 9) : s.settleFirn m = s := if_pos h

theorem State.firnWrite_marked (h : s.firn m = fDirty ∨ s.firn m = fStale ∨ s.firn m = fVolatile ∨
    s.firn m = fUnrestored ∨ s.firn m = fRestoring) : s.firnWrite m = s.unpoisonNote m := by
  have known : s.firn m < 9 := by rcases h with h | h | h | h | h <;> rw [h] <;> decide
  unfold State.firnWrite
  dsimp only
  rw [State.settleFirn_of_lt known]
  exact if_pos h

theorem State.firnWrite_pumping (h : s.firn m = fPumping) :
    s.firnWrite m = ((s.unpoisonNote m).setFirn m fStale).touchMap m := by
  have known : s.firn m < 9 := by rw [h]; decide
  have here : (s.unpoisonNote m).firn m = fPumping := h
  unfold State.firnWrite
  dsimp only
  rw [State.settleFirn_of_lt known, here]
  rfl

/-- A flake without data of its own to lose is marked as its tenancy's mode says. -/
theorem State.firnWrite_blank (h : s.firn m = fClean ∨ s.firn m = fPoisoned ∨ s.firn m = fTrimmed) :
    s.firnWrite m =
      if s.flakeMode m = 2 then ((s.unpoisonNote m).setFirn m fVolatile).touchMap m
      else if s.flakeMode m = 3 then s.unpoisonNote m else (s.unpoisonNote m).makeDirty m := by
  have known : s.firn m < 9 := by rcases h with h | h | h <;> rw [h] <;> decide
  have here : (s.unpoisonNote m).firn m = s.firn m := rfl
  unfold State.firnWrite
  dsimp only
  rw [State.settleFirn_of_lt known, here]
  rcases h with h | h | h <;> rw [h] <;> rfl

theorem marksFlake_firnWrite (h : s.firn m < 9) : MarksFlake s (s.firnWrite m) m := by
  have noted := marksFlake_unpoisonNote s m
  have codes : (s.firn m = fDirty ∨ s.firn m = fStale ∨ s.firn m = fVolatile ∨ s.firn m = fUnrestored ∨
      s.firn m = fRestoring) ∨ s.firn m = fPumping ∨
      (s.firn m = fClean ∨ s.firn m = fPoisoned ∨ s.firn m = fTrimmed) := by
    unfold fClean fDirty fPumping fStale fUnrestored fRestoring fPoisoned fVolatile fTrimmed; omega
  rcases codes with h | h | h
  · rw [State.firnWrite_marked h]
    exact noted
  · rw [State.firnWrite_pumping h]
    exact (noted.trans (marksFlake_setFirn _ m _)).trans (marksFlake_setDie _ m _ _)
  · rw [State.firnWrite_blank h]
    split_ifs
    · exact (noted.trans (marksFlake_setFirn _ m _)).trans (marksFlake_setDie _ m _ _)
    · exact noted
    · exact noted.trans (marksFlake_makeDirty _ m)

theorem State.firn_makeDirty (s : State) (m : Nat) : (s.makeDirty m).firn m = fDirty :=
  (s.chargeFlake m).firn_setFirn_same m fDirty

end

/-- A charge of a flake of a PERSISTENT tenancy counts on its home die (07 R156). -/
theorem State.unsent_makeDirty {s : State} {m k : Nat} (ht : s.tenOf (m * flakeBytes) = some k)
    (hm : (s.tenancy k).mode = 0) :
    look 0 ((s.makeDirty m).die (s.homeDie m)).unsent k = look 0 (s.die (s.homeDie m)).unsent k + 1 := by
  have charged : s.chargeFlake m = (s.count m k 1).summarise m := by
    simp only [State.chargeFlake, ht, hm, if_true]
  have summarised (t : State) (d : Nat) : (t.summarise m).die d = t.die d := by
    unfold State.summarise
    dsimp only
    split <;> rfl
  have touched (t : State) (d : Nat) : ((t.touchMap m).die d).unsent = (t.die d).unsent := by
    unfold State.touchMap
    rw [State.die_setDie]
    split
    · next h => rw [h]
    · rfl
  rw [State.makeDirty, charged, touched]
  show look 0 (((s.count m k 1).summarise m).die (s.homeDie m)).unsent k = _
  rw [summarised, State.count, State.die_setDie, if_pos rfl, look_put_same]

end Sys2Proof.Machine
end

section
/-! PROOFS. A dirty notice is applied to the firn map of its home die, which asks for the flake's firn line where its
cache misses it (07 R154, R155). -/
namespace Sys2Proof.Machine

open Sys2Proof.Safety

/-- A read of the SW74's own joins the end of the read queue of its line's subchannel (04 R86). -/
theorem State.queueOwn_firn (s : State) (j o cls : Nat) : ∃ chans q,
    s.queueOwn (.firn j) o cls = (s.setQueues chans s.shadow).setNextReq (s.hosts.nextReq + 1) ∧ q.src = .firn j ∧
    QueuesAre s chans (subOfLine s o) ((s.chan (subOfLine s o)).reads ++ [q]) (s.chan (subOfLine s o)).writes := by
  set u : State := s.setNextReq (s.hosts.nextReq + 1) with hu
  set q := s.ownRead (.firn j) o cls with hq
  have same : SameWay s u := ⟨rfl, rfl, rfl, rfl, rfl, rfl, rfl, rfl, rfl⟩
  have asked : u.subOfReq q = subOfLine u o := rfl
  have home := asked.trans (same.subOfLine o)
  set sc := subOfLine s o
  set c : Chan := { s.chan sc with
    reads := (s.chan sc).reads ++ [{ q with arr := (s.chan sc).arrivals }], arrivals := (s.chan sc).arrivals + 1 } with hc
  obtain ⟨chans, hslice, queues⟩ := (u.setChan sc c).noteSlice_eq sc q
  rw [show (u.setChan sc c).chan sc = c from look_put_same ..] at queues
  refine ⟨chans, { q with arr := (s.chan sc).arrivals }, ?_, rfl,
    QueuesAre.trans (t := s.setChan sc c) (queuesAre_setChan ..) queues⟩
  have queued : s.queueOwn (.firn j) o cls = (u.setChan (u.subOfReq q) { u.chan (u.subOfReq q) with
    reads := (u.chan (u.subOfReq q)).reads ++ [{ q with arr := (u.chan (u.subOfReq q)).arrivals }],
    arrivals := (u.chan (u.subOfReq q)).arrivals + 1 }).noteSlice (u.subOfReq q) q := rfl
  rw [queued, home]
  exact hslice

section
variable {s : State} {x : Notice}

theorem State.askFirn_hit (h : s.firnHit (s.driftOf x.flake) = true) : s.askFirn x = s := by
  simp [State.askFirn, h]

/-- A firn line that is neither in the cache nor on its way, on a rank that is not lost, is read from the sump. -/
theorem State.askFirn_missing (hit : s.firnHit (s.driftOf x.flake) = false)
    (hasked : s.firnAsked (s.driftOf x.flake) = false)
    (hlost : s.isLost (s.place (s.firnLine (s.driftOf x.flake))).rank = false) :
    ∃ cls, s.askFirn x = s.queueOwn (.firn (s.driftOf x.flake)) (s.firnLine (s.driftOf x.flake)) cls := by
  simp only [State.askFirn, hit, hasked, hlost]
  exact ⟨_, rfl⟩

/-- Asking for a firn line changes nothing but the channel queues, the firn cache and the next request's number. -/
theorem State.askFirn_eq (s : State) (x : Notice) : ∃ chans cache k,
    s.askFirn x = (s.setQueues chans { s.shadow with cache := cache }).setNextReq k := by
  unfold State.askFirn
  dsimp only
  split_ifs
  · exact ⟨s.dram.chans, s.shadow.cache, s.hosts.nextReq, rfl⟩
  · exact ⟨s.dram.chans, (s.cacheLine (s.driftOf x.flake)).shadow.cache, s.hosts.nextReq, rfl⟩
  · obtain ⟨chans, -, heq, -⟩ := s.queueOwn_firn (s.driftOf x.flake) (s.firnLine (s.driftOf x.flake)) _
    exact ⟨chans, s.shadow.cache, _, heq⟩

end

section
variable {s t : State} {m : Nat} (h : MarksFlake s t m)
include h

theorem MarksFlake.place (o : Nat) : t.place o = s.place o := by
  have die : t.dieAny o = s.dieAny o := by rw [h.eq_update]; rfl
  have rank (d a : Nat) : t.rankOf d a = s.rankOf d a := by rw [h.eq_update]; rfl
  simp only [State.place, die, rank]

theorem MarksFlake.subOfLine (o : Nat) : subOfLine t o = Safety.subOfLine s o := by
  have phys (r a : Nat) : t.readRank r a = s.readRank r a := by rw [h.eq_update]; rfl
  simp only [Safety.subOfLine, State.physOf, h.place, phys]

theorem MarksFlake.isLost (r : Nat) : t.isLost r = s.isLost r := by rw [h.eq_update]; rfl

theorem MarksFlake.driftOf (k : Nat) : t.driftOf k = s.driftOf k := by rw [h.eq_update]; rfl

theorem MarksFlake.firnLine (j : Nat) : t.firnLine j = s.firnLine j := by rw [h.eq_update]; rfl

theorem MarksFlake.firnHit (j : Nat) : t.firnHit j = s.firnHit j := by rw [h.eq_update]; rfl

theorem MarksFlake.firnAsked (j : Nat) : t.firnAsked j = s.firnAsked j := by rw [h.eq_update]; rfl

end

section
variable {s : State} {m : Nat}

theorem State.firn_firnWrite_pumping (h : s.firn m = fPumping) : (s.firnWrite m).firn m = fStale := by
  rw [State.firnWrite_pumping h]
  exact (s.unpoisonNote m).firn_setFirn_same m fStale

theorem State.firn_firnWrite_marked (h : s.firn m = fDirty ∨ s.firn m = fStale ∨ s.firn m = fVolatile ∨
    s.firn m = fUnrestored ∨ s.firn m = fRestoring) : (s.firnWrite m).firn m = s.firn m := by
  rw [State.firnWrite_marked h]
  rfl

section
variable (h : s.firn m = fClean ∨ s.firn m = fPoisoned ∨ s.firn m = fTrimmed)
include h

theorem State.firn_firnWrite_volatile (hm : s.flakeMode m = 2) : (s.firnWrite m).firn m = fVolatile := by
  rw [State.firnWrite_blank h, if_pos hm]
  exact (s.unpoisonNote m).firn_setFirn_same m fVolatile

theorem State.firnWrite_kept (hm : s.flakeMode m ≤ 1) : s.firnWrite m = (s.unpoisonNote m).makeDirty m := by
  rw [State.firnWrite_blank h, if_neg (by omega), if_neg (by omega)]

theorem State.firn_firnWrite_dirty (hm : s.flakeMode m ≤ 1) : (s.firnWrite m).firn m = fDirty := by
  rw [State.firnWrite_kept h hm]
  exact State.firn_makeDirty ..

/-- A first write to a flake of a PERSISTENT tenancy is charged on its home die (07 R156). -/
theorem State.unsent_firnWrite {k : Nat} (ht : s.tenOf (m * flakeBytes) = some k) (hm : s.flakeMode m = 0) :
    look 0 ((s.firnWrite m).die (s.homeDie m)).unsent k = look 0 (s.die (s.homeDie m)).unsent k + 1 := by
  have mode : (s.tenancy k).mode = 0 := by simpa only [State.flakeMode, ht] using hm
  rw [State.firnWrite_kept h (by omega)]
  exact State.unsent_makeDirty (s := s.unpoisonNote m) ht mode

end

end

theorem State.fresh_coreRuns {s : State} {d : Nat} (h : s.coreStopped d = false) : ¬ s.fresh.coreStopped d = true := by
  rw [show s.fresh.coreStopped d = s.coreStopped d from rfl, h]; decide

/-- The notice is one that can cross to its home die and has not been applied there (07 R154, 06 R141). -/
def State.noticeDue (s : State) (d : Nat) (e : Notice) : Bool :=
  decide (s.homeDie e.flake = d) && !e.applied && s.linkOpen (dieOfSub e.sc) d

/-- The notices in flight once the oldest that is due at a die counts as applied. -/
def State.noticesApplied (s : State) (d : Nat) : List Notice :=
  changeFirst (s.noticeDue d) (fun e => { e with applied := true }) s.shadow.notices

/-- A state with other notices in flight. -/
def State.withNotices (s : State) (l : List Notice) : State := s.setShadow { s.shadow with notices := l }

theorem exec_dirtyNotice (die : Nat) (s : State) : exec (.dirtyNotice die) s =
    act (fun s => if s.coreStopped die then s else s.noticeStep die) s := rfl

theorem State.noticeStep_eq {s : State} {d : Nat} {x : Notice} (h : s.shadow.notices.find? (s.noticeDue d) = some x) :
    s.noticeStep d = ((s.withNotices (s.noticesApplied d)).applyNotice x).askFirn x := by
  have found : s.shadow.notices.find? (fun n : Notice =>
      decide (s.homeDie n.flake = d) && !n.applied && s.linkOpen (dieOfSub n.sc) d) = some x := h
  simp only [State.noticeStep, found]
  rfl

theorem State.noticeDue_homeDie {s : State} {d : Nat} {x : Notice}
    (h : s.shadow.notices.find? (s.noticeDue d) = some x) : s.homeDie x.flake = d := by
  have due := List.find?_some h
  simp only [State.noticeDue, Bool.and_eq_true, decide_eq_true_eq] at due
  exact due.1.1

theorem marksFlake_applyNotice {s : State} {x : Notice} (h : s.firn x.flake < 9) :
    MarksFlake s (s.applyNotice x) x.flake := (marksFlake_firnWrite h).trans (marksFlake_unswept _ _)

theorem State.firn_applyNotice (s : State) (x : Notice) (m : Nat) :
    (s.applyNotice x).firn m = (s.firnWrite x.flake).firn m := rfl

theorem State.die_applyNotice (s : State) (x : Notice) (d : Nat) :
    (s.applyNotice x).die d = (s.firnWrite x.flake).die d := rfl

section
variable (s : State) (x : Notice)

theorem State.firn_askFirn (m : Nat) : (s.askFirn x).firn m = s.firn m := by
  obtain ⟨chans, cache, k, asked⟩ := s.askFirn_eq x
  rw [asked]; rfl

theorem State.shadow_askFirn : (s.askFirn x).shadow = { s.shadow with cache := (s.askFirn x).shadow.cache } := by
  obtain ⟨chans, cache, k, asked⟩ := s.askFirn_eq x
  rw [asked]; rfl

theorem State.lines_askFirn : (s.askFirn x).dram.lines = s.dram.lines := by
  obtain ⟨chans, cache, k, asked⟩ := s.askFirn_eq x
  rw [asked]; rfl

theorem State.hosts_askFirn : (s.askFirn x).hosts = { s.hosts with nextReq := (s.askFirn x).hosts.nextReq } := by
  obtain ⟨chans, cache, k, asked⟩ := s.askFirn_eq x
  rw [asked]; rfl

theorem keeps_askFirn : Keeps s (s.askFirn x) [.shadow, .dram, .hosts, .out] := by
  obtain ⟨chans, cache, k, asked⟩ := s.askFirn_eq x
  rw [asked]
  exact keeps_setNextReq (keeps_setQueues (Keeps.mono (Keeps.refl s) (by simp)) (by simp) (by simp) _ _) (by simp) _

theorem State.out_askFirn : (s.askFirn x).out = s.out := by
  obtain ⟨chans, cache, k, asked⟩ := s.askFirn_eq x
  rw [asked]; rfl

theorem State.die_askFirn (d : Nat) : (s.askFirn x).die d = s.die d := by
  obtain ⟨chans, cache, k, asked⟩ := s.askFirn_eq x
  rw [asked]; rfl

end

/-- Where the cache misses the firn line of a notice, a read of it joins its queue (07 R155). -/
theorem State.reads_askFirn {s : State} {x : Notice} (hit : s.firnHit (s.driftOf x.flake) = false)
    (hasked : s.firnAsked (s.driftOf x.flake) = false)
    (hlost : s.isLost (s.place (s.firnLine (s.driftOf x.flake))).rank = false) :
    let sc := subOfLine s (s.firnLine (s.driftOf x.flake))
    ∃ q : Req, ((s.askFirn x).chan sc).reads = (s.chan sc).reads ++ [q] ∧ q.src = .firn (s.driftOf x.flake) := by
  obtain ⟨cls, asks⟩ := State.askFirn_missing hit hasked hlost
  obtain ⟨chans, q, queued, hsrc, hreads, -, -⟩ :=
    s.queueOwn_firn (s.driftOf x.flake) (s.firnLine (s.driftOf x.flake)) cls
  exact ⟨q, by rw [asks, queued]; exact hreads, hsrc⟩

/-- The dirty notice that is due at a die, settled: the flake's firn state follows from the one it had and from the
mode of its tenancy, and its firn line is asked for where the cache misses it. -/
theorem does_dirtyNotice {s : State} {die : Nat} {x : Notice} (hon : s.aon.on = true) (hrun : s.coreStopped die = false)
    (hx : s.shadow.notices.find? (s.noticeDue die) = some x) (hc : s.firn x.flake < 9) :
    let c := s.firn x.flake
    let blank := c = fClean ∨ c = fPoisoned ∨ c = fTrimmed
    let line := s.firnLine (s.driftOf x.flake)
    Does (.dirtyNotice die) s fun t =>
      (c = fPumping → t.firn x.flake = fStale) ∧
      (blank → s.flakeMode x.flake = 2 → t.firn x.flake = fVolatile) ∧
      (blank → s.flakeMode x.flake ≤ 1 → t.firn x.flake = fDirty) ∧
      (∀ k, blank → s.tenOf (x.flake * flakeBytes) = some k → s.flakeMode x.flake = 0 →
        look 0 (t.die die).unsent k = look 0 (s.die die).unsent k + 1) ∧
      (c = fDirty ∨ c = fStale ∨ c = fVolatile ∨ c = fUnrestored ∨ c = fRestoring → t.firn x.flake = c) ∧
      (∀ m, m ≠ x.flake → t.firn m = s.firn m) ∧ t.shadow.fmap = s.shadow.fmap ∧
      t.shadow.notices = s.noticesApplied die ∧
      (s.firnHit (s.driftOf x.flake) = true → Keeps s t [.shadow, .freeze]) ∧
      (s.firnHit (s.driftOf x.flake) = false → s.firnAsked (s.driftOf x.flake) = false →
        s.isLost (s.place line).rank = false →
        ∃ q : Req, (t.chan (subOfLine s line)).reads = (s.chan (subOfLine s line)).reads ++ [q] ∧
          q.src = .firn (s.driftOf x.flake)) ∧
      t.dram.lines = s.dram.lines ∧ hostsAre t { s.hosts with nextReq := t.hosts.nextReq } ∧
      Keeps s t [.shadow, .freeze, .dram, .hosts] := by
  have running := State.fresh_coreRuns hrun
  have noted : s.fresh.noticeStep die = ((s.fresh.withNotices (s.noticesApplied die)).applyNotice x).askFirn x :=
    State.noticeStep_eq (s := s.fresh) hx
  generalize s.noticesApplied die = l at noted
  obtain ⟨u, hu⟩ : ∃ u, u = s.fresh.withNotices l := ⟨_, rfl⟩
  rw [← hu] at noted
  have firn (m : Nat) : u.firn m = s.firn m := by rw [hu]; rfl
  have mode (m : Nat) : u.flakeMode m = s.flakeMode m := by rw [hu]; rfl
  have marks : MarksFlake u (u.applyNotice x) x.flake := marksFlake_applyNotice (by rw [firn]; exact hc)
  have same : SameWay s u := by rw [hu]; exact ⟨rfl, rfl, rfl, rfl, rfl, rfl, rfl, rfl, rfl⟩
  have frame : Keeps s (u.applyNotice x) [.shadow, .freeze] := by
    have marked : Keeps s u [.shadow, .freeze, .out] := by
      rw [hu]; exact keeps_setShadow (Keeps.fresh s _) (by simp) _
    refine Keeps.of_out_nil (Keeps.trans marked marks.keeps) ?_ (by simp)
    rw [marks.eq_update, hu]; rfl
  refine does_of_effect hon (exec_dirtyNotice ..) ((if_neg running).trans noted)
    ⟨?_, ?_, ?_, ?_, ?_, ?_, ?_, ?_, ?_, ?_, ?_, ?_, ?_⟩
  · intro h
    rw [State.firn_settle, State.firn_askFirn, State.firn_applyNotice]
    exact State.firn_firnWrite_pumping ((firn _).trans h)
  · intro h hm
    rw [State.firn_settle, State.firn_askFirn, State.firn_applyNotice]
    exact State.firn_firnWrite_volatile (by rwa [firn]) ((mode _).trans hm)
  · intro h hm
    rw [State.firn_settle, State.firn_askFirn, State.firn_applyNotice]
    exact State.firn_firnWrite_dirty (by rwa [firn]) (by rwa [mode])
  · intro k h ht hm
    have unsent := State.unsent_firnWrite (s := u) (by rwa [firn]) (by rw [hu]; exact ht) ((mode _).trans hm)
    have home : u.homeDie x.flake = die := by rw [hu]; exact State.noticeDue_homeDie (s := s) hx
    rw [State.die_settle, State.die_askFirn, State.die_applyNotice, ← home, unsent, hu]
    rfl
  · intro h
    rw [State.firn_settle, State.firn_askFirn, State.firn_applyNotice]
    exact (State.firn_firnWrite_marked (by rwa [firn])).trans (firn _)
  · intro m hm
    rw [State.firn_settle, State.firn_askFirn, marks.others m hm, firn]
  · rw [settle_shadow, State.shadow_askFirn, marks.eq_update, hu]
    rfl
  · rw [settle_shadow, State.shadow_askFirn, marks.eq_update, hu]
    rfl
  · intro hit
    rw [State.askFirn_hit (by rw [marks.firnHit, marks.driftOf, hu]; exact hit)]
    exact Keeps.settle frame
  · intro hit hasked hlost
    have asked (j : Nat) : u.firnAsked j = s.firnAsked j := by rw [hu]; rfl
    have hits (j : Nat) : u.firnHit j = s.firnHit j := by rw [hu]; rfl
    have drift : (u.applyNotice x).driftOf x.flake = s.driftOf x.flake := by rw [marks.driftOf, hu]; rfl
    have line : (u.applyNotice x).firnLine (s.driftOf x.flake) = s.firnLine (s.driftOf x.flake) := by
      rw [marks.firnLine, hu]; rfl
    have chan (k : Nat) : (u.applyNotice x).chan k = s.chan k := by rw [marks.eq_update, hu]; rfl
    obtain ⟨q, hreads, hsrc⟩ := State.reads_askFirn (s := u.applyNotice x) (x := x)
      (by rw [drift, marks.firnHit, hits, hit]) (by rw [drift, marks.firnAsked, asked, hasked])
      (by rw [drift, line, marks.isLost, same.isLost, marks.place, same.place, hlost])
    rw [drift, line, marks.subOfLine, same.subOfLine, chan] at hreads
    exact ⟨q, by rw [State.chan_settle]; exact hreads, hsrc.trans (by rw [drift])⟩
  · rw [settle_dram, State.lines_askFirn, marks.eq_update, hu]
    rfl
  · have hosts : (u.applyNotice x).hosts = s.hosts := by rw [marks.eq_update, hu]; rfl
    unfold hostsAre
    rw [settle_hosts, State.hosts_askFirn, hosts]
  · have out : ((u.applyNotice x).askFirn x).out = [] := by
      rw [State.out_askFirn, marks.eq_update, hu]; rfl
    refine Keeps.settle (Keeps.of_out_nil (m := [.shadow, .freeze, .dram, .hosts, .out]) ?_ out (by simp))
    exact Keeps.trans (Keeps.mono frame (by simp)) (Keeps.mono (keeps_askFirn _ x) (by simp))

end Sys2Proof.Machine
end

section
/-! PROOFS. Notices are confirmed, held writes enter the stage of their die, and charges reach the lead die (07 R154 to
R156, R174). -/
namespace Sys2Proof.Machine

open Sys2Proof.Safety

theorem shadowIs_settle (s : State) : shadowIs (settle s) s.shadow := by
  unfold shadowIs; rw [settle_shadow]

/-- The notice has been applied on its home die, and its confirmation can cross to its channel (07 R154, 06 R141). -/
def State.noticeSeen (s : State) (d : Nat) (e : Notice) : Bool :=
  decide (s.homeDie e.flake = d) && e.applied && s.linkOpen d (dieOfSub e.sc)

theorem exec_noticeConfirmed (die : Nat) (s : State) : exec (.noticeConfirmed die) s =
    act (fun s => if s.coreStopped die then s else s.confirmStep die) s := rfl

/-- The queue entry that a notice names, confirmed where no notice left names it too (07 R154). -/
def confirmedBy (x : Notice) (l : List Notice) (q : Req) : Req :=
  if q.id = x.req ∧ (!(l.any fun e => decide (e.req = x.req))) = true then { q with confirmed := true } else q

theorem State.confirmStep_eq {s : State} {d : Nat} {x : Notice} {l : List Notice}
    (h : takeNotice (fun e => s.noticeSeen d e && s.firnHit (s.driftOf e.flake)) s.shadow.notices = some (x, l)) :
    ∃ chans cache, s.confirmStep d = s.setQueues chans { s.shadow with notices := l, cache := cache } ∧
      QueuesAre s chans x.sc (s.chan x.sc).reads ((s.chan x.sc).writes.map (confirmedBy x l)) ∧
      (look [] cache (dieOfDrift (s.driftOf x.flake))).head? = some (s.driftOf x.flake) := by
  set j := s.driftOf x.flake with hj
  set c : Chan := { s.chan x.sc with writes := (s.chan x.sc).writes.map (confirmedBy x l) } with hc
  have found : takeNotice (fun n : Notice =>
      (decide (s.homeDie n.flake = d) && n.applied && s.linkOpen d (dieOfSub n.sc)) && s.firnHit (s.driftOf n.flake))
      s.shadow.notices = some (x, l) := h
  refine ⟨(s.setChan x.sc c).dram.chans, (s.cacheLine j).shadow.cache, ?_, queuesAre_setChan s x.sc c, ?_⟩
  · simp only [State.confirmStep, found]
    rfl
  · rw [State.cacheLine]
    dsimp only
    rw [look_put_same]
    rfl

theorem confirmedBy_last {x : Notice} {l : List Notice} (h : ∀ e ∈ l, e.req ≠ x.req) :
    confirmedBy x l = fun q => if q.id = x.req then { q with confirmed := true } else q := by
  have last : l.any (fun e => decide (e.req = x.req)) = false := by simpa using h
  funext q
  simp only [confirmedBy, last, Bool.not_false, and_true]

theorem confirmedBy_named {x : Notice} {l : List Notice} (h : ∃ e ∈ l, e.req = x.req) : confirmedBy x l = id := by
  have named : l.any (fun e => decide (e.req = x.req)) = true := by simpa using h
  funext q
  simp [confirmedBy, named]

/-- The oldest applied notice of a die whose firn line is in the cache, confirmed, settled. -/
theorem does_noticeConfirmed {s : State} {die : Nat} {x : Notice} {l : List Notice} (hon : s.aon.on = true)
    (hrun : s.coreStopped die = false)
    (hx : takeNotice (fun e => s.noticeSeen die e && s.firnHit (s.driftOf e.flake)) s.shadow.notices = some (x, l)) :
    Does (.noticeConfirmed die) s fun t =>
      t.shadow.notices = l ∧
      ((∀ e ∈ l, e.req ≠ x.req) → (t.chan x.sc).writes =
        (s.chan x.sc).writes.map (fun q => if q.id = x.req then { q with confirmed := true } else q)) ∧
      ((∃ e ∈ l, e.req = x.req) → (t.chan x.sc).writes = (s.chan x.sc).writes) ∧
      (t.chan x.sc).reads = (s.chan x.sc).reads ∧ OnlyQueue s t x.sc ∧
      (look [] t.shadow.cache (dieOfDrift (s.driftOf x.flake))).head? = some (s.driftOf x.flake) ∧
      shadowIs t { s.shadow with notices := l, cache := t.shadow.cache } ∧ Keeps s t [.dram, .shadow] := by
  have running := State.fresh_coreRuns hrun
  obtain ⟨chans, cache, confirmed, ⟨hreads, hwrites, hothers⟩, hcache⟩ := State.confirmStep_eq (s := s.fresh) hx
  refine does_of_effect hon (exec_noticeConfirmed ..) ((if_neg running).trans confirmed)
    ⟨?_, fun h => ?_, fun h => ?_, ?_, ⟨?_, fun k hk => ?_⟩, ?_, ?_, ?_⟩
  · rw [settle_shadow]; rfl
  · rw [State.chan_settle, ← confirmedBy_last h]; exact hwrites
  · rw [confirmedBy_named h, List.map_id] at hwrites
    rw [State.chan_settle]; exact hwrites
  · rw [State.chan_settle]; exact hreads
  · rw [settle_dram]; rfl
  · rw [State.chan_settle]; exact hothers k hk
  · rw [settle_shadow]; exact hcache
  · rw [settle_shadow]; exact shadowIs_settle _
  · exact Keeps.settle (keeps_setQueues (Keeps.fresh s _) (by simp) (by simp) _ _)

/-! Held writes enter their die's stage. -/

/-- The oldest held write of a die that waits at its ingress die (07 R174). -/
def State.ingressOldest (s : State) (d : Nat) : Option Req :=
  s.shadow.held.find? fun q => decide ((s.place q.dpa).die = d) && !(s.shadow.staged.elem q.id)

/-- What ADMISSION_STAGE_ENTRY does at a die. -/
def State.stageStep (s : State) (d : Nat) : State :=
  match s.ingressOldest d with
  | some q =>
    if s.stageOcc d < 1024 ∧ s.coreStopped d = false then
      s.setShadow { s.shadow with staged := s.shadow.staged ++ [q.id] }
    else s
  | none => s

theorem State.stageStep_eq {s : State} {d : Nat} {q : Req} (h : s.ingressOldest d = some q) :
    s.stageStep d = if s.stageOcc d < 1024 ∧ s.coreStopped d = false then
      s.setShadow { s.shadow with staged := s.shadow.staged ++ [q.id] } else s := by
  rw [State.stageStep, h]

theorem exec_admissionStageEntry (die : Nat) (s : State) : exec (.admissionStageEntry die) s =
    act (fun s => s.stageStep die) s := rfl

theorem does_admissionStageEntry {s : State} {die : Nat} {q : Req} (hon : s.aon.on = true)
    (hrun : s.coreStopped die = false) (hq : s.ingressOldest die = some q) :
    (s.stageOcc die < 1024 → Does (.admissionStageEntry die) s fun t =>
      shadowIs t { s.shadow with staged := s.shadow.staged ++ [q.id] } ∧ Keeps s t [.shadow]) ∧
    (1024 ≤ s.stageOcc die → Does (.admissionStageEntry die) s fun t => Keeps s t []) := by
  have step : s.fresh.stageStep die = if s.stageOcc die < 1024 ∧ s.coreStopped die = false then
      s.fresh.setShadow { s.shadow with staged := s.shadow.staged ++ [q.id] } else s.fresh :=
    State.stageStep_eq (s := s.fresh) hq
  refine ⟨fun hroom => ?_, fun hfull => ?_⟩
  · exact does_of_effect hon (exec_admissionStageEntry ..) (step.trans (if_pos ⟨hroom, hrun⟩))
      ⟨shadowIs_settle _, Keeps.settle (keeps_setShadow (Keeps.fresh s _) (by simp) _)⟩
  · exact does_nothing hon (exec_admissionStageEntry ..) (step.trans (if_neg fun h => Nat.not_lt.2 hfull h.1))

/-! A die's charges reach the lead die. -/

/-- A die's count of a tenancy's flakes, added to the lead die's (07 R156). -/
def addCount (m : Sparse Nat) (e : Nat × Int) : Sparse Nat := put 0 m e.1 (((look 0 m e.1 : Nat) : Int) + e.2).toNat

/-- Each tenancy's count is added to its total once. -/
theorem look_foldl_addCount {l : Sparse Int} {b : Option Nat} (h : risingFrom b l = true) (m : Sparse Nat) (k : Nat) :
    look 0 (l.foldl addCount m) k = (((look 0 m k : Nat) : Int) + look 0 l k).toNat := by
  induction l generalizing b m with
  | nil => simp
  | cons e l ih =>
    obtain ⟨a, v⟩ := e
    have rest : risingFrom (some a) l = true := by
      cases b <;> simp_all [risingFrom]
    rw [List.foldl_cons, ih rest]
    by_cases hk : k = a
    · have unlisted : look 0 l k = 0 := by rw [look, look?_risingFrom rest (by omega)]; rfl
      rw [unlisted, hk, addCount, look_put_same]
      simp only [look, look?, if_pos, Option.getD_some]
      omega
    · have others : look 0 ((a, v) :: l) k = look 0 l k := by simp [look, look?, hk]
      rw [others, addCount, look_put_ne _ _ _ hk]

theorem exec_snowCountMessage (die : Nat) (s : State) : exec (.snowCountMessage die) s =
    act (fun s => if s.coreStopped die then s else s.tellLead die) s := rfl

theorem State.tellLead_eq (s : State) (d : Nat) : s.tellLead d = s.setShadow { s.shadow with
    lead := (s.die d).unsent.foldl addCount s.shadow.lead
    dies := (s.setDie d { s.die d with unsent := [] }).shadow.dies } := rfl

theorem does_snowCountMessage {s : State} {die : Nat} (hon : s.aon.on = true) (hrun : s.coreStopped die = false)
    (hwf : Sparse.wf 0 (s.die die).unsent = true) :
    Does (.snowCountMessage die) s fun t =>
      (∀ k, look 0 t.shadow.lead k = (((look 0 s.shadow.lead k : Nat) : Int) + look 0 (s.die die).unsent k).toNat) ∧
      t.die die = { s.die die with unsent := [] } ∧ (∀ d, d ≠ die → t.die d = s.die d) ∧
      shadowIs t { s.shadow with lead := t.shadow.lead, dies := t.shadow.dies } ∧ Keeps s t [.shadow] := by
  have running := State.fresh_coreRuns hrun
  have rising : risingFrom none (s.die die).unsent = true := by
    simp only [Sparse.wf, Bool.and_eq_true] at hwf
    exact hwf.1
  refine does_of_effect hon (exec_snowCountMessage ..) ((if_neg running).trans (State.tellLead_eq ..))
    ⟨fun k => ?_, ?_, fun d hd => ?_, ?_, ?_⟩
  · rw [settle_shadow]; exact look_foldl_addCount rising _ k
  · rw [State.die_settle]; exact look_put_same ..
  · rw [State.die_settle]; exact look_put_ne _ _ _ hd
  · rw [settle_shadow]; exact shadowIs_settle _
  · exact Keeps.settle (keeps_setShadow (Keeps.fresh s _) (by simp) _)

end Sys2Proof.Machine
end

section
/-! PROOFS. A write that is admitted from its stage joins its channel (07 R174, R175): its wait is noted, its dirty notice
leaves, and its Cmp may. -/
namespace Sys2Proof.Machine

open Sys2Proof.Safety

theorem SameWay.subOfReq {s t : State} (h : SameWay s t) (q : Req) : t.subOfReq q = s.subOfReq q := by
  unfold State.subOfReq State.physical
  split
  · rfl
  · rfl
  · rw [h.readRank, h.place]

theorem keeps_setPath {s t : State} {l : List Part} (h : Keeps s t l) (hl : [.dram, .shadow, .regs, .out] ⊆ l)
    (chans : Sparse Chan) (x : Shadow) (regs : Sparse Nat) (out : List Output) :
    Keeps s (t.setPath chans x regs out) l := by
  intro p hp
  have hk := h p hp
  cases p with
  | dram | shadow | regs | out => exact absurd (hl (by simp)) hp
  | _ => exact hk

/-- A Cmp over an open route moves nothing but a counter of its port and the output (06 R146). -/
theorem State.respCmp_eq {s : State} {q : Req} (hw : s.waitsAt (s.place q.dpa).die (dieOfPort q.port) = none) :
    ∃ regs out, s.respCmp q = s.setPath s.dram.chans s.shadow regs out ∧
      RegsBut s (s.setPath s.dram.chans s.shadow regs out) [(0x5010 + q.port, 6)] := by
  by_cases quiet : (q.answered || s.mute q) = true
  · exact ⟨s.regs, s.out, if_pos quiet, RegsBut.refl s _⟩
  · rw [Bool.not_eq_true, Bool.or_eq_false_iff] at quiet
    obtain ⟨regs, sent, counted⟩ := State.respCmp_open quiet.1 quiet.2 hw
    exact ⟨regs, _, sent, counted⟩

/-- Behind writes that have been answered from a queue's entries, the Cmp of the write that has joined it is the only one
to be looked at (04 R86). -/
theorem State.sendCmps_behind {s : State} {sc : Nat} {l : List Req} {w : Req} (hw : (s.chan sc).writes = l ++ [w])
    (hl : ∀ e ∈ l.take 64, e.answered = true) (hway : s.waitsAt (s.place w.dpa).die (dieOfPort w.port) = none) :
    ∃ chans regs out done, s.sendCmps sc = s.setPath chans s.shadow regs out ∧
      QueuesAre s chans sc (s.chan sc).reads (l ++ [{ w with answered := done }]) ∧
      RegsBut s (s.setPath chans s.shadow regs out) [(0x5010 + w.port, 6)] := by
  by_cases h : l.length < 64 ∧ w.answered = false
  · obtain ⟨hlen, ha⟩ := h
    have queued := queuesAre_setChan s sc { s.chan sc with writes := l ++ [{ w with answered := true }] }
    set u := s.setChan sc { s.chan sc with writes := l ++ [{ w with answered := true }] } with hu
    have same : SameWay s u := ⟨rfl, rfl, rfl, rfl, rfl, rfl, rfl, rfl, rfl⟩
    obtain ⟨regs, out, hcmp, hregs⟩ := State.respCmp_eq (s := u) (q := w) (by rw [same.waitsAt, same.place]; exact hway)
    exact ⟨u.dram.chans, regs, out, true, (State.sendCmps_last hw hl hlen ha).trans hcmp, queued, hregs⟩
  · have answered : ∀ e ∈ (s.chan sc).writes.take 64, e.answered = true := by
      rw [hw]
      intro e he
      by_cases hlen : l.length < 64
      · rcases mem_take_append_singleton he with he | rfl
        · exact hl e he
        · simpa using fun ha => h ⟨hlen, ha⟩
      · rw [List.take_append_of_le_length (by omega)] at he
        exact hl e he
    have queued := queuesAre_setChan s sc (s.chan sc)
    rw [hw] at queued
    exact ⟨_, s.regs, s.out, w.answered, State.sendCmps_answered answered, queued, RegsBut.refl s _⟩

/-- A write to a line that no queued write holds joins its queue and its dirty notice leaves, whether its Cmp is sent or
not (04 R86, R90, 07 R154). -/
theorem State.enterWrite_behind {s : State} {q : Req} {sc : Nat} (hsc : s.subOfReq q = sc)
    (hway : s.waitsAt (s.place q.dpa).die (dieOfPort q.port) = none) (hline : ∀ e ∈ (s.chan sc).writes, e.dpa ≠ q.dpa)
    (hans : ∀ e ∈ (s.chan sc).writes.take 64, e.answered = true) :
    ∃ chans through regs out w,
      s.enterWrite q = s.setPath chans { s.shadow with
        notices := s.shadow.notices ++ [noticeOf sc q], through := through } regs out ∧
      QueuesAre s chans sc (s.chan sc).reads ((s.chan sc).writes ++ [w]) ∧ w.id = q.id ∧
      RegsBut s (s.setPath chans s.shadow regs out) [(0x5010 + q.port, 5), (0x5010 + q.port, 6)] := by
  obtain ⟨chans, through, regs, entered, queues, counted⟩ := State.enterWrite_eq_sendCmps hsc hline
  set u := s.setPath chans { s.shadow with
    notices := s.shadow.notices ++ [noticeOf sc q], through := through } regs s.out with hu
  have same : SameWay s u :=
    ⟨rfl, rfl, rfl, rfl, rfl, rfl, rfl, rfl, counted _ _ (by decide) (by simp [stagingCount]) (by simp)⟩
  obtain ⟨chans', regs', out, done, sent, queues', counted'⟩ := State.sendCmps_behind (s := u) queues.2.1 hans
    (by rw [same.waitsAt, same.place]; exact hway)
  rw [show (u.chan sc).reads = (s.chan sc).reads from queues.1] at queues'
  exact ⟨chans', through, regs', out, _, entered.trans sent, QueuesAre.trans (t := u) queues queues', rfl,
    RegsBut.trans (t := u) (RegsBut.mono counted (by simp))
      (RegsBut.mono counted' (by simp [State.asArrived, State.asQueued]))⟩

theorem exec_writeAdmitted (die : Nat) (s : State) : exec (.writeAdmitted die) s =
    act (fun s => if s.coreStopped die then s else s.admitStep die) s := rfl

/-- The state in which an admitted write enters its channel: it waits no more, and its wait is noted. -/
def State.released (s : State) (q : Req) : State :=
  (s.setShadow { s.shadow with
    held := s.shadow.held.filter fun e => !decide (e.id = q.id)
    staged := without q.id s.shadow.staged }).noteWait q

theorem State.admitStep_eq {s : State} {d : Nat} {q : Req} (hq : s.nextAdmitted d = some q) :
    s.admitStep d = (s.released q).enterChannel q := by
  rw [State.admitStep, hq]; rfl

/-- The write that is admitted next at a die joins its channel, settled. -/
theorem does_writeAdmitted {s : State} {die : Nat} {q : Req} (hon : s.aon.on = true) (hrun : s.coreStopped die = false)
    (hq : s.nextAdmitted die = some q) (hop : q.op = .write)
    (hline : ∀ e ∈ (s.chan (s.subOfReq q)).writes, e.dpa ≠ q.dpa)
    (hlost : s.isLost (s.place q.dpa).rank = false) (hway : s.waitsAt (s.place q.dpa).die (dieOfPort q.port) = none)
    (hans : ∀ e ∈ (s.chan (s.subOfReq q)).writes.take 64, e.answered = true) :
    Does (.writeAdmitted die) s fun t =>
      t.shadow.held = s.shadow.held.filter (fun e => !decide (e.id = q.id)) ∧
      t.shadow.staged = without q.id s.shadow.staged ∧
      t.reg 0x5804 2 = max (s.reg 0x5804 2) (min 0xFFFFFFFF ((s.aon.now - q.enter) / 1000)) ∧
      (t.chan (s.subOfReq q)).writes.map (·.id) = (s.chan (s.subOfReq q)).writes.map (·.id) ++ [q.id] ∧
      t.shadow.notices = s.shadow.notices ++ [noticeOf (s.subOfReq q) q] ∧
      OnlyQueue s t (s.subOfReq q) ∧ t.shadow.firn = s.shadow.firn ∧
      RegsBut s t [(0x5804, 2), (0x5010 + q.port, 5), (0x5010 + q.port, 6)] ∧
      Keeps s t [.dram, .shadow, .regs, .out] := by
  have running := State.fresh_coreRuns hrun
  set u := s.fresh.released q with hu
  set p : Req := { q with enter := s.aon.now } with hp
  have noted : RegsBut s u [(0x5804, 2)] := regsBut_setReg (RegsBut.refl s _) (by simp) (by decide) _
  have waited : u.reg 0x5804 2 = max (s.reg 0x5804 2) (min 0xFFFFFFFF ((s.aon.now - q.enter) / 1000)) :=
    State.reg_setReg_same ..
  have same : SameWay s u :=
    ⟨rfl, rfl, rfl, rfl, rfl, rfl, rfl, rfl, noted _ _ (by decide) (by simp [stagingCount]) (by simp)⟩
  have home : u.subOfReq p = s.subOfReq q := same.subOfReq q
  have chan (k : Nat) : u.chan k = s.chan k := rfl
  obtain ⟨chans, through, regs, out, w, entered, queues, hid, counted⟩ := State.enterWrite_behind (s := u) (q := p) home
    (by rw [same.waitsAt, same.place]; exact hway) hline hans
  have step : (if s.fresh.coreStopped die then s.fresh else s.fresh.admitStep die) = u.enterWrite p := by
    rw [if_neg running, State.admitStep_eq (s := s.fresh) hq]
    exact State.enterChannel_write (by rw [same.isLost, same.place]; exact hlost) (by rw [hop]; decide)
  obtain ⟨-, hwrites, hothers⟩ := queues
  refine does_of_effect hon (exec_writeAdmitted ..) (step.trans entered)
    ⟨?_, ?_, ?_, ?_, ?_, ⟨?_, fun k hk => ?_⟩, ?_, ?_, ?_⟩
  · rw [settle_shadow]; rfl
  · rw [settle_shadow]; rfl
  · rw [reg_settle_of_not_stagingCount _ (by decide) (by simp [stagingCount])]
    exact (counted _ _ (by decide) (by simp [stagingCount]) (by simp)).trans waited
  · rw [chan_settle_setPath, hwrites, List.map_append, chan, List.map_singleton, hid]
  · rw [settle_shadow]; rfl
  · rw [settle_dram]; rfl
  · rw [chan_settle_setPath]; exact hothers k hk
  · rw [settle_shadow]; rfl
  · exact regsBut_settle (RegsBut.trans (t := u) (RegsBut.mono noted (by simp)) (RegsBut.mono counted (by simp [hp])))
  · exact Keeps.settle (keeps_setPath (keeps_setReg (keeps_setShadow (Keeps.fresh s _) (by simp) _) (by simp) _ _ _)
      (by simp) _ _ _ _)

/-- Settles O37: each of the five commands by its effect on the clean state. -/
theorem noticesAndAdmission : Obligations.NoticesAndAdmission := by
  intro s die hon _ hrun
  exact ⟨fun x hx hc => does_dirtyNotice hon hrun hx hc, fun x l hx => does_noticeConfirmed hon hrun hx,
    fun q hq => does_admissionStageEntry hon hrun hq,
    fun q hq hop hline hlost hway hans _ => does_writeAdmitted hon hrun hq hop hline hlost hway hans,
    fun hwf => does_snowCountMessage hon hrun hwf⟩

end Sys2Proof.Machine
end

section
/-! PROOFS. What the programming of a die's map leaves unchanged (08 R188, R192): of the state only the record of the
die moves, and there not what its closing epoch has fixed, nor its seals. -/
namespace Sys2Proof.Machine

open Sys2Proof.Safety

/-- Two records of a die agree on the epoch that it closes: the drafted seal, the map pages that are saved for it and
those changed since, and the two seals; and its map programming is not over in the second if not in the first. -/
structure SameClose (x y : DieShadow) : Prop where
  closing : y.closing = x.closing
  mapPages : y.mapPages = x.mapPages
  mapChanged : y.mapChanged = x.mapChanged
  sealA : y.sealA = x.sealA
  sealB : y.sealB = x.sealB
  phase : x.phase ≠ 0 → y.phase ≠ 0

/-- A state with other records of its dies. -/
def State.setDies (s : State) (dies : Sparse DieShadow) : State := s.setShadow { s.shadow with dies := dies }

/-- From s to t only the record of one die has moved, and not what its closing epoch has fixed. -/
structure MapWork (d : Nat) (s t : State) : Prop where
  eq_update : t = s.setDies t.shadow.dies
  others : ∀ e, e ≠ d → t.die e = s.die e
  same : SameClose (s.die d) (t.die d)

section
variable {d : Nat}

theorem MapWork.refl (s : State) : MapWork d s s := ⟨rfl, fun _ _ => rfl, ⟨rfl, rfl, rfl, rfl, rfl, id⟩⟩

theorem SameClose.trans {x y z : DieShadow} (h : SameClose x y) (h' : SameClose y z) : SameClose x z :=
  ⟨h'.closing.trans h.closing, h'.mapPages.trans h.mapPages, h'.mapChanged.trans h.mapChanged,
    h'.sealA.trans h.sealA, h'.sealB.trans h.sealB, fun hx => h'.phase (h.phase hx)⟩

theorem MapWork.trans {s t u : State} (h : MapWork d s t) (h' : MapWork d t u) : MapWork d s u := by
  refine ⟨?_, fun e he => (h'.others e he).trans (h.others e he), h.same.trans h'.same⟩
  conv_lhs => rw [h'.eq_update, h.eq_update]
  rfl

theorem MapWork.foldl {α : Type} {f : State → α → State} (hf : ∀ t a, MapWork d t (f t a)) (l : List α) (s : State) :
    MapWork d s (l.foldl f s) := by
  induction l generalizing s with
  | nil => exact .refl s
  | cons a l ih => exact (hf s a).trans (ih _)

theorem mapWork_setDie {s : State} {x : DieShadow} (h : SameClose (s.die d) x) : MapWork d s (s.setDie d x) := by
  refine ⟨rfl, fun e he => ?_, ?_⟩
  · rw [State.die_setDie, if_neg he]
  · rw [State.die_setDie, if_pos rfl]; exact h

theorem mapWork_setLun (s : State) (l : Nat) (x : Lun) : MapWork d s (s.setLun d l x) :=
  mapWork_setDie ⟨rfl, rfl, rfl, rfl, rfl, id⟩

theorem mapWork_addToUnit (s : State) (u : PUnit) (ld : Load) : MapWork d s (s.addToUnit d u ld) := by
  unfold State.addToUnit
  split
  · exact .refl s
  · exact (mapWork_setLun s _ _).trans (mapWork_setDie ⟨rfl, rfl, rfl, rfl, rfl, id⟩)

theorem mapWork_takeUnit (s : State) (u : PUnit) : MapWork d s (s.takeUnit d u) :=
  mapWork_setDie ⟨rfl, rfl, rfl, rfl, rfl, id⟩

theorem mapWork_issueUnits (s : State) (l : List PUnit) : MapWork d s (s.issueUnits d l) :=
  mapWork_setDie ⟨rfl, rfl, rfl, rfl, rfl, id⟩

theorem mapWork_unitOn {s : State} {l : Nat} {map : Bool} {fresh : Option Nat} {e : PUnit × State}
    (h : s.unitOn d l map fresh = some e) : MapWork d s e.2 := by
  unfold State.unitOn at h
  dsimp only at h
  split at h
  · obtain rfl := Option.some.inj h
    exact mapWork_setDie ⟨rfl, rfl, rfl, rfl, rfl, id⟩
  · split at h
    · obtain rfl := Option.some.inj h
      refine MapWork.trans ?_ (mapWork_setLun _ _ _)
      exact mapWork_setDie ⟨rfl, rfl, rfl, rfl, rfl, id⟩
    · cases h

theorem mapWork_newUnit {s : State} {f : Nat} {map : Bool} {fresh : Option Nat} {e : PUnit × State}
    (h : s.newUnit d f map fresh = some e) : MapWork d s e.2 := by
  obtain ⟨l, -, hl⟩ := Option.bind_eq_some_iff.1 h
  exact mapWork_unitOn hl

theorem mapWork_placeLoad {s : State} {map : Bool} {fresh : Option Nat} {ld : Load} {e : Nat × State}
    (h : s.placeLoad d map fresh ld = some e) : MapWork d s e.2 := by
  unfold State.placeLoad at h
  split at h
  · cases h
  · obtain ⟨p, hp, rfl⟩ := Option.map_eq_some_iff.1 h
    have opened : MapWork d s p.2 := by
      split at hp
      · obtain rfl := Option.some.inj hp
        exact .refl s
      · exact mapWork_newUnit hp
    exact (opened.trans (mapWork_addToUnit _ _ _)).trans (mapWork_setDie ⟨rfl, rfl, rfl, rfl, rfl, id⟩)

theorem mapWork_giveAway {s : State} {u : PUnit} {e : Nat × State} (h : s.giveAway d u = some e) : MapWork d s e.2 := by
  obtain ⟨l, -, hl⟩ := Option.bind_eq_some_iff.1 h
  obtain ⟨p, hp, rfl⟩ := Option.map_eq_some_iff.1 hl
  refine ((MapWork.trans ?_ (mapWork_setLun _ _ _)).trans (mapWork_unitOn hp)).trans
    (.foldl (fun v ld => mapWork_addToUnit v _ ld) _ _)
  exact (mapWork_takeUnit s u).trans (mapWork_setDie ⟨rfl, rfl, rfl, rfl, rfl, id⟩)

theorem mapWork_startHere (s : State) (l : Nat) : MapWork d s (s.startHere d l) := by
  unfold State.startHere
  dsimp only
  split
  · exact .refl s
  · split
    · exact .refl s
    · split_ifs
      · exact mapWork_issueUnits s _
      · exact (mapWork_issueUnits s _).trans (mapWork_setLun _ _ _)
      · exact .refl s
      · exact mapWork_setLun s _ _

theorem mapWork_startUnits (s : State) (l : Nat) : MapWork d s (s.startUnits d l) := by
  unfold State.startUnits
  dsimp only
  split
  · refine .foldl (fun t u => ?_) _ s
    split
    · next h => exact (mapWork_giveAway h).trans (mapWork_startHere _ _)
    · exact .refl t
  · exact mapWork_startHere s l

/-- What one map job does to the state and to the jobs that wait (08 R188). -/
def placeJob (d : Nat) (acc : State × List MapJob) (j : MapJob) : State × List MapJob :=
  if !acc.2.isEmpty then (acc.1, acc.2 ++ [j])
  else match acc.1.placeLoad d true none (jobLoad j) with
    | some (l, t) => (t.startUnits d l, [])
    | none => (acc.1, [j])

theorem mapWork_placeJob (acc : State × List MapJob) (j : MapJob) : MapWork d acc.1 (placeJob d acc j).1 := by
  unfold placeJob
  split
  · exact .refl _
  · split
    · next h => exact (mapWork_placeLoad h).trans (mapWork_startUnits _ _)
    · exact .refl _

theorem mapWork_foldl_placeJob (l : List MapJob) (acc : State × List MapJob) :
    MapWork d acc.1 (l.foldl (placeJob d) acc).1 := by
  induction l generalizing acc with
  | nil => exact .refl _
  | cons j l ih => exact (mapWork_placeJob acc j).trans (ih _)

theorem State.placeJobs_eq (s : State) (d : Nat) :
    let r := (s.die d).jobs.foldl (placeJob d) (s, [])
    s.placeJobs d = r.1.setDie d { r.1.die d with jobs := r.2 } := rfl

theorem mapWork_placeJobs (s : State) : MapWork d s (s.placeJobs d) := by
  rw [State.placeJobs_eq]
  exact (mapWork_foldl_placeJob _ (s, [])).trans (mapWork_setDie ⟨rfl, rfl, rfl, rfl, rfl, id⟩)

theorem mapWork_mapStep (s : State) : MapWork d s (s.mapStep d) := by
  unfold State.mapStep
  dsimp only
  split_ifs
  · exact .refl s
  · exact mapWork_setDie ⟨rfl, rfl, rfl, rfl, rfl, fun _ => Nat.succ_ne_zero _⟩
  · exact mapWork_setDie ⟨rfl, rfl, rfl, rfl, rfl, fun _ => Nat.succ_ne_zero _⟩
  · exact mapWork_setDie ⟨rfl, rfl, rfl, rfl, rfl, fun _ => Nat.succ_ne_zero _⟩
  · exact .refl s

theorem mapWork_advanceMaps (s : State) : MapWork d s (s.advanceMaps d) := by
  have round (t : State) : MapWork d t ((t.placeJobs d).mapStep d) := (mapWork_placeJobs t).trans (mapWork_mapStep _)
  exact ((round s).trans (round _)).trans (round _)

end

end Sys2Proof.Machine
end

section
/-! PROOFS. An epoch closes on every die that works, at a boundary and at the first arming (07 R163 to R165, Table
07.5). -/
namespace Sys2Proof.Machine

open Sys2Proof.Safety

/-- From the first record to the second a die has begun to close an epoch: its seal is drafted, these map pages are being
saved, none has changed since, and its seals are those it had. -/
structure Closes (x y : DieShadow) (sl : Seal) (pages : List Nat) : Prop where
  closing : y.closing = some sl
  mapPages : y.mapPages = pages
  mapChanged : y.mapChanged = []
  phase : y.phase ≠ 0
  sealA : y.sealA = x.sealA
  sealB : y.sealB = x.sealB

/-- The map pages that the close of an epoch saves on a die: the changed ones, at the first arming all (07 R164). -/
def State.closePages (s : State) (d : Nat) : List Nat :=
  if s.shadow.counter.isNone then List.range (s.mapTotal d) else (s.die d).mapChanged

theorem State.closePages_eq {s t : State} {d : Nat} (h : t = s.setDies t.shadow.dies) (hd : t.die d = s.die d) :
    t.closePages d = s.closePages d := by
  have total : t.mapTotal d = s.mapTotal d := by rw [h]; rfl
  have counter : t.shadow.counter = s.shadow.counter := by rw [h]; rfl
  rw [State.closePages, State.closePages, total, counter, hd]

/-- The close of an epoch on one die: of the rest of the state nothing moves. -/
structure ClosesOn (s t : State) (d : Nat) (sl : Seal) : Prop where
  eq_update : t = s.setDies t.shadow.dies
  others : ∀ e, e ≠ d → t.die e = s.die e
  here : Closes (s.die d) (t.die d) sl (s.closePages d)

theorem State.setDies_setDie (s : State) (d : Nat) (x : DieShadow) (dies : Sparse DieShadow) :
    (s.setDie d x).setDies dies = s.setDies dies := by
  simp only [State.setDies, State.setShadow, State.setDie]

/-- The record of a die whose epoch begins to close, its map pages about to be saved. -/
def State.closeRecord (s : State) (d : Nat) (sl : Seal) (jobs : List MapJob) : DieShadow :=
  { s.die d with
    closing := some sl, mapChanged := [], phase := 1, mapPages := s.closePages d, jobs := jobs
    heatChanged := (s.die d).heatChanged.filter fun p => !(s.closePages d).elem p }

/-- The close of an epoch on a die writes its record, and the programming of its map goes on from there. -/
theorem State.closeOn_eq (s : State) (d : Nat) (sl : Seal) : ∃ (t : State) (jobs : List MapJob),
    s.closeOn d sl = t.advanceMaps d ∧ (∀ dies, t.setDies dies = s.setDies dies) ∧
    t.die d = s.closeRecord d sl jobs ∧ ∀ e, e ≠ d → t.die e = s.die e := by
  set x : DieShadow := { s.die d with
    closing := some sl, mapChanged := []
    heatChanged := (s.die d).heatChanged.filter fun p => !(s.closePages d).elem p } with hx
  set u := s.setDie d x with hu
  have drafted : u.die d = x := by rw [hu, State.die_setDie, if_pos rfl]
  refine ⟨u.setDie d { u.die d with
    phase := 1, mapPages := s.closePages d, jobs := (s.closePages d).map (u.mapJob d) },
    (s.closePages d).map (u.mapJob d), rfl, fun _ => ?_,
    ?_, fun e he => ?_⟩
  · rw [State.setDies_setDie, hu, State.setDies_setDie]
  · rw [State.die_setDie, if_pos rfl, drafted]
    rfl
  · rw [State.die_setDie, if_neg he, hu, State.die_setDie, if_neg he]

theorem closesOn_closeOn (s : State) (d : Nat) (sl : Seal) : ClosesOn s (s.closeOn d sl) d sl := by
  obtain ⟨t, jobs, closed, base, started, rest⟩ := s.closeOn_eq d sl
  obtain ⟨eq_update, others, same⟩ := mapWork_advanceMaps (d := d) t
  rw [started] at same
  rw [closed]
  exact ⟨eq_update.trans (base _), fun e he => (others e he).trans (rest e he), same.closing, same.mapPages,
    same.mapChanged, same.phase (Nat.succ_ne_zero 0), same.sealA, same.sealB⟩

/-- The close of an epoch on a list of dies. -/
structure ClosesAll (s t : State) (l : List Nat) (f : Nat → Seal) : Prop where
  eq_update : t = s.setDies t.shadow.dies
  others : ∀ e, e ∉ l → t.die e = s.die e
  here : ∀ d ∈ l, Closes (s.die d) (t.die d) (f d) (s.closePages d)

theorem ClosesAll.cons {s t u : State} {d : Nat} {l : List Nat} {f : Nat → Seal} (hd : d ∉ l)
    (h : ClosesOn s t d (f d)) (h' : ClosesAll t u l f) : ClosesAll s u (d :: l) f := by
  obtain ⟨eq_update, others, here⟩ := h
  refine ⟨?_, fun e he => ?_, fun e he => ?_⟩
  · conv_lhs => rw [h'.eq_update, eq_update]
    rfl
  · rw [List.mem_cons, not_or] at he
    exact (h'.others e he.2).trans (others e he.1)
  · rcases List.mem_cons.1 he with rfl | he
    · rw [h'.others e hd]
      exact here
    · have same := others e fun h => hd (h ▸ he)
      have closes := h'.here e he
      rwa [same, State.closePages_eq eq_update same] at closes

theorem closesAll_foldl {l : List Nat} (hl : l.Nodup) (f : Nat → Seal) (s : State) :
    ClosesAll s (l.foldl (fun t d => t.closeOn d (f d)) s) l f := by
  induction l generalizing s with
  | nil => exact ⟨rfl, fun _ _ => rfl, fun d hd => absurd hd List.not_mem_nil⟩
  | cons d l ih =>
    obtain ⟨hd, hl⟩ := List.nodup_cons.1 hl
    rw [List.foldl_cons]
    exact .cons hd (closesOn_closeOn s d (f d)) (ih hl (s.closeOn d (f d)))

theorem State.mem_workingDies {s : State} {d : Nat} : d ∈ s.workingDies ↔ d < s.n ∧ s.dieOut d = false := by
  simp [State.workingDies, State.dieList]

theorem State.nodup_workingDies (s : State) : s.workingDies.Nodup := List.Nodup.filter _ List.nodup_range

/-- Shadowing after the close of an epoch: beside the records of the dies the drift summary has moved, the sweeps and
checkpoints to be sealed, and the boundary that waits. -/
def Shadow.closed (x y : Shadow) : Shadow :=
  { x with
    dies := y.dies, summary := y.summary, sealing := y.sealing, ckptDone := y.ckptDone, ckptSealing := y.ckptSealing
    boundaryDue := y.boundaryDue }

/-- What the close of an epoch changes: of the records of the dies that work, what `Closes` says; of the rest, what
`Shadow.closed` lets move. -/
structure EpochCloses (s t : State) (e : Nat) : Prop where
  eq_update : t = s.setShadow (s.shadow.closed t.shadow)
  here : ∀ d, d < s.n → s.dieOut d = false → Closes (s.die d) (t.die d) (s.draftSeal d e) (s.closePages d)

theorem epochCloses_closeEpoch (s : State) (e : Nat) : EpochCloses s (s.closeEpoch e) e := by
  obtain ⟨eq_update, -, here⟩ := closesAll_foldl s.nodup_workingDies (fun d => s.draftSeal d e) s
  refine ⟨?_, fun d hd ho => here d (State.mem_workingDies.2 ⟨hd, ho⟩)⟩
  unfold State.closeEpoch
  generalize s.workingDies.foldl (fun t d => t.closeOn d (s.draftSeal d e)) s = t at eq_update
  rw [eq_update]
  rfl

end Sys2Proof.Machine
end

section
/-! PROOFS. Epoch boundaries and the arming of persistence (O38): what EPOCH_BOUNDARY, PERSISTENCE_ARM and
WEAR_HORIZON_UPDATE do (07 R163, R164, R179, R182). -/
namespace Sys2Proof.Machine

open Sys2Proof.Safety

section
variable {s t : State} {e : Nat} (h : EpochCloses s t e)
include h

theorem EpochCloses.shadow_eq : t.shadow = s.shadow.closed t.shadow := congrArg (·.shadow) h.eq_update

theorem EpochCloses.keeps {b : State} {l : List Part} (hs : Keeps b s l) (hl : Part.shadow ∈ l) : Keeps b t l := by
  rw [h.eq_update]
  exact keeps_setShadow hs hl _

end

/-- What EPOCH_BOUNDARY does (07 R163 to R166). -/
def State.boundaryStep (s : State) : State :=
  if s.shadow.counter = none ∨ s.shadow.arming = true ∨ s.freeze.active = true ∨ s.seq.st ≠ 12 then s
  else if s.closingAny then
    if s.shadow.boundaryDue then s
    else (s.setShadow { s.shadow with boundaryDue := true }).inc 0x5801 4
  else s.boundary

theorem exec_epochBoundary (s : State) : exec .epochBoundary s = act State.boundaryStep s := rfl

section
variable {s : State} {e : Nat} (hfr : s.freeze.active = false) (har : s.shadow.arming = false)
  (hcnt : s.shadow.counter = some e) (hst : s.seq.st = 12)
include hfr har hcnt hst

theorem State.boundaryStep_idle (hany : s.closingAny = false) : s.boundaryStep = s.boundary := by
  simp [State.boundaryStep, hfr, har, hcnt, hst, hany]

theorem State.boundaryStep_closing (hany : s.closingAny = true) (hdue : s.shadow.boundaryDue = false) :
    s.boundaryStep = (s.setShadow { s.shadow with boundaryDue := true }).inc 0x5801 4 := by
  simp [State.boundaryStep, hfr, har, hcnt, hst, hany, hdue]

end

/-- What PERSISTENCE_ARM does (07 R164, R179). -/
def State.armStep (s : State) : State :=
  if s.shadow.armed = true ∨ s.shadow.arming = true ∨ s.seq.st ≠ 12 ∨ s.freeze.active = true then s
  else
    match s.shadow.counter with
    | some _ =>
      if s.armable (gib 2) then
        (s.setShadow { s.shadow with armed := true, forceThrough := false }).report 0 cArmed 0 0 []
      else s
    | none => if s.armable (gib 1) then (s.setShadow { s.shadow with arming := true }).closeEpoch 0 else s

theorem exec_persistenceArm (s : State) : exec .persistenceArm s = act State.armStep s := rfl

section
variable {s : State} {e : Nat} (hfr : s.freeze.active = false) (hun : s.shadow.armed = false)
  (har : s.shadow.arming = false) (hst : s.seq.st = 12)
include hfr hun har hst

theorem State.armStep_again (hcnt : s.shadow.counter = some e) : s.armStep = if s.armable (gib 2) then
    (s.setShadow { s.shadow with armed := true, forceThrough := false }).report 0 cArmed 0 0 [] else s := by
  simp [State.armStep, hfr, hun, har, hcnt, hst]

theorem State.armStep_first (hcnt : s.shadow.counter = none) (h : s.armable (gib 1) = true) :
    s.armStep = (s.setShadow { s.shadow with arming := true }).closeEpoch 0 := by
  simp [State.armStep, hfr, hun, har, hcnt, hst, h]

end

/-- Shadowing with the next epoch open and committed to the counter (07 R163). -/
def Shadow.nextEpoch (x : Shadow) : Shadow := { x with epoch := x.epoch + 1, counter := some (x.epoch + 1) }

theorem State.boundary_eq (s : State) :
    s.boundary = (s.setShadow s.shadow.nextEpoch).closeEpoch s.shadow.epoch := rfl

theorem State.draftSeal_nextEpoch (s : State) (d e : Nat) :
    (s.fresh.setShadow s.shadow.nextEpoch).draftSeal d e = s.draftSeal d e := rfl

theorem State.draftSeal_arming (s : State) (d e : Nat) :
    (s.fresh.setShadow { s.shadow with arming := true }).draftSeal d e = s.draftSeal d e := rfl

theorem State.armable_fresh (s : State) (k : Nat) : s.fresh.armable k = s.armable k := rfl

theorem State.armable_rearmed (s : State) (k : Nat) :
    (s.fresh.setShadow { s.shadow with armed := true, forceThrough := false }).armable k = s.armable k := rfl

/-- What the close of an epoch does to the dies that work, read where its command ends. -/
theorem EpochCloses.settled {s u v : State} {e : Nat} (h : EpochCloses u v e) (hn : u.n = s.n)
    (ho : ∀ d, u.dieOut d = s.dieOut d) (hdie : ∀ d, u.die d = s.die d)
    (hdraft : ∀ d, u.draftSeal d e = s.draftSeal d e) {d : Nat} (hd : d < s.n) (hdo : s.dieOut d = false) :
    Closes (s.die d) ((settle v).die d) (s.draftSeal d e) (u.closePages d) := by
  have closes := h.here d (hn ▸ hd) ((ho d).trans hdo)
  rwa [hdie, hdraft, ← State.die_settle v] at closes

section
variable {s : State} {e : Nat} (hon : s.aon.on = true) (hfr : s.freeze.active = false)
include hon hfr

/-- A boundary while no die closes an epoch closes the one that is open and opens the next. -/
theorem does_epochBoundary_closes (har : s.shadow.arming = false) (hcnt : s.shadow.counter = some e)
    (hst : s.seq.st = 12) (hany : s.closingAny = false) : Does .epochBoundary s fun t =>
      t.shadow.epoch = s.shadow.epoch + 1 ∧ t.shadow.counter = some (s.shadow.epoch + 1) ∧
      (∀ d, d < s.n → s.dieOut d = false → (t.die d).closing = some (s.draftSeal d s.shadow.epoch) ∧
        (t.die d).mapPages = (s.die d).mapChanged ∧ (t.die d).mapChanged = [] ∧ (t.die d).phase ≠ 0 ∧
        (t.die d).sealA = (s.die d).sealA ∧ (t.die d).sealB = (s.die d).sealB) ∧
      t.shadow.firn = s.shadow.firn ∧ t.shadow.fmap = s.shadow.fmap ∧ Keeps s t [.shadow] := by
  obtain ⟨u, hu⟩ : ∃ u, u = s.fresh.setShadow s.shadow.nextEpoch := ⟨_, rfl⟩
  have closes := epochCloses_closeEpoch u s.shadow.epoch
  have pages (d : Nat) : u.closePages d = (s.die d).mapChanged := by rw [hu]; rfl
  have step : s.fresh.boundaryStep = u.closeEpoch s.shadow.epoch := by
    rw [State.boundaryStep_idle (s := s.fresh) hfr har hcnt hst hany, hu]; rfl
  generalize u.closeEpoch s.shadow.epoch = v at closes step
  refine does_of_effect hon (exec_epochBoundary s) step ⟨?_, ?_, fun d hd ho => ?_, ?_, ?_, ?_⟩
  · rw [settle_shadow, closes.shadow_eq, hu]; rfl
  · rw [settle_shadow, closes.shadow_eq, hu]; rfl
  · obtain ⟨hclosing, hpages, hchanged, hphase, hA, hB⟩ := closes.settled (s := s) (by rw [hu]; rfl)
      (fun d => by rw [hu]; rfl) (fun d => by rw [hu]; rfl) (fun d => by rw [hu]; exact s.draftSeal_nextEpoch d _) hd ho
    exact ⟨hclosing, hpages.trans (pages d), hchanged, hphase, hA, hB⟩
  · rw [settle_shadow, closes.shadow_eq, hu]; rfl
  · rw [settle_shadow, closes.shadow_eq, hu]; rfl
  · exact Keeps.settle (closes.keeps (by rw [hu]; exact keeps_setShadow (Keeps.fresh s _) (by simp) _) (by simp))

/-- A boundary while a close runs waits, and is counted. -/
theorem does_epochBoundary_waits (har : s.shadow.arming = false) (hcnt : s.shadow.counter = some e)
    (hst : s.seq.st = 12) (hany : s.closingAny = true) (hdue : s.shadow.boundaryDue = false) :
    Does .epochBoundary s fun t =>
      shadowIs t { s.shadow with boundaryDue := true } ∧
      t.reg 0x5801 4 = min 0xFFFFFFFF (s.reg 0x5801 4 + 1) ∧ RegsBut s t [(0x5801, 4)] ∧
      Keeps s t [.shadow, .regs] := by
  refine does_of_effect hon (exec_epochBoundary s) (State.boundaryStep_closing (s := s.fresh) hfr har hcnt hst hany hdue)
    ⟨?_, ?_, ?_, ?_⟩
  · exact shadowIs_settle _
  · rw [reg_settle_of_not_stagingCount _ (by decide) (by simp [stagingCount])]
    exact State.reg_inc_same ..
  · exact regsBut_settle (regsBut_inc (RegsBut.refl s _) (by simp) (by decide))
  · exact Keeps.settle (keeps_inc (keeps_setShadow (Keeps.fresh s _) (by simp) _) (by simp) _ _)

section
variable (hun : s.shadow.armed = false) (har : s.shadow.arming = false) (hst : s.seq.st = 12)
include hun har hst

/-- Persistence is armed again at 2 GiB. -/
theorem does_persistenceArm_again (hcnt : s.shadow.counter = some e) (h : s.armable (gib 2) = true) :
    Does .persistenceArm s fun t =>
      t.shadow.armed = true ∧ shadowIs t { s.shadow with armed := true, forceThrough := false } ∧
      Keeps s t [.shadow] := by
  have step := (State.armStep_again (s := s.fresh) hfr hun har hst hcnt).trans (if_pos ((s.armable_fresh _).trans h))
  refine does_of_effect hon (exec_persistenceArm s) step ⟨?_, ?_, ?_⟩
  · have enough : s.armable (gib 1) = true := by
      simp only [State.armable, Bool.and_eq_true, decide_eq_true_eq] at h ⊢
      exact ⟨le_trans (by decide) h.1, h.2⟩
    rw [settle_armed, State.report_shadow, (SameCauses.refl _).report _ _ _ _ |>.armable]
    exact Bool.and_eq_true_iff.2 ⟨rfl, (s.armable_rearmed _).trans enough⟩
  · have shadow := shadowIs_settle ((s.fresh.setShadow { s.shadow with armed := true, forceThrough := false }).report
      0 cArmed 0 0 [])
    rwa [State.report_shadow] at shadow
  · exact Keeps.settle (keeps_report (keeps_setShadow (Keeps.fresh s _) (by simp) _) (by decide) _ _ _ _)

/-- The first arming closes epoch 0 with the whole map. -/
theorem does_persistenceArm_first (hcnt : s.shadow.counter = none) (h : s.armable (gib 1) = true) :
    Does .persistenceArm s fun t =>
      t.shadow.arming = true ∧ t.shadow.armed = false ∧ t.shadow.counter = none ∧
      (∀ d, d < s.n → s.dieOut d = false → (t.die d).closing = some (s.draftSeal d 0) ∧
        (t.die d).mapPages = List.range (s.mapTotal d)) ∧ t.shadow.firn = s.shadow.firn ∧
      Keeps s t [.shadow] := by
  obtain ⟨u, hu⟩ : ∃ u, u = s.fresh.setShadow { s.shadow with arming := true } := ⟨_, rfl⟩
  have closes := epochCloses_closeEpoch u 0
  have pages (d : Nat) : u.closePages d = List.range (s.mapTotal d) := by
    have total : u.mapTotal d = s.mapTotal d := by rw [hu]; rfl
    rw [State.closePages, show u.shadow.counter = none by rw [hu]; exact hcnt, total]
    exact if_pos rfl
  have step : s.fresh.armStep = u.closeEpoch 0 := by
    rw [State.armStep_first (s := s.fresh) hfr hun har hst hcnt ((s.armable_fresh _).trans h), hu]; rfl
  generalize u.closeEpoch 0 = v at closes step
  have unarmed : v.shadow.armed = false := by rw [closes.shadow_eq, hu]; exact hun
  refine does_of_effect hon (exec_persistenceArm s) step ⟨?_, ?_, ?_, fun d hd ho => ?_, ?_, ?_⟩
  · rw [settle_shadow, closes.shadow_eq, hu]; rfl
  · rw [settle_armed, unarmed, Bool.false_and]
  · rw [settle_shadow, closes.shadow_eq, hu]; exact hcnt
  · obtain ⟨hclosing, hpages, -, -, -, -⟩ := closes.settled (s := s) (by rw [hu]; rfl)
      (fun d => by rw [hu]; rfl) (fun d => by rw [hu]; rfl) (fun d => by rw [hu]; exact s.draftSeal_arming d _) hd ho
    exact ⟨hclosing, hpages.trans (pages d)⟩
  · rw [settle_shadow, closes.shadow_eq, hu]; rfl
  · exact Keeps.settle (closes.keeps (by rw [hu]; exact keeps_setShadow (Keeps.fresh s _) (by simp) _) (by simp))

/-- Below 2 GiB it is not armed again. -/
theorem does_persistenceArm_short (hcnt : s.shadow.counter = some e) (h : s.armable (gib 2) = false) :
    Does .persistenceArm s fun t => Keeps s t [] :=
  does_nothing hon (exec_persistenceArm s)
    ((State.armStep_again (s := s.fresh) hfr hun har hst hcnt).trans (if_neg (by rw [State.armable_fresh, h]; decide)))

end

end

end Sys2Proof.Machine
end

section
/-! PROOFS. Epoch seals are written, and what follows once every die has sealed (O38); the wear horizon (07 R164 to R167,
R177, R182, 03 R79, 08 R192). -/
namespace Sys2Proof.Machine

open Sys2Proof.Safety

/-- A seal is written into the slot that does not hold the newest valid one (07 R167). -/
theorem DieShadow.writeSeal_eq (x : DieShadow) (sl : Seal) :
    (x.writeSeal sl = { x with sealA := some sl } ∧ x.newest = x.sealB.filter (·.whole)) ∨
    (x.writeSeal sl = { x with sealB := some sl } ∧ x.newest = x.sealA.filter (·.whole)) := by
  unfold DieShadow.writeSeal DieShadow.newest
  cases x.sealA.filter (·.whole) with
  | none => exact .inl ⟨rfl, rfl⟩
  | some a =>
    cases x.sealB.filter (·.whole) with
    | none => exact .inr ⟨rfl, rfl⟩
    | some b =>
      by_cases h : a.epoch < b.epoch
      · exact .inl ⟨if_pos h, if_pos h⟩
      · exact .inr ⟨if_neg h, if_neg h⟩

/-- A seal whose write is cut short leaves the newest one (07 R167). -/
theorem DieShadow.newest_writeSeal_cut (x : DieShadow) {sl : Seal} (hcut : sl.whole = false) :
    (x.writeSeal sl).newest = x.newest := by
  have invalid : (some sl).filter (·.whole) = none := by simp [hcut]
  rcases x.writeSeal_eq sl with ⟨written, newest⟩ | ⟨written, newest⟩
  · rw [written, newest]
    simp only [DieShadow.newest, invalid]
  · rw [written, newest]
    simp only [DieShadow.newest, invalid]
    cases x.sealA.filter (·.whole) <;> rfl

theorem DieShadow.seal_of_newest_writeSeal {x : DieShadow} {sl old : Seal} (h : x.newest = some old) :
    (x.writeSeal sl).sealA = some old ∨ (x.writeSeal sl).sealB = some old := by
  rcases x.writeSeal_eq sl with ⟨written, newest⟩ | ⟨written, newest⟩
  · rw [newest, Option.filter_eq_some_iff] at h
    rw [written]
    exact .inr h.1
  · rw [newest, Option.filter_eq_some_iff] at h
    rw [written]
    exact .inl h.1

theorem DieShadow.seal_writeSeal (x : DieShadow) (sl : Seal) :
    (x.writeSeal sl).sealA = some sl ∨ (x.writeSeal sl).sealB = some sl := by
  rcases x.writeSeal_eq sl with ⟨written, -⟩ | ⟨written, -⟩
  · rw [written]; exact .inl rfl
  · rw [written]; exact .inr rfl

theorem DieShadow.pages_writeSeal (x : DieShadow) (sl : Seal) : (x.writeSeal sl).pages = x.pages := by
  rcases x.writeSeal_eq sl with ⟨written, -⟩ | ⟨written, -⟩ <;> rw [written]

/-! What follows from the last seal of an epoch. -/

/-- From s to t nothing of the dies, of the firn and flake maps, of the epoch last sealed and of the boundary that waits
has moved; of the rest only shadowing, the tenancies and objects. -/
structure AfterSeals (s t : State) : Prop where
  dies : t.shadow.dies = s.shadow.dies
  firn : t.shadow.firn = s.shadow.firn
  fmap : t.shadow.fmap = s.shadow.fmap
  sealedAll : t.shadow.sealedAll = s.shadow.sealedAll
  boundaryDue : t.shadow.boundaryDue = s.shadow.boundaryDue
  out : t.out = s.out
  keeps : Keeps s t [.shadow, .ten, .regs, .out]

theorem AfterSeals.refl (s : State) : AfterSeals s s :=
  ⟨rfl, rfl, rfl, rfl, rfl, rfl, Keeps.mono (Keeps.refl s) (by simp)⟩

theorem AfterSeals.trans {s t u : State} (h : AfterSeals s t) (h' : AfterSeals t u) : AfterSeals s u :=
  ⟨h'.dies.trans h.dies, h'.firn.trans h.firn, h'.fmap.trans h.fmap, h'.sealedAll.trans h.sealedAll,
    h'.boundaryDue.trans h.boundaryDue, h'.out.trans h.out, Keeps.trans h.keeps h'.keeps⟩

theorem AfterSeals.foldl {α : Type} {f : State → α → State} (hf : ∀ t a, AfterSeals t (f t a)) (l : List α) (s : State) :
    AfterSeals s (l.foldl f s) := by
  induction l generalizing s with
  | nil => exact .refl s
  | cons a l ih => exact (hf s a).trans (ih _)

theorem afterSeals_setTenants (s : State) (x : Tenants) : AfterSeals s { s with ten := x } :=
  ⟨rfl, rfl, rfl, rfl, rfl, rfl, keeps_setTenancies (AfterSeals.refl s).keeps (by simp) x⟩

theorem afterSeals_setReg (s : State) (i k v : Nat) : AfterSeals s (s.setReg i k v) :=
  ⟨rfl, rfl, rfl, rfl, rfl, rfl, keeps_setReg (AfterSeals.refl s).keeps (by simp) i k v⟩

theorem afterSeals_setShadow {s : State} {x : Shadow} (hd : x.dies = s.shadow.dies) (hf : x.firn = s.shadow.firn)
    (hm : x.fmap = s.shadow.fmap) (hs : x.sealedAll = s.shadow.sealedAll)
    (hb : x.boundaryDue = s.shadow.boundaryDue) : AfterSeals s (s.setShadow x) :=
  ⟨hd, hf, hm, hs, hb, rfl, keeps_setShadow (AfterSeals.refl s).keeps (by simp) x⟩

theorem afterSeals_report (s : State) (c v w : Nat) (a : List Nat) : AfterSeals s (s.report 0 c v w a) :=
  ⟨by rw [State.report_shadow], by rw [State.report_shadow], by rw [State.report_shadow], by rw [State.report_shadow],
    by rw [State.report_shadow], State.report_out .., keeps_report (AfterSeals.refl s).keeps (by decide) _ _ _ _⟩

theorem afterSeals_sealSweeps (s : State) : AfterSeals s s.sealSweeps := by
  refine AfterSeals.trans (t := s.setShadow { s.shadow with sealing := [] })
    (afterSeals_setShadow rfl rfl rfl rfl rfl) (.foldl (fun t k => ?_) _ _)
  dsimp only
  split
  · exact ((afterSeals_setTenants t _).trans (afterSeals_setTenants _ _)).trans (afterSeals_setTenants _ _)
  · exact .refl t

theorem afterSeals_sealCheckpoints (s : State) (e : Nat) : AfterSeals s (s.sealCheckpoints e) :=
  AfterSeals.trans (t := s.setShadow { s.shadow with ckptSealing := [] })
    (afterSeals_setShadow rfl rfl rfl rfl rfl) (.foldl (fun t _ => afterSeals_setReg t _ _ _) _ _)

theorem afterSeals_firstArmed (s : State) : AfterSeals s s.firstArmed := by
  refine AfterSeals.trans (AfterSeals.trans (afterSeals_setReg s 0x5803 3 s.aon.deviceTime) ?_)
    (afterSeals_report _ _ _ _ _)
  exact afterSeals_setShadow rfl rfl rfl rfl rfl

/-- Persistence is armed where it was being armed for the first time (07 R164). -/
def State.armIfFirst (s : State) : State := if s.shadow.arming then s.firstArmed else s

theorem afterSeals_armIfFirst (s : State) : AfterSeals s s.armIfFirst := by
  unfold State.armIfFirst
  split
  · exact afterSeals_firstArmed s
  · exact .refl s

theorem State.allSealed_eq (s : State) (sl : Seal) :
    let t := ((s.setShadow { s.shadow with sealedAll := some sl.epoch }).sealSweeps.sealCheckpoints sl.epoch).armIfFirst
    s.allSealed sl = if t.shadow.boundaryDue then t.boundary else t := rfl

/-- Once every die has sealed an epoch and no boundary waits, that epoch is the one last sealed. -/
theorem afterSeals_allSealed {s : State} (hb : s.shadow.boundaryDue = false) (sl : Seal) :
    AfterSeals (s.setShadow { s.shadow with sealedAll := some sl.epoch }) (s.allSealed sl) := by
  rw [State.allSealed_eq]
  obtain ⟨u, hu⟩ : ∃ u, u = s.setShadow { s.shadow with sealedAll := some sl.epoch } := ⟨_, rfl⟩
  have armed : AfterSeals u (u.sealSweeps.sealCheckpoints sl.epoch).armIfFirst :=
    ((afterSeals_sealSweeps u).trans (afterSeals_sealCheckpoints _ _)).trans (afterSeals_armIfFirst _)
  have none_due := armed.boundaryDue.trans (show u.shadow.boundaryDue = false by rw [hu]; exact hb)
  rw [← hu]
  rw [if_neg (by rw [none_due]; decide)]
  exact armed

/-! A die's seal. -/

/-- The seal that a die writes: what the boundary drafted, with its root index page and the blocks programmed since
(07 Table 07.6). -/
def DieShadow.finishSeal (x : DieShadow) (c : Seal) : Seal := { c with root := x.rootAddr, openBlocks := x.openSince }

/-- The record of a die that has sealed its epoch. -/
def DieShadow.withSeal (x : DieShadow) (sl : Seal) : DieShadow :=
  { x.writeSeal sl with closing := none, phase := 0, mapPages := [], openSince := [] }

section
variable {s : State} {d : Nat} {c : Seal} (hc : (s.die d).closing = some c) (hp : (s.die d).phase = 4)
  (ho : s.dieOut d = false) (hf : s.freeze.active = false)
include hc hp ho hf

theorem State.epochSeal_cut : s.epochSeal d false =
    s.setDie d ((s.die d).writeSeal { (s.die d).finishSeal c with whole := false }) := by
  have seals : (s.freeze.active || s.dieOut d || decide ((s.die d).phase ≠ 4)) = false := by simp [hf, ho, hp]
  simp only [State.epochSeal, hc, seals, Bool.false_eq_true, if_false, Bool.not_false, if_true]
  rfl

theorem State.epochSeal_whole :
    let t := s.setDie d ((s.die d).withSeal ((s.die d).finishSeal c))
    s.epochSeal d true = if t.sealedBy c.epoch then t.allSealed ((s.die d).finishSeal c) else t := by
  have seals : (s.freeze.active || s.dieOut d || decide ((s.die d).phase ≠ 4)) = false := by simp [hf, ho, hp]
  simp only [State.epochSeal, hc, seals, Bool.false_eq_true, if_false, Bool.not_true]
  rfl

end

/-- What the seal of a die leaves behind, once it stands: the dies, the firn and the flake map as they are; and with the
last die's the epoch is sealed. -/
structure Sealed (t u : State) (e : Nat) : Prop where
  dies : u.shadow.dies = t.shadow.dies
  firn : u.shadow.firn = t.shadow.firn
  fmap : u.shadow.fmap = t.shadow.fmap
  out : u.out = t.out
  keeps : Keeps t u [.shadow, .ten, .regs, .out]
  sealedAll : t.sealedBy e = true → u.shadow.sealedAll = some e

theorem sealed_of_allSealed {t : State} {sl : Seal} (hb : t.shadow.boundaryDue = false) :
    Sealed t (if t.sealedBy sl.epoch then t.allSealed sl else t) sl.epoch := by
  split
  · obtain ⟨dies, firn, fmap, sealedAll, -, out, keeps⟩ := afterSeals_allSealed hb sl
    exact ⟨dies, firn, fmap, out, Keeps.trans (keeps_setShadow (AfterSeals.refl t).keeps (by simp) _) keeps,
      fun _ => sealedAll⟩
  · next h => exact ⟨rfl, rfl, rfl, rfl, (AfterSeals.refl t).keeps, fun h' => absurd h' h⟩

theorem State.sealedBy_eq_true {t : State} {e : Nat} (h : ∀ d, d < t.n → t.dieOut d = false →
    sealIs e (t.die d).sealA = true ∨ sealIs e (t.die d).sealB = true) : t.sealedBy e = true := by
  simp only [State.sealedBy, List.all_eq_true, Bool.or_eq_true]
  intro d hd
  obtain ⟨hn, ho⟩ := State.mem_workingDies.1 hd
  exact h d hn ho

/-- A die that has written a valid seal of an epoch holds one. -/
theorem DieShadow.sealIs_withSeal (x : DieShadow) {sl : Seal} (hw : sl.whole = true) :
    sealIs sl.epoch (x.withSeal sl).sealA = true ∨ sealIs sl.epoch (x.withSeal sl).sealB = true := by
  have valid : sealIs sl.epoch (some sl) = true := by simp [sealIs, hw]
  rcases x.seal_writeSeal sl with h | h
  · exact .inl ((congrArg (sealIs sl.epoch) h).trans valid)
  · exact .inr ((congrArg (sealIs sl.epoch) h).trans valid)

theorem exec_epochSealWrite (die : Nat) (whole : Bool) (s : State) :
    exec (.epochSealWrite die whole) s = act (fun s => s.epochSeal die whole) s := rfl

section
variable {s : State} {die : Nat} {c : Seal} (hon : s.aon.on = true) (hf : s.freeze.active = false)
  (hc : (s.die die).closing = some c) (hp : (s.die die).phase = 4) (ho : s.dieOut die = false)
include hon hf hc hp ho

/-- A seal write that is cut short leaves the close of the epoch open and the newest seal valid. -/
theorem does_epochSealWrite_cut : Does (.epochSealWrite die false) s fun t =>
    t.die die = (s.die die).writeSeal { (s.die die).finishSeal c with whole := false } ∧
    (∀ old, (s.die die).newest = some old → (t.die die).newest = some old) ∧
    (∀ d, d ≠ die → t.die d = s.die d) ∧ shadowIs t { s.shadow with dies := t.shadow.dies } ∧ Keeps s t [.shadow] := by
  have here : (settle (s.fresh.setDie die
      ((s.die die).writeSeal { (s.die die).finishSeal c with whole := false }))).die die =
      (s.die die).writeSeal { (s.die die).finishSeal c with whole := false } := by
    rw [State.die_settle, State.die_setDie, if_pos rfl]
  refine does_of_effect hon (exec_epochSealWrite die false s) (State.epochSeal_cut (s := s.fresh) hc hp ho hf)
    ⟨here, fun old h => ?_, fun d hd => ?_, ?_, ?_⟩
  · exact (congrArg DieShadow.newest here).trans ((DieShadow.newest_writeSeal_cut _ rfl).trans h)
  · rw [State.die_settle, State.die_setDie, if_neg hd]; rfl
  · rw [settle_shadow]; exact shadowIs_settle _
  · exact Keeps.settle (keeps_setShadow (Keeps.fresh s _) (by simp) _)

/-- A seal write that stands ends the die's close, beside its newest seal; with the last die the epoch is sealed. -/
theorem does_epochSealWrite_whole (hb : s.shadow.boundaryDue = false) : Does (.epochSealWrite die true) s fun t =>
    (t.die die).closing = none ∧ (t.die die).phase = 0 ∧
    ((t.die die).sealA = some ((s.die die).finishSeal c) ∨ (t.die die).sealB = some ((s.die die).finishSeal c)) ∧
    (∀ old, (s.die die).newest = some old → (t.die die).sealA = some old ∨ (t.die die).sealB = some old) ∧
    (t.die die).pages = (s.die die).pages ∧ (∀ d, d ≠ die → t.die d = s.die d) ∧
    t.shadow.firn = s.shadow.firn ∧ t.shadow.fmap = s.shadow.fmap ∧
    (c.whole = true → (∀ d, d < s.n → d ≠ die → s.dieOut d = false →
      sealIs c.epoch (s.die d).sealA = true ∨ sealIs c.epoch (s.die d).sealB = true) →
      t.shadow.sealedAll = some c.epoch) ∧ Keeps s t [.shadow, .ten, .regs] := by
  obtain ⟨t, ht⟩ : ∃ t, t = s.fresh.setDie die ((s.die die).withSeal ((s.die die).finishSeal c)) := ⟨_, rfl⟩
  have step : s.fresh.epochSeal die true =
      if t.sealedBy c.epoch then t.allSealed ((s.die die).finishSeal c) else t := by
    rw [ht]; exact State.epochSeal_whole (s := s.fresh) hc hp ho hf
  have result : Sealed t _ c.epoch := sealed_of_allSealed (sl := (s.die die).finishSeal c) (by rw [ht]; exact hb)
  rw [show ((s.die die).finishSeal c).epoch = c.epoch from rfl] at result
  have die_eq (d : Nat) : t.die d = if d = die then (s.die die).withSeal ((s.die die).finishSeal c) else s.die d := by
    rw [ht]; exact State.die_setDie ..
  generalize (if t.sealedBy c.epoch then t.allSealed ((s.die die).finishSeal c) else t) = u at step result
  obtain ⟨dies, firn, fmap, out, keeps, sealedAll⟩ := result
  have record (d : Nat) : (settle u).die d = t.die d := by rw [State.die_settle, State.die, dies]; rfl
  have here : (settle u).die die = (s.die die).withSeal ((s.die die).finishSeal c) := by
    rw [record, die_eq, if_pos rfl]
  refine does_of_effect hon (exec_epochSealWrite die true s) step
    ⟨by rw [here]; rfl, by rw [here]; rfl, ?_, fun old h => ?_, ?_, fun d hd => ?_, ?_, ?_, fun hw hall => ?_, ?_⟩
  · rw [here]; exact DieShadow.seal_writeSeal ..
  · rw [here]; exact DieShadow.seal_of_newest_writeSeal h
  · rw [here]; exact DieShadow.pages_writeSeal ..
  · rw [record, die_eq, if_neg hd]
  · rw [settle_shadow]; exact firn.trans (by rw [ht]; rfl)
  · rw [settle_shadow]; exact fmap.trans (by rw [ht]; rfl)
  · rw [settle_shadow]
    refine sealedAll (State.sealedBy_eq_true fun d hd hdo => ?_)
    rw [die_eq]
    split
    · exact DieShadow.sealIs_withSeal _ hw
    · next hne => exact hall d (by rw [ht] at hd; exact hd) hne (by rw [ht] at hdo; exact hdo)
  · refine Keeps.settle (Keeps.of_out_nil (m := [.shadow, .ten, .regs, .out]) (Keeps.trans ?_ keeps) (out.trans ?_)
      (by simp))
    · rw [ht]; exact keeps_setShadow (Keeps.fresh s _) (by simp) _
    · rw [ht]; rfl

end

/-! The wear horizon. -/

/-- The hourly record of the wear horizon: its object, and a new hour of bytes programmed (07 R182). -/
def State.wearHour (s : State) : State :=
  (s.setReg 0x5803 6 s.horizon).setShadow { s.shadow with dayBuckets := (0 :: s.shadow.dayBuckets).take 24 }

/-- The warning about wear is given, at most once a day (07 R182). -/
def State.wearWarn (s : State) (h : Nat) : State :=
  (s.setShadow { s.shadow with wearWarned := some s.aon.now }).report 0 cWearHorizon 1 0 [h]

/-- A warning about wear is due: none was given, or none within a day (07 R182). -/
def State.wearDue (s : State) : Bool :=
  match s.shadow.wearWarned with
  | some t => decide (86400000000000 ≤ s.aon.now - t)
  | none => true

theorem regsBut_setShadow {s t : State} {l : List (Nat × Nat)} (h : RegsBut s t l) (x : Shadow) :
    RegsBut s (t.setShadow x) l := h

theorem exec_wearHorizonUpdate (s : State) : exec .wearHorizonUpdate s = act (fun s =>
    if s.wearsOut = true ∧ s.wearHour.wearDue = true then s.wearHour.wearWarn s.horizon else s.wearHour) s := rfl

/-- The hourly computation of the wear horizon, with its warning or without. -/
theorem does_wearHorizonUpdate {s : State} (hon : s.aon.on = true) : Does .wearHorizonUpdate s fun t =>
    t.reg 0x5803 6 = s.horizon ∧
    shadowIs t { s.shadow with
      dayBuckets := (0 :: s.shadow.dayBuckets).take 24, wearWarned := t.shadow.wearWarned } ∧
    RegsBut s t [(0x5803, 6)] ∧ Keeps s t [.shadow, .regs] := by
  have value : s.fresh.wearHour.reg 0x5803 6 = s.horizon := State.reg_setReg_same ..
  have others : RegsBut s s.fresh.wearHour [(0x5803, 6)] :=
    regsBut_setReg (RegsBut.refl s _) (by simp) (by decide) _
  have keeps : Keeps s s.fresh.wearHour [.shadow, .regs] :=
    keeps_setShadow (keeps_setReg (Keeps.fresh s _) (by simp) _ _ _) (by simp) _
  by_cases warns : s.fresh.wearsOut = true ∧ s.fresh.wearHour.wearDue = true
  · refine does_of_effect hon (exec_wearHorizonUpdate s) (if_pos warns) ⟨?_, ?_, ?_, ?_⟩
    · rw [reg_settle_of_not_stagingCount _ (by decide) (by simp [stagingCount]), State.wearWarn,
        State.reg_report_of_not_stagingCount _ (by decide) _ _ _ _ (by decide) (by simp [stagingCount])]
      exact value
    · have shadow := shadowIs_settle (s.fresh.wearHour.wearWarn s.fresh.horizon)
      rw [settle_shadow, State.wearWarn, State.report_shadow]
      rw [State.wearWarn, State.report_shadow] at shadow
      exact shadow
    · exact regsBut_settle (regsBut_report (regsBut_setShadow others _) (by decide) _ _ _ _)
    · exact Keeps.settle (keeps_report (keeps_setShadow keeps (by simp) _) (by decide) _ _ _ _)
  · refine does_of_effect hon (exec_wearHorizonUpdate s) (if_neg warns) ⟨?_, ?_, ?_, ?_⟩
    · rw [reg_settle_of_not_stagingCount _ (by decide) (by simp [stagingCount])]
      exact value
    · rw [settle_shadow]; exact shadowIs_settle _
    · exact regsBut_settle others
    · exact Keeps.settle keeps

/-- Settles O38: the boundary and the first arming close an epoch on every die, and a die's seal ends its close. -/
theorem epochsCloseAndPersistenceArms : Obligations.EpochsCloseAndPersistenceArms := by
  intro s die e c hon _ hfr
  refine ⟨fun har hcnt hst => ⟨?_, ?_⟩, fun hc hp ho hb => ⟨?_, ?_⟩, fun hun har hst => ⟨?_, ?_, ?_⟩,
    does_wearHorizonUpdate hon⟩
  · exact does_epochBoundary_closes hon hfr har hcnt hst
  · exact does_epochBoundary_waits hon hfr har hcnt hst
  · exact does_epochSealWrite_cut hon hfr hc hp ho
  · exact does_epochSealWrite_whole hon hfr hc hp ho hb
  · exact does_persistenceArm_again hon hfr hun har hst
  · exact does_persistenceArm_first hon hfr hun har hst
  · exact does_persistenceArm_short hon hfr hun har hst

end Sys2Proof.Machine
end

section
/-! PROOFS. A LUN fails under a migration that waits for a page of it (O40). The queued reads of the LUN fail with it, and
a migration then writes the line at its watermark without the page (`State.failReads`, `State.migratePage`; 10 Table
10.4). Where that line is a firn-map line of a sump, it is rebuilt, and every flake that it records takes the state that
its tenancy gives it (`State.sumpRebuild`; 04 R103), a flake too that the failure has just made DIRTY. A migration asks
for pages of assignable lines only (`State.engineRetry`), but O40 speaks of every state. -/
namespace Sys2Proof.Machine

open Sys2Proof.Safety

theorem exec_lunFail (die : Nat) (unit : FlashUnit) (s : State) :
    exec (.lunFail die unit) s = execLunFail die unit s := rfl

theorem firn_lunFail {s t : State} {die lun : Nat} (hon : s.aon.on = true)
    (h : exec (.lunFail die (.lun lun)) s = .next t) (m : Nat) : t.firn m = (s.fresh.failLun die lun).firn m := by
  rw [exec_lunFail, execLunFail, act_on _ hon, Host.Outcome.next.injEq] at h
  rw [← h, State.firn_settle]

/-- Offset, on a die of one rank of 2 GiB, of the firn-map line of its first drift: 768 KiB into the die's sump, which is
its last drift (03 R59, R430). It is the line's DPA too where no other die has DRAM. -/
def firstFirnLine : Nat := 2 ^ 31 - driftBytes + 768 * 1024

/-- A migration's read of that line. -/
def sumpLineRead : Issued :=
  { req := { src := .migrate 0 firstFirnLine, id := 0, port := 0, link := 0, tag := 0, op := .read, dpa := firstFirnLine
             data := 0, be := 0, cls := 3, ten := 0, key := { transit := false, slot := 0, gen := 0 }, born := 0
             enter := 0, arr := 0, met := false, promoted := false, silent := true, answered := false
             confirmed := false, locked := false }
    rank := 0, off := firstFirnLine, retry := false }

/-- The migration of rank 0, with its watermark at that line. -/
def sumpLineCopy : Redirect :=
  { carrier := 1, source := 0, watermark := firstFirnLine, complete := false, rebuild := false, reason := 1
    queued := false, order := 0, early := [] }

/-- The page of a CLEAN flake, on LUN 0. -/
def lostPage : Nat := pageAddr dataBlk 0

/-- Flake 0, in no tenancy, is CLEAN on that page, and the migration waits for the page with the firn-map line of the
flake. The LUNs have no blocks. -/
def pageForSumpLine : State :=
  ({ State.reset with
    build := { State.reset.build with
      nand := State.reset.build.nand.map fun e => (e.1, { e.2 with blocksPerPlane := 0 }) }
    regs := [(okey (ixFlash 0 0) 1, 1)]
    dram := { State.reset.dram with
      ranks := [(0, { noRank with train := 1, st := 6, trained := true, density := 1, stack := 1 })]
      chans := [(0, { noChan with issued := [sumpLineRead] })], interleave := 0 }
    shadow := { State.reset.shadow with firn := [(0, fClean)], fmap := [(0, lostPage)] }
    sparing := { State.reset.sparing with redirect := [(0, sumpLineCopy)] } } : State).setDie 0 { noDieShadow with
      reads := [{ page := lostPage, flake := flakeOf firstFirnLine, purpose := 3, host := false, level := 0, res := none }] }

/-- The rebuilt line records the flake as TRIMMED. -/
theorem firn_failLun_pageForSumpLine : (pageForSumpLine.failLun 0 0).firn 0 = fTrimmed := by decide +kernel

/-- Refutes O40: the CLEAN flake of a failed LUN is not DIRTY but TRIMMED where its firn-map line is rebuilt. -/
theorem not_glacierIsKept : ¬ Obligations.GlacierIsKept := by
  intro h
  obtain ⟨-, -, -, -, -, fails, -⟩ := h pageForSumpLine 0 0 0 0 0 [] rfl (by decide) (by decide +kernel)
  obtain ⟨t, ht, -, flakes, -⟩ := fails rfl (by decide +kernel)
  obtain ⟨redirtied, -⟩ := flakes 0 lostPage (by decide +kernel) rfl (by decide +kernel)
  have dirty : t.firn 0 = fDirty := redirtied rfl
  have trimmed : t.firn 0 = fTrimmed := (firn_lunFail rfl ht 0).trans firn_failLun_pageForSumpLine
  exact absurd (dirty.symm.trans trimmed) (by decide)

end Sys2Proof.Machine
end

section
/-! PROOFS. A standing erase intent is taken in state 10 (08 R202): the block is erased again and checked, and whether it
is free then or retired, no page of it reads any more. -/
namespace Sys2Proof.Machine

open Sys2Proof.Safety

theorem look?_filter_key {α : Type} (p : Nat → Bool) (m : Sparse α) (a : Nat) :
    look? (m.filter fun e => p e.1) a = if p a then look? m a else none := by
  induction m with
  | nil => simp
  | cons e m ih =>
    by_cases he : p e.1 = true
    · rw [List.filter_cons_of_pos (p := fun e : Nat × α => p e.1) he]
      by_cases ha : a = e.1
      · simp [look?, ha, he]
      · simp [look?, ha, ih]
    · rw [List.filter_cons_of_neg (p := fun e : Nat × α => p e.1) he, ih]
      by_cases ha : a = e.1
      · simp [ha, he]
      · simp [look?, ha]

/-- A table filtered by its keys reads as before where a key stays, and gives its default elsewhere. -/
theorem look_filter_key {α : Type} (d : α) (p : Nat → Bool) (m : Sparse α) (a : Nat) :
    look d (m.filter fun e => p e.1) a = if p a then look d m a else d := by
  rw [look, look?_filter_key]
  split <;> rfl

theorem keeps_setSeq {s t : State} {l : List Part} (h : Keeps s t l) (hl : Part.seq ∈ l) (x : Seq) :
    Keeps s { t with seq := x } l := by
  intro p hp
  have hk := h p hp
  cases p with
  | seq => exact absurd hl hp
  | _ => exact hk

theorem keeps_setFw {s t : State} {l : List Part} (h : Keeps s t l) (hl : Part.fw ∈ l) (x : Firmware) :
    Keeps s { t with fw := x } l := by
  intro p hp
  have hk := h p hp
  cases p with
  | fw => exact absurd hl hp
  | _ => exact hk

theorem exec_intentReerase (die lun : Nat) (erased : Bool) (bits : Nat) (s : State) :
    exec (.intentReerase die lun erased bits) s = act (fun s => s.reerase die lun erased bits) s := rfl

/-- The record of a die without the intent of a LUN. -/
def DieShadow.clearIntent (x : DieShadow) (l : Nat) : DieShadow := { x with intents := put 0 x.intents l 0 }

/-- The intent of a LUN is taken: it stands no longer, and a block of the boot region no longer waits for its erase. -/
def State.takeIntent (s : State) (d l : Nat) : State :=
  let t := s.setDie d ((s.die d).clearIntent l)
  if d = 0 then t.bootErased (look 0 (s.die d).intents l) else t

/-- A die without a standing intent lets state 10 go on. -/
def State.endIntents (s : State) (d : Nat) : State := if s.hasIntents d then s else s.releaseDie d

/-- What is done with the block of a taken intent (08 R202). -/
def State.settleIntent (s : State) (d l b : Nat) (erased : Bool) (bits : Nat) : State :=
  if erased then
    let t := s.inc (ixFlash d (l / 32)) 6
    if bits ≤ 8 then (t.setDie d ((t.die d).wipeBlock b)).inc (ixGlacier d) 0x0C
    else (t.setDie d ((t.die d).dropPages b)).addMoraine d b 4
  else ((s.setDie d ((s.die d).dropPages b)).inc (ixFlash d (l / 32)) 5).addMoraine d b 3

theorem State.reerase_eq {s : State} {d l : Nat} (hb : look 0 (s.die d).intents l ≠ 0) (hst : s.seq.st = 10)
    (hl : (s.allLuns d).elem l = true) (erased : Bool) (bits : Nat) : s.reerase d l erased bits =
      ((s.takeIntent d l).settleIntent d l (look 0 (s.die d).intents l) erased bits).endIntents d :=
  if_neg (by simp [hb, hst, List.mem_of_elem_eq_true hl])

section
variable (s : State) (d l : Nat)

@[simp] theorem State.die_inc (i k : Nat) : (s.inc i k).die d = s.die d := rfl

theorem State.die_takeIntent : (s.takeIntent d l).die d = (s.die d).clearIntent l := by
  unfold State.takeIntent
  dsimp only
  split <;> exact (State.die_setDie ..).trans (if_pos rfl)

theorem State.reg_takeIntent (i k : Nat) : (s.takeIntent d l).reg i k = s.reg i k := by
  unfold State.takeIntent
  dsimp only
  split <;> rfl

@[simp] theorem State.die_endIntents (e : Nat) : (s.endIntents d).die e = s.die e := by
  unfold State.endIntents
  split <;> rfl

@[simp] theorem State.reg_endIntents (i k : Nat) : (s.endIntents d).reg i k = s.reg i k := by
  unfold State.endIntents
  split <;> rfl

end

section
variable {s t : State} {l : List Part} (h : Keeps s t l)
include h

theorem keeps_setDie (hl : Part.shadow ∈ l) (d : Nat) (x : DieShadow) : Keeps s (t.setDie d x) l :=
  keeps_setShadow h hl _

theorem keeps_addMoraine (hl : Part.shadow ∈ l) (d b reason : Nat) : Keeps s (t.addMoraine d b reason) l := by
  unfold State.addMoraine
  dsimp only
  split
  · exact h
  · exact keeps_setDie h hl _ _

theorem keeps_takeIntent (hl : Part.shadow ∈ l) (hf : Part.fw ∈ l) (d k : Nat) : Keeps s (t.takeIntent d k) l := by
  unfold State.takeIntent
  dsimp only
  split
  · exact keeps_setFw (keeps_setDie h hl _ _) hf _
  · exact keeps_setDie h hl _ _

theorem keeps_settleIntent (hl : Part.shadow ∈ l) (hr : Part.regs ∈ l) (d k b : Nat) (erased : Bool) (bits : Nat) :
    Keeps s (t.settleIntent d k b erased bits) l := by
  unfold State.settleIntent
  dsimp only
  split_ifs
  · exact keeps_inc (keeps_setDie (keeps_inc h hr _ _) hl _ _) hr _ _
  · exact keeps_addMoraine (keeps_setDie (keeps_inc h hr _ _) hl _ _) hl _ _ _
  · exact keeps_addMoraine (keeps_inc (keeps_setDie h hl _ _) hr _ _) hl _ _ _

theorem keeps_endIntents (hl : Part.seq ∈ l) (d : Nat) : Keeps s (t.endIntents d) l := by
  unfold State.endIntents
  split
  · exact h
  · exact keeps_setSeq h hl _

end

/-- A block enters the moraine list of its die, where the list has room, and closes; nothing else of the die's record
moves (08 R196). -/
theorem State.die_addMoraine {s : State} {d b : Nat} (hroom : (s.die d).moraine.length < moraineTop) (reason : Nat) :
    ∃ moraine blocks, (s.addMoraine d b reason).die d = { s.die d with moraine := moraine, blocks := blocks } ∧
      ∃ x ∈ moraine, x.blk = b := by
  unfold State.addMoraine
  dsimp only
  split
  · next h =>
    obtain ⟨x, hx, hb⟩ := List.any_eq_true.1 h
    exact ⟨_, _, rfl, x, hx, of_decide_eq_true hb⟩
  · rw [State.die_setDie, if_pos rfl]
    exact ⟨_, _, rfl, _, List.mem_append_right _ (List.mem_singleton_self _), rfl⟩

theorem State.reg_addMoraine (s : State) (d b reason i k : Nat) : (s.addMoraine d b reason).reg i k = s.reg i k := by
  unfold State.addMoraine
  dsimp only
  split <;> rfl

/-- The intent of a LUN of a die is taken and the pages of its block are gone. -/
structure IntentGone (d l b : Nat) (s t : State) : Prop where
  intent : look 0 (t.die d).intents l = 0
  gone : ∀ x, blkOfPage x = b → t.page d x = noPage
  others : ∀ x, blkOfPage x ≠ b → t.page d x = s.page d x

theorem intentGone_of_die {s t : State} {d l b : Nat}
    (hi : (t.die d).intents = put 0 (s.die d).intents l 0)
    (hp : (t.die d).pages = (s.die d).pages.filter fun e => !decide (blkOfPage e.1 = b)) : IntentGone d l b s t := by
  have page (x : Nat) : t.page d x = if !decide (blkOfPage x = b) then s.page d x else noPage := by
    rw [State.page, hp]
    exact look_filter_key noPage (fun a => !decide (blkOfPage a = b)) _ x
  refine ⟨?_, fun x hx => ?_, fun x hx => ?_⟩
  · rw [hi, look_put_same]
  · rw [page, if_neg (by simp [hx])]
  · rw [page, if_pos (by simp [hx])]

section
variable {s : State} {die lun b : Nat} (hon : s.aon.on = true) (hb : look 0 (s.die die).intents lun = b) (h0 : b ≠ 0)
  (hst : s.seq.st = 10) (hl : (s.allLuns die).elem lun = true)
include hb h0 hst hl

theorem State.reerase_fresh (erased : Bool) (bits : Nat) : s.fresh.reerase die lun erased bits =
    ((s.fresh.takeIntent die lun).settleIntent die lun b erased bits).endIntents die := by
  rw [State.reerase_eq (s := s.fresh) (fun h => h0 (hb.symm.trans h)) hst hl]
  exact congrArg (fun b => ((s.fresh.takeIntent die lun).settleIntent die lun b erased bits).endIntents die) hb

omit hb h0 hst hl in
theorem keeps_reerase (erased : Bool) (bits : Nat) :
    Keeps s (settle (((s.fresh.takeIntent die lun).settleIntent die lun b erased bits).endIntents die))
      [.shadow, .seq, .fw, .regs] :=
  Keeps.settle (keeps_endIntents (keeps_settleIntent (keeps_takeIntent (Keeps.fresh s _) (by simp) (by simp) _ _)
    (by simp) (by simp) _ _ _ _ _) (by simp) _)

include hon

/-- A block that is erased again and shows no more than 8 programmed bits is free. -/
theorem does_intentReerase_free {bits : Nat} (hbits : bits ≤ 8) : Does (.intentReerase die lun true bits) s fun t =>
    look 0 (t.die die).intents lun = 0 ∧ look 0 (t.die die).blocks b = 0 ∧
    (∀ x, blkOfPage x = b → t.page die x = noPage) ∧ (∀ x, blkOfPage x ≠ b → t.page die x = s.page die x) ∧
    t.reg (ixGlacier die) 0x0C = min 0xFFFFFFFF (s.reg (ixGlacier die) 0x0C + 1) ∧
    t.reg (ixFlash die (lun / 32)) 6 = min 0xFFFFFFFF (s.reg (ixFlash die (lun / 32)) 6 + 1) ∧
    RegsBut s t [(ixGlacier die, 0x0C), (ixFlash die (lun / 32), 6)] ∧ Keeps s t [.shadow, .seq, .fw, .regs] := by
  have keeps := keeps_reerase (s := s) (die := die) (lun := lun) (b := b) true bits
  obtain ⟨u, hu⟩ : ∃ u, u = s.fresh.takeIntent die lun := ⟨_, rfl⟩
  have settled : u.settleIntent die lun b true bits =
      ((u.inc (ixFlash die (lun / 32)) 6).setDie die ((u.die die).wipeBlock b)).inc (ixGlacier die) 0x0C := if_pos hbits
  rw [← hu, settled] at keeps
  have step := (State.reerase_fresh hb h0 hst hl true bits).trans
    (congrArg (fun t : State => t.endIntents die) (by rw [← hu, settled]))
  have reg (i k : Nat) : u.reg i k = s.reg i k := by rw [hu]; exact State.reg_takeIntent s.fresh die lun i k
  generalize hv : ((u.inc (ixFlash die (lun / 32)) 6).setDie die ((u.die die).wipeBlock b)).inc (ixGlacier die) 0x0C = v
    at keeps step
  have record : (settle (v.endIntents die)).die die = ((s.die die).clearIntent lun).wipeBlock b := by
    have taken : u.die die = (s.die die).clearIntent lun := by rw [hu]; exact State.die_takeIntent s.fresh die lun
    rw [State.die_settle, State.die_endIntents, ← hv, ← taken, State.die_inc, State.die_setDie, if_pos rfl]
  have regs (i k : Nat) (hk : k < 256) (hn : ¬ stagingCount i k) : (settle (v.endIntents die)).reg i k = v.reg i k :=
    (reg_settle_of_not_stagingCount _ hk hn).trans (State.reg_endIntents ..)
  obtain ⟨intent, gone, others⟩ := intentGone_of_die (s := s) (t := settle (v.endIntents die)) (d := die) (l := lun)
    (b := b) (by rw [record]; rfl) (by rw [record]; rfl)
  refine does_of_effect hon (exec_intentReerase die lun true bits s) step
    ⟨intent, ?_, gone, others, ?_, ?_, ?_, keeps⟩
  · rw [record]; exact look_put_same 0 _ b 0
  · rw [regs _ _ (by decide) (by simp [stagingCount]), ← hv, State.reg_inc_same, State.reg_setDie,
      State.reg_inc_ne _ (okey_ne (by decide) (by decide) (.inr (by decide))), reg]
    rfl
  · rw [regs _ _ (by decide) (by simp [stagingCount]), ← hv,
      State.reg_inc_ne _ (okey_ne (by decide) (by decide) (.inr (by decide))), State.reg_setDie, State.reg_inc_same, reg]
    rfl
  · refine regsBut_settle fun i k hk hn hmem => (State.reg_endIntents ..).trans ?_
    have counted : RegsBut s v [(ixGlacier die, 0x0C), (ixFlash die (lun / 32), 6)] := by
      have flash : RegsBut s (u.inc (ixFlash die (lun / 32)) 6)
          [(ixGlacier die, 0x0C), (ixFlash die (lun / 32), 6)] :=
        regsBut_inc (fun i k _ _ _ => reg i k) (by simp) (by decide)
      exact hv ▸ regsBut_inc (regsBut_setShadow flash _) (by simp) (by decide)
    exact counted i k hk hn hmem

/-- A block that cannot be erased again, or shows more than 8 programmed bits, is retired. -/
theorem does_intentReerase_retired (hroom : (s.die die).moraine.length < moraineTop) {erased : Bool} {bits : Nat}
    (hfail : erased = false ∨ 8 < bits) : Does (.intentReerase die lun erased bits) s fun t =>
    look 0 (t.die die).intents lun = 0 ∧ (∃ x ∈ (t.die die).moraine, x.blk = b) ∧
    (∀ x, blkOfPage x = b → t.page die x = noPage) ∧ (∀ x, blkOfPage x ≠ b → t.page die x = s.page die x) ∧
    RegsBut s t [(ixFlash die (lun / 32), if erased then 6 else 5)] ∧ Keeps s t [.shadow, .seq, .fw, .regs] := by
  have keeps := keeps_reerase (s := s) (die := die) (lun := lun) (b := b) erased bits
  obtain ⟨u, hu⟩ : ∃ u, u = s.fresh.takeIntent die lun := ⟨_, rfl⟩
  have taken : u.die die = (s.die die).clearIntent lun := by rw [hu]; exact State.die_takeIntent s.fresh die lun
  obtain ⟨w, reason, settled, dropped, counted⟩ : ∃ w reason,
      u.settleIntent die lun b erased bits = w.addMoraine die b reason ∧
      w.die die = ((s.die die).clearIntent lun).dropPages b ∧
      RegsBut s w [(ixFlash die (lun / 32), if erased then 6 else 5)] := by
    have regs : RegsBut s u [(ixFlash die (lun / 32), if erased then 6 else 5)] := fun i k _ _ _ => by
      rw [hu]; exact State.reg_takeIntent s.fresh die lun i k
    cases erased with
    | true =>
      have many : ¬ bits ≤ 8 := by simpa using hfail
      refine ⟨_, 4, if_neg many, ?_, regsBut_setShadow (regsBut_inc regs (by simp) (by decide)) _⟩
      rw [← taken]
      exact (State.die_setDie ..).trans (if_pos rfl)
    | false =>
      refine ⟨_, 3, rfl, ?_, regsBut_inc (regsBut_setShadow regs _) (by simp) (by decide)⟩
      rw [← taken]
      exact (State.die_setDie ..).trans (if_pos rfl)
  obtain ⟨moraine, blocks, record, listed⟩ := State.die_addMoraine (s := w) (d := die) (b := b)
    (by rw [dropped]; exact hroom) reason
  rw [← hu, settled] at keeps
  have step := (State.reerase_fresh hb h0 hst hl erased bits).trans
    (congrArg (fun t : State => t.endIntents die) (by rw [← hu, settled]))
  have here : (settle ((w.addMoraine die b reason).endIntents die)).die die =
      { ((s.die die).clearIntent lun).dropPages b with moraine := moraine, blocks := blocks } := by
    rw [State.die_settle, State.die_endIntents, record, dropped]
  obtain ⟨intent, gone, others⟩ := intentGone_of_die (s := s) (d := die) (l := lun) (b := b)
    (t := settle ((w.addMoraine die b reason).endIntents die)) (by rw [here]; rfl) (by rw [here]; rfl)
  refine does_of_effect hon (exec_intentReerase die lun erased bits s) step
    ⟨intent, by rw [here]; exact listed, gone, others, ?_, keeps⟩
  exact regsBut_settle fun i k hk hn hmem =>
    (State.reg_endIntents ..).trans ((State.reg_addMoraine ..).trans (counted i k hk hn hmem))

end

end Sys2Proof.Machine
end

section
/-! PROOFS. The restore of a die's map (09 R229, R231, R233, Table 09.6): what each step of it may change, and what
becomes of a flake that is resolved or lost. -/
namespace Sys2Proof.Machine

open Sys2Proof.Safety

/-- A state with the parts of another that the restore of a map may change. -/
def State.withMaps (s t : State) : State :=
  { s with shadow := t.shadow, freeze := t.freeze, hosts := t.hosts, regs := t.regs, recs := t.recs }

/-- From s to t maps have been restored: of the flakes only those of p have changed, and a flake that was listed as
poisoned still is. -/
structure MapChange (p : Nat → Prop) (s t : State) : Prop where
  eq_update : t = s.withMaps t
  others : ∀ x, ¬ p x → t.firn x = s.firn x ∧ t.fmapOf x = s.fmapOf x
  listed : ∀ x ∈ s.freeze.poisoned, x ∈ t.freeze.poisoned
  recovery : t.freeze.recovery = s.freeze.recovery
  keeps : Keeps s t [.shadow, .freeze, .hosts, .regs, .out]

namespace MapChange

section
variable {p q : Nat → Prop} {s t u : State}

theorem refl (p : Nat → Prop) (s : State) : MapChange p s s :=
  ⟨rfl, fun _ _ => ⟨rfl, rfl⟩, fun _ => id, rfl, Keeps.mono (Keeps.refl s) (by simp)⟩

theorem trans (h : MapChange p s t) (h' : MapChange p t u) : MapChange p s u := by
  refine ⟨?_, fun x hx => ?_, fun x hx => h'.listed x (h.listed x hx), h'.recovery.trans h.recovery, Keeps.trans h.keeps h'.keeps⟩
  · conv_lhs => rw [h'.eq_update, h.eq_update]
    rfl
  · obtain ⟨firn, fmap⟩ := h.others x hx
    obtain ⟨firn', fmap'⟩ := h'.others x hx
    exact ⟨firn'.trans firn, fmap'.trans fmap⟩

theorem mono (h : MapChange p s t) (hpq : ∀ x, p x → q x) : MapChange q s t :=
  ⟨h.eq_update, fun x hx => h.others x fun hp => hx (hpq x hp), h.listed, h.recovery, h.keeps⟩

theorem foldl {f : State → Nat → State} {l : List Nat} (hf : ∀ t, ∀ a ∈ l, MapChange p s t → MapChange p t (f t a)) :
    MapChange p s (l.foldl f s) := by
  suffices h : ∀ t, MapChange p s t → MapChange p s (l.foldl f t) from h s (refl p s)
  induction l with
  | nil => exact fun t ht => ht
  | cons a l ih =>
    exact fun t ht => ih (fun t b hb => hf t b (List.mem_cons_of_mem a hb)) _
      (ht.trans (hf t a List.mem_cons_self ht))

variable (h : MapChange p s t)
include h

theorem homeDie (x : Nat) : t.homeDie x = s.homeDie x := by rw [h.eq_update]; rfl

theorem homeIdx (x : Nat) : t.homeIdx x = s.homeIdx x := by rw [h.eq_update]; rfl

theorem lostRanks : t.lostRanks = s.lostRanks := by rw [h.eq_update]; rfl

theorem coveredHome (d : Nat) : t.coveredHome d = s.coveredHome d := by rw [h.eq_update]; rfl

theorem flakeTen (x : Nat) : t.flakeTen x = s.flakeTen x := by rw [h.eq_update]; rfl

theorem tenancy (n : Nat) : t.tenancy n = s.tenancy n := by rw [h.eq_update]; rfl

end

end MapChange

/-! What changes no flake. -/

theorem mapChange_setDies (p : Nat → Prop) (s : State) (dies : Sparse DieShadow) : MapChange p s (s.setDies dies) :=
  ⟨rfl, fun _ _ => ⟨rfl, rfl⟩, fun _ => id, rfl, keeps_setShadow (MapChange.refl p s).keeps (by simp) _⟩

theorem mapChange_setDie (p : Nat → Prop) (s : State) (d : Nat) (x : DieShadow) : MapChange p s (s.setDie d x) :=
  mapChange_setDies p s _

theorem mapChange_stalePage (p : Nat → Prop) (s : State) (d a : Nat) : MapChange p s (s.stalePage d a) := by
  unfold State.stalePage
  split
  · exact .refl p s
  · exact mapChange_setDie p s _ _

theorem mapChange_touchMap (p : Nat → Prop) (s : State) (m : Nat) : MapChange p s (s.touchMap m) :=
  mapChange_setDie p s _ _

theorem mapChange_markMap (p : Nat → Prop) (s : State) (d a : Nat) : MapChange p s (s.markMap d a) := by
  unfold State.markMap
  dsimp only
  split
  · exact mapChange_setDie p s _ _
  · exact .refl p s

theorem mapChange_startMaps (p : Nat → Prop) (s : State) (d : Nat) (l : List Nat) : MapChange p s (s.startMaps d l) := by
  rw [State.startMaps, (mapWork_advanceMaps (d := d) _).eq_update]
  exact (mapChange_setDie p s d _).trans (mapChange_setDies p _ _)

theorem mapChange_addReg (p : Nat → Prop) (s : State) (i k v top : Nat) : MapChange p s (s.addReg i k v top) :=
  ⟨rfl, fun _ _ => ⟨rfl, rfl⟩, fun _ => id, rfl, keeps_setReg (MapChange.refl p s).keeps (by simp) _ _ _⟩

theorem State.report_eq (s : State) (d c v w : Nat) (l : List Nat) :
    s.report d c v w l = { s with regs := (s.report d c v w l).regs, recs := (s.report d c v w l).recs } := by
  unfold State.report State.stage
  dsimp only
  repeat' split
  all_goals rfl

theorem mapChange_report (p : Nat → Prop) (s : State) (d c v w : Nat) (l : List Nat) :
    MapChange p s (s.report d c v w l) := by
  have keeps := keeps_report_anywhere (MapChange.refl p s).keeps (by simp) d c v w l
  rw [State.report_eq] at keeps ⊢
  exact ⟨rfl, fun _ _ => ⟨rfl, rfl⟩, fun _ => id, rfl, keeps⟩

theorem mapChange_setHosts (p : Nat → Prop) (s : State) (x : Hosts) : MapChange p s { s with hosts := x } :=
  ⟨rfl, fun _ _ => ⟨rfl, rfl⟩, fun _ => id, rfl, keeps_setHosts (MapChange.refl p s).keeps (by simp) x⟩

theorem mapChange_listPoison (p : Nat → Prop) (s : State) (d o n : Nat) (inj : Bool) :
    MapChange p s (s.listPoison d o n inj) := by
  unfold State.listPoison State.addPoison
  split
  · exact mapChange_setHosts p s _
  · exact (mapChange_setHosts p s _).trans (mapChange_report p _ _ _ _ _ _)

theorem mapChange_mapRetried (p : Nat → Prop) (s : State) (d : Nat) (bad retried : List Nat) :
    MapChange p s (s.mapRetried d bad retried) := by
  refine (mapChange_addReg p s _ _ _ _).trans (MapChange.foldl fun t a _ _ => ?_)
  split
  · exact mapChange_markMap p t d a
  · exact .refl p t

theorem mapChange_distrustBlocks (p : Nat → Prop) (s : State) (d : Nat) : MapChange p s (s.distrustBlocks d) := by
  unfold State.distrustBlocks
  split
  · exact .refl p s
  · refine MapChange.foldl fun t b _ _ => ?_
    dsimp only
    split
    · exact mapChange_setDie p t _ _
    · exact .refl p t

theorem mapChange_saveResolved (p : Nat → Prop) (s : State) (d : Nat) : MapChange p s (s.saveResolved d) := by
  unfold State.saveResolved
  split
  · exact (mapChange_setDie p s _ _).trans (mapChange_startMaps p _ _ _)
  · exact .refl p s

/-! What sets one flake. -/

/-- A flake-map entry is set. -/
def State.setEntry (s : State) (m a : Nat) : State :=
  { s with shadow := { s.shadow with fmap := put 0 s.shadow.fmap m a } }

theorem State.fmapOf_setEntry (s : State) (m a : Nat) : (s.setEntry m a).fmapOf m = a := look_put_same ..

theorem mapChange_setEntry (s : State) (m a : Nat) : MapChange (· = m) s (s.setEntry m a) :=
  ⟨rfl, fun _ hx => ⟨rfl, look_put_ne _ _ _ hx⟩, fun _ => id, rfl,
    keeps_setShadow (MapChange.refl (· = m) s).keeps (by simp) _⟩

theorem mapChange_setFirn (s : State) (m c : Nat) : MapChange (· = m) s (s.setFirn m c) :=
  ⟨rfl, fun _ hx => ⟨look_put_ne _ _ _ hx, rfl⟩, fun _ => id, rfl,
    keeps_setShadow (MapChange.refl (· = m) s).keeps (by simp) _⟩

/-- A flake has the firn state and the entry that it was resolved to; where it is lost it is listed. -/
structure Resolved (m : Nat) (r : Nat × Nat) (t : State) : Prop where
  firn : t.firn m = r.1
  fmap : t.fmapOf m = r.2
  listed : r.1 = fPoisoned → m ∈ t.freeze.poisoned

theorem Resolved.of_change {m : Nat} {r : Nat × Nat} {p : Nat → Prop} {s t : State} (h : Resolved m r s)
    (hc : MapChange p s t) (hm : ¬ p m) : Resolved m r t := by
  obtain ⟨firn, fmap⟩ := hc.others m hm
  exact ⟨firn.trans h.firn, fmap.trans h.fmap, fun hp => hc.listed m (h.listed hp)⟩

theorem mem_addOnce_self (x : Nat) (l : List Nat) : x ∈ addOnce x l := by
  unfold addOnce
  split
  · next h => exact List.mem_of_elem_eq_true h
  · exact List.mem_append_right _ (List.mem_singleton_self x)

theorem mem_addOnce_of_mem {x : Nat} {l : List Nat} (h : x ∈ l) (y : Nat) : x ∈ addOnce y l := by
  unfold addOnce
  split
  · exact h
  · exact List.mem_append_left _ h

/-- A flake joins the list of those that the recovery has made POISONED. -/
def State.notePoison (s : State) (m : Nat) : State :=
  { s with freeze := { s.freeze with poisoned := addOnce m s.freeze.poisoned } }

theorem mapChange_notePoison (p : Nat → Prop) (s : State) (m : Nat) : MapChange p s (s.notePoison m) :=
  ⟨rfl, fun _ _ => ⟨rfl, rfl⟩, fun _ hx => mem_addOnce_of_mem hx m, rfl,
    keeps_setFreeze (MapChange.refl p s).keeps (by simp) _⟩

/-- A lost flake is set POISONED, listed, left without an entry, noted and counted. -/
theorem State.thawPoison_eq (s : State) (m : Nat) : s.thawPoison m =
    ((((s.setFirn m fPoisoned).listPoison (s.homeDie m) (m * flakeBytes) 256 false).setEntry m 0).notePoison m).addReg
      0x6800 0x0A 1 u64max := rfl

theorem mapChange_thawPoison (s : State) (m : Nat) : MapChange (· = m) s (s.thawPoison m) := by
  rw [State.thawPoison_eq]
  exact ((((mapChange_setFirn s m _).trans (mapChange_listPoison _ _ _ _ _ _)).trans
    (mapChange_setEntry _ m 0)).trans (mapChange_notePoison _ _ m)).trans (mapChange_addReg _ _ _ _ _ _)

theorem resolved_thawPoison (s : State) (m : Nat) : Resolved m (fPoisoned, 0) (s.thawPoison m) := by
  have listed := mapChange_listPoison (fun _ => False) (s.setFirn m fPoisoned) (s.homeDie m) (m * flakeBytes) 256 false
  rw [State.thawPoison_eq]
  exact ⟨(listed.others m id).1.trans (s.firn_setFirn_same m _), State.fmapOf_setEntry _ m 0,
    fun _ => mem_addOnce_self m _⟩

/-- A flake whose map page has changed as well is lost all the same. -/
theorem mapChange_thawPoison_touchMap (s : State) (m : Nat) : MapChange (· = m) s ((s.thawPoison m).touchMap m) :=
  (mapChange_thawPoison s m).trans (mapChange_touchMap _ _ m)

/-- The flake of a resolution, set. -/
def State.setFlake (s : State) (m : Nat) (r : Nat × Nat) : State :=
  if r.1 = fPoisoned then s.thawPoison m else (s.setFirn m r.1).setEntry m r.2

theorem mapChange_setFlake (s : State) (m : Nat) (r : Nat × Nat) : MapChange (· = m) s (s.setFlake m r) := by
  unfold State.setFlake
  split
  · exact mapChange_thawPoison s m
  · exact (mapChange_setFirn s m _).trans (mapChange_setEntry _ m _)

theorem resolved_setFlake (s : State) (m : Nat) {r : Nat × Nat} (hr : r.1 = fPoisoned → r.2 = 0) :
    Resolved m r (s.setFlake m r) := by
  unfold State.setFlake
  split
  · next h =>
    obtain ⟨firn, fmap, listed⟩ := resolved_thawPoison s m
    exact ⟨firn.trans h.symm, fmap.trans (hr h).symm, fun _ => listed rfl⟩
  · next h => exact ⟨s.firn_setFirn_same m _, State.fmapOf_setEntry _ m _, fun hp => absurd hp h⟩

/-- Around the setting of its flake a resolution changes none. -/
theorem State.setResolved_eq (s : State) (m code entry : Nat) (r : Nat × Nat) : ∃ t,
    (∀ p, MapChange p s t) ∧ ∀ p, MapChange p (t.setFlake m r) (s.setResolved m code entry r) := by
  set t := if r.2 = entry then s else s.stalePage (s.homeDie m) entry with ht
  set u := if 9 ≤ code then t.report (t.homeDie m) cReservedFirn 1 0 [m] else t with hu
  refine ⟨u, fun p => ?_, fun p => ?_⟩
  · have stale : MapChange p s t := by
      rw [ht]
      split
      · exact .refl p s
      · exact mapChange_stalePage p s _ _
    refine stale.trans ?_
    rw [hu]
    split
    · exact mapChange_report p t _ _ _ _ _
    · exact .refl p t
  · change MapChange p (u.setFlake m r)
      (if mapCode r.1 = code ∧ r.2 = entry then u.setFlake m r else (u.setFlake m r).touchMap m)
    split
    · exact .refl p _
    · exact mapChange_touchMap p _ m

theorem mapChange_setResolved (s : State) (m code entry : Nat) (r : Nat × Nat) :
    MapChange (· = m) s (s.setResolved m code entry r) := by
  obtain ⟨t, before, after⟩ := s.setResolved_eq m code entry r
  exact ((before _).trans (mapChange_setFlake t m r)).trans (after _)

theorem resolved_setResolved (s : State) (m code entry : Nat) {r : Nat × Nat} (hr : r.1 = fPoisoned → r.2 = 0) :
    Resolved m r (s.setResolved m code entry r) := by
  obtain ⟨t, -, after⟩ := s.setResolved_eq m code entry r
  exact (resolved_setFlake t m hr).of_change (after fun _ => False) id

/-! What a lost flake stays. -/

/-- A flake is POISONED and listed so. -/
def State.lostFlake (s : State) (x : Nat) : Prop := s.firn x = fPoisoned ∧ x ∈ s.freeze.poisoned

theorem Resolved.lostFlake {s : State} {x : Nat} {r : Nat × Nat} (h : Resolved x r s) (hr : r.1 = fPoisoned) :
    s.lostFlake x := ⟨h.firn.trans hr, h.listed hr⟩

theorem State.lostFlake.of_change {s t : State} {x : Nat} {p : Nat → Prop} (h : s.lostFlake x) (hc : MapChange p s t)
    (hx : ¬ p x) : t.lostFlake x := ⟨(hc.others x hx).1.trans h.1, hc.listed x h.2⟩

theorem lostFlake_thawPoison (s : State) (x : Nat) : (s.thawPoison x).lostFlake x :=
  (resolved_thawPoison s x).lostFlake rfl

theorem State.lostFlake.thawPoison {s : State} {x : Nat} (h : s.lostFlake x) (m : Nat) : (s.thawPoison m).lostFlake x := by
  by_cases hx : x = m
  · subst hx; exact lostFlake_thawPoison s x
  · exact h.of_change (mapChange_thawPoison s m) hx

/-- What a step reaches for its own element and every step keeps, a fold over the list reaches. -/
theorem foldl_reaches {α : Type} {f : State → α → State} {I Q : State → Prop} {a : α} (keep : ∀ t b, I t → I (f t b))
    (reach : ∀ t, I t → Q (f t a)) (stay : ∀ t b, I t → Q t → b ≠ a → Q (f t b)) {l : List α} {s : State} (hs : I s)
    (h : a ∈ l ∨ Q s) : Q (l.foldl f s) := by
  induction l generalizing s with
  | nil => exact h.resolve_left List.not_mem_nil
  | cons b l ih =>
    refine ih (keep s b hs) ?_
    by_cases hb : b = a
    · subst hb; exact .inr (reach s hs)
    · exact h.imp (fun h => (List.mem_cons.1 h).resolve_left fun h => hb h.symm) fun h => stay s b hs h hb

theorem lostFlake_foldl_thawPoison {l : List Nat} {s : State} {x : Nat} (hx : x ∈ l) :
    (l.foldl (fun t m => t.thawPoison m) s).lostFlake x :=
  foldl_reaches (I := fun _ => True) (Q := fun t => t.lostFlake x) (fun _ _ => id)
    (fun t _ => lostFlake_thawPoison t x) (fun _ b _ h _ => h.thawPoison b) trivial (.inl hx)

theorem State.lostFlake.poisonLost {s : State} {x : Nat} (h : s.lostFlake x) (d : Nat) : (s.poisonLost d).lostFlake x := by
  unfold State.poisonLost
  generalize s.lostRanks.flatMap s.flakesOn = l
  induction l generalizing s with
  | nil => exact h
  | cons m l ih =>
    refine ih ?_
    dsimp only
    split
    · exact (h.thawPoison m).of_change (mapChange_touchMap (fun _ => False) _ m) id
    · exact h

theorem State.poisonLost_of_none {s : State} (h : s.lostRanks = []) (d : Nat) : s.poisonLost d = s := by
  rw [State.poisonLost, h]; rfl

end Sys2Proof.Machine
end

section
/-! PROOFS. A die's map restore in state 11 (09 R229, R231, Table 09.6): each home flake that a readable map page covers
is resolved, and those of a die without a map are lost. -/
namespace Sys2Proof.Machine

open Sys2Proof.Safety

/-! Table 09.6 on the freeze-seal path. -/

section
variable {s : State} {d m n code entry : Nat} {scan : List (Nat × Page)} {bad : List Nat}

theorem State.resolveFlake_of_free (h : s.flakeTen m = none) :
    s.resolveFlake d m code entry scan bad = (fTrimmed, 0) := by
  rw [State.resolveFlake, h]

theorem State.resolveFlake_of_volatile (h : s.flakeTen m = some n) (hmode : (s.tenancy n).mode = 2) :
    s.resolveFlake d m code entry scan bad = (fTrimmed, 0) := by
  simp [State.resolveFlake, h, hmode]

theorem State.resolveFlake_of_clean (h : s.flakeTen m = some n) (hmode : (s.tenancy n).mode = 0)
    (hr : s.freeze.recovery = 1) (he : entry ≠ 0) :
    s.resolveFlake d m fClean entry scan bad = (fUnrestored, entry) := by
  simp [State.resolveFlake, State.afterCheckpoint, h, hmode, hr, he, fClean, fPoisoned]

theorem State.resolveFlake_of_poisoned (h : s.flakeTen m = some n) (hmode : (s.tenancy n).mode ≤ 1) :
    s.resolveFlake d m fPoisoned entry scan bad = (fPoisoned, 0) := by
  have hmode' : (s.tenancy n).mode ≠ 2 := by omega
  simp [State.resolveFlake, h, hmode', isSnow, fPoisoned]

end

/-- However far the restore of maps has gone from s, Table 09.6 resolves a flake of this map entry so. -/
def State.ResolvesTo (s : State) (d m code entry : Nat) (r : Nat × Nat) : Prop :=
  ∀ t, MapChange (fun _ => True) s t → ∀ scan bad, t.resolveFlake d m code entry scan bad = r

section
variable {s t : State} {d m n code entry : Nat}

theorem State.ResolvesTo.of_change {r : Nat × Nat} (h : s.ResolvesTo d m code entry r) {p : Nat → Prop}
    (hc : MapChange p s t) : t.ResolvesTo d m code entry r :=
  fun u hu => h u ((hc.mono fun _ _ => trivial).trans hu)

theorem State.resolvesTo_of_free (h : s.flakeTen m = none) : s.ResolvesTo d m code entry (fTrimmed, 0) :=
  fun _ hc _ _ => State.resolveFlake_of_free ((hc.flakeTen m).trans h)

theorem State.resolvesTo_of_volatile (h : s.flakeTen m = some n) (hmode : (s.tenancy n).mode = 2) :
    s.ResolvesTo d m code entry (fTrimmed, 0) :=
  fun _ hc _ _ => State.resolveFlake_of_volatile ((hc.flakeTen m).trans h) ((hc.tenancy n).symm ▸ hmode)

theorem State.resolvesTo_of_clean (h : s.flakeTen m = some n) (hmode : (s.tenancy n).mode = 0)
    (hr : s.freeze.recovery = 1) (he : entry ≠ 0) : s.ResolvesTo d m fClean entry (fUnrestored, entry) :=
  fun _ hc _ _ => State.resolveFlake_of_clean ((hc.flakeTen m).trans h) ((hc.tenancy n).symm ▸ hmode)
    (hc.recovery.trans hr) he

theorem State.resolvesTo_of_poisoned (h : s.flakeTen m = some n) (hmode : (s.tenancy n).mode ≤ 1) :
    s.ResolvesTo d m fPoisoned entry (fPoisoned, 0) :=
  fun _ hc _ _ => State.resolveFlake_of_poisoned ((hc.flakeTen m).trans h) ((hc.tenancy n).symm ▸ hmode)

end

/-! The map is forgotten. -/

theorem resolved_forgetMap {s : State} {d m : Nat} (h : s.homeDie m = d) : Resolved m (fTrimmed, 0) (s.forgetMap d) := by
  have gone : ¬ (!decide (s.homeDie m = d)) = true := by simp [h]
  refine ⟨?_, ?_, fun hp => absurd hp (by decide)⟩
  · exact (look_filter_key fTrimmed (fun x => !decide (s.homeDie x = d)) _ m).trans (if_neg gone)
  · exact (look_filter_key 0 (fun x => !decide (s.homeDie x = d)) _ m).trans (if_neg gone)

theorem mapChange_forgetMap (s : State) (d : Nat) : MapChange (fun x => s.homeDie x = d) s (s.forgetMap d) := by
  refine ⟨rfl, fun x hx => ?_, fun _ => id, rfl, keeps_setShadow (MapChange.refl (fun _ => False) s).keeps (by simp) _⟩
  have kept : (!decide (s.homeDie x = d)) = true := by simp [hx]
  exact ⟨(look_filter_key fTrimmed (fun x => !decide (s.homeDie x = d)) _ x).trans (if_pos kept),
    (look_filter_key 0 (fun x => !decide (s.homeDie x = d)) _ x).trans (if_pos kept)⟩

/-! The map is taken from an image. -/

/-- The heat counters of an image and the newest epoch of the scanned pages. -/
def State.noteImage (s : State) (i : MapImage) (scan : List (Nat × Page)) : State :=
  { s with
    shadow := { s.shadow with heat := i.heat.foldl (fun t e => put 0 t e.1 e.2) s.shadow.heat }
    freeze := { s.freeze with topEpoch := (scan.map fun e => e.2.epoch).foldl max s.freeze.topEpoch } }

/-- What an image gives beside the flakes: with the heat counters the addresses of the map's own pages. -/
def State.takeImage (s : State) (d : Nat) (i : MapImage) (scan : List (Nat × Page)) : State :=
  (s.noteImage i scan).setDie d { (s.noteImage i scan).die d with
    mapAddr := i.mapAddr, indexAddr := i.indexAddr, rootAddr := i.rootAddr }

/-- A flake is resolved from an image and the scanned pages. -/
def State.resolveFrom (s : State) (d : Nat) (i : MapImage) (scan : List (Nat × Page)) (bad : List Nat) (m : Nat) : State :=
  s.setResolved m (look fTrimmed i.firn m) (look 0 i.fmap m)
    (s.resolveFlake d m (look fTrimmed i.firn m) (look 0 i.fmap m) scan bad)

/-- The flakes that an image or the scanned pages name and that a readable map page covers. -/
def State.resolvable (s : State) (d : Nat) (i : MapImage) (scan : List (Nat × Page)) : List Nat :=
  (s.namedFlakes d i scan).filter fun m => !i.lost.elem (s.homeIdx m / 2048)

theorem State.mapFrom_eq (s : State) (d : Nat) (i : MapImage) (scan : List (Nat × Page)) (bad : List Nat) :
    s.mapFrom d i scan bad =
      (((s.takeImage d i scan).resolvable d i scan).foldl (fun t m => t.resolveFrom d i scan bad m)
        (s.takeImage d i scan)).loseMaps d i.lost := rfl

section
variable {s : State} {d m : Nat} {i : MapImage} {scan : List (Nat × Page)} {bad : List Nat}

theorem mapChange_takeImage (p : Nat → Prop) (s : State) (d : Nat) (i : MapImage) (scan : List (Nat × Page)) :
    MapChange p s (s.takeImage d i scan) := by
  have keeps : Keeps s (s.noteImage i scan) [.shadow, .freeze, .hosts, .regs, .out] :=
    keeps_setShadow (t := { s with freeze := (s.noteImage i scan).freeze })
      (keeps_setFreeze (MapChange.refl p s).keeps (by simp) _) (by simp) _
  have noted : MapChange p s (s.noteImage i scan) := ⟨rfl, fun _ _ => ⟨rfl, rfl⟩, fun _ => id, rfl, keeps⟩
  exact noted.trans (mapChange_setDie p _ _ _)

theorem mem_foldl_addOnce {l acc : List Nat} {x : Nat} (h : x ∈ l ∨ x ∈ acc) :
    x ∈ l.foldl (fun l m => addOnce m l) acc := by
  induction l generalizing acc with
  | nil => exact h.resolve_left List.not_mem_nil
  | cons a l ih =>
    refine ih ?_
    rcases h with h | h
    · exact (List.mem_cons.1 h).elim (fun h => .inr (h ▸ mem_addOnce_self x acc)) .inl
    · exact .inr (mem_addOnce_of_mem h a)

/-- A flake that is not TRIMMED in an image is named by it. -/
theorem State.mem_namedFlakes (hm : s.homeDie m = d) (h : look fTrimmed i.firn m ≠ fTrimmed) :
    m ∈ s.namedFlakes d i scan := by
  have named : m ∈ i.firn.map (·.1) := by
    by_contra hn
    exact h (by rw [look, look?_eq_none hn]; rfl)
  refine List.mem_filter.2 ⟨mem_foldl_addOnce (.inl ?_), by simp [hm]⟩
  exact List.mem_append_left _ (List.mem_append_left _ named)

theorem State.homeDie_of_mem_resolvable (h : m ∈ s.resolvable d i scan) : s.homeDie m = d := by
  simpa using (List.mem_filter.1 (List.mem_filter.1 h).1).2

theorem mapChange_loseMaps (s : State) (d : Nat) (lost : List Nat) :
    MapChange (fun x => s.homeDie x = d ∧ lost.elem (s.homeIdx x / 2048) = true) s (s.loseMaps d lost) := by
  unfold State.loseMaps
  split
  · exact .refl _ s
  · refine MapChange.foldl fun t m hm _ => (mapChange_thawPoison_touchMap t m).mono fun x hx => ?_
    obtain ⟨covered, lost⟩ := List.mem_filter.1 hm
    obtain ⟨e, -, home⟩ := List.mem_flatMap.1 covered
    subst hx
    exact ⟨by simpa using (List.mem_filter.1 home).2, lost⟩

theorem mapChange_resolveAll (s : State) (d : Nat) (i : MapImage) (scan : List (Nat × Page)) (bad l : List Nat) :
    MapChange (· ∈ l) s (l.foldl (fun t m => t.resolveFrom d i scan bad m) s) :=
  MapChange.foldl fun t m hm _ => (mapChange_setResolved t m _ _ _).mono fun _ hx => hx ▸ hm

theorem mapChange_mapFrom (s : State) (d : Nat) (i : MapImage) (scan : List (Nat × Page)) (bad : List Nat) :
    MapChange (fun x => s.homeDie x = d) s (s.mapFrom d i scan bad) := by
  have taken := mapChange_takeImage (fun x => s.homeDie x = d) s d i scan
  have resolved := mapChange_resolveAll (s.takeImage d i scan) d i scan bad ((s.takeImage d i scan).resolvable d i scan)
  rw [State.mapFrom_eq]
  refine (taken.trans (resolved.mono fun x hx => ?_)).trans ((mapChange_loseMaps _ d i.lost).mono fun x hx => ?_)
  · rw [← taken.homeDie]
    exact State.homeDie_of_mem_resolvable hx
  · rw [← taken.homeDie, ← resolved.homeDie]
    exact hx.1

/-- A home flake under a readable map page is set as Table 09.6 resolves it, whether the map names it or it is TRIMMED. -/
theorem resolved_mapFrom {r : Nat × Nat} (hm : s.homeDie m = d) (hs : Resolved m (fTrimmed, 0) s)
    (hlost : i.lost.elem (s.homeIdx m / 2048) = false)
    (hr : s.ResolvesTo d m (look fTrimmed i.firn m) (look 0 i.fmap m) r)
    (hp : r.1 = fPoisoned → r.2 = 0) (hnamed : look fTrimmed i.firn m ≠ fTrimmed ∨ r = (fTrimmed, 0)) :
    Resolved m r (s.mapFrom d i scan bad) := by
  have taken := mapChange_takeImage (fun _ => False) s d i scan
  have all := mapChange_resolveAll (s.takeImage d i scan) d i scan bad ((s.takeImage d i scan).resolvable d i scan)
  have resolved : Resolved m r (((s.takeImage d i scan).resolvable d i scan).foldl
      (fun t m => t.resolveFrom d i scan bad m) (s.takeImage d i scan)) := by
    refine foldl_reaches (I := MapChange (fun _ => True) s) (Q := Resolved m r) (a := m) (fun t b h => ?_)
      (fun t h => ?_) (fun t b _ h hb => ?_) (taken.mono fun _ => False.elim) ?_
    · exact h.trans ((mapChange_setResolved t b _ _ _).mono fun _ _ => trivial)
    · rw [State.resolveFrom, hr t h scan bad]
      exact resolved_setResolved t m _ _ hp
    · exact h.of_change (mapChange_setResolved t b _ _ _) (Ne.symm hb)
    · refine hnamed.imp (fun h => List.mem_filter.2 ⟨State.mem_namedFlakes ?_ h, ?_⟩)
        fun h => by rw [h]; exact hs.of_change taken id
      · rw [taken.homeDie, hm]
      · rw [taken.homeIdx, hlost]; rfl
  rw [State.mapFrom_eq]
  refine resolved.of_change (mapChange_loseMaps _ d i.lost) fun h => ?_
  rw [all.homeIdx, taken.homeIdx, hlost] at h
  exact absurd h.2 Bool.false_ne_true

end

/-! The map is lost. -/

theorem lostFlake_mapLost {s : State} {d x : Nat} {all : Bool} (hr : s.freeze.recovery ≠ 0)
    (hx : x ∈ if all then s.homeFlakes d else s.coveredHome d) : (s.mapLost d all).lostFlake x := by
  rw [State.mapLost, if_neg hr]
  exact (lostFlake_foldl_thawPoison hx).of_change (mapChange_setDie (fun _ => False) _ _ _) id

/-! The restore as a whole. -/

/-- A die's restore from the reading of its map on. -/
def State.finishRestore (s : State) (d : Nat) (bad retried : List Nat) : State :=
  ((((s.mapRetried d bad retried).poisonLost d).distrustBlocks d).saveResolved d)

/-- A die has its map. -/
def State.noteRestored (s : State) (d : Nat) : State :=
  { s with freeze := { s.freeze with restored := addOnce d s.freeze.restored } }

section
variable {s : State} {d : Nat} {bad retried : List Nat}

theorem State.mapRestore_of_image {sl : Seal} {i : MapImage} (hsl : s.usedSeal d = some sl)
    (hi : s.imageOf d sl bad = some i) : s.mapRestore d bad retried =
      ((((s.forgetMap d).mapFrom d i ((s.forgetMap d).scanned d sl bad) bad).finishRestore d bad retried).noteRestored d) := by
  have hsl' : (s.forgetMap d).usedSeal d = some sl := hsl
  have hi' : (s.forgetMap d).imageOf d sl bad = some i := hi
  simp only [State.mapRestore, hsl', hi']
  rfl

theorem State.mapRestore_of_no_seal (hsl : s.usedSeal d = none) : s.mapRestore d bad retried =
    ((((s.forgetMap d).mapLost d s.anySeal).finishRestore d bad retried).noteRestored d) := by
  have hsl' : (s.forgetMap d).usedSeal d = none := hsl
  simp only [State.mapRestore, hsl']
  rfl

theorem State.mapRestore_of_no_image {sl : Seal} (hsl : s.usedSeal d = some sl) (hi : s.imageOf d sl bad = none) :
    s.mapRestore d bad retried = (((((s.forgetMap d).report d cDieNoSeal 2 0 [d, s.freeze.epoch]).mapLost d
      false).finishRestore d bad retried).noteRestored d) := by
  have hsl' : (s.forgetMap d).usedSeal d = some sl := hsl
  have hi' : (s.forgetMap d).imageOf d sl bad = none := hi
  simp only [State.mapRestore, hsl', hi']
  rfl

theorem mapChange_finishRestore (p : Nat → Prop) (h : s.lostRanks = []) (d : Nat) (bad retried : List Nat) :
    MapChange p s (s.finishRestore d bad retried) := by
  have retriedMaps := mapChange_mapRetried p s d bad retried
  unfold State.finishRestore
  rw [State.poisonLost_of_none (retriedMaps.lostRanks.trans h)]
  exact (retriedMaps.trans (mapChange_distrustBlocks p _ d)).trans (mapChange_saveResolved p _ d)

theorem State.lostFlake.finishRestore {x : Nat} (h : s.lostFlake x) (d : Nat) (bad retried : List Nat) :
    (s.finishRestore d bad retried).lostFlake x :=
  (((h.of_change (mapChange_mapRetried (fun _ => False) s d bad retried) id).poisonLost d).of_change
    (mapChange_distrustBlocks (fun _ => False) _ d) id).of_change (mapChange_saveResolved (fun _ => False) _ d) id

theorem State.lostFlake.noteRestored {x : Nat} (h : s.lostFlake x) (d : Nat) :
    (settle (s.noteRestored d)).lostFlake x :=
  ⟨(State.firn_settle (s.noteRestored d) x).trans h.1, by rw [settle_freeze]; exact h.2⟩

theorem mem_restored_noteRestored (s : State) (d : Nat) : d ∈ (settle (s.noteRestored d)).freeze.restored := by
  rw [settle_freeze]
  exact mem_addOnce_self d _

end

/-! MAP_RESTORE_DONE. -/

/-- State 11 restores the map of a die that works and has none yet. -/
structure MapDue (s : State) (d : Nat) : Prop where
  st : s.seq.st = 11
  thaw : s.freeze.thaw = 2
  works : s.workingDies.elem d = true
  waits : s.freeze.restored.elem d = false

theorem exec_mapRestoreDone (read : MapRead) (s : State) : exec (.mapRestoreDone read) s = act (fun s =>
    if s.seq.st = 11 ∧ s.freeze.thaw = 2 ∧ s.workingDies.elem read.die = true ∧ s.freeze.restored.elem read.die = false
    then s.mapRestore read.die read.bad read.retried else s) s := rfl

section
variable {s : State} {die : Nat} {bad retried : List Nat} (hon : s.aon.on = true) (hdue : MapDue s die)
include hon hdue

theorem does_mapRestoreDone {P : State → Prop} (h : P (settle (s.fresh.mapRestore die bad retried))) :
    Does (.mapRestoreDone ⟨die, bad, retried⟩) s P :=
  does_of_effect hon (exec_mapRestoreDone _ s) (if_pos ⟨hdue.st, hdue.thaw, hdue.works, hdue.waits⟩) h

/-- With the map that a seal leads to, every home flake that it can resolve is resolved, and the flakes of no other die
move. -/
theorem does_mapRestoreDone_image {sl : Seal} {i : MapImage} {m : Nat} (hsl : s.usedSeal die = some sl)
    (hi : s.imageOf die sl bad = some i) (hlost : s.lostRanks = []) (hm : s.homeDie m = die)
    (hread : i.lost.elem (s.homeIdx m / 2048) = false) : Does (.mapRestoreDone ⟨die, bad, retried⟩) s fun t =>
      (∀ r : Nat × Nat, s.fresh.ResolvesTo die m (look fTrimmed i.firn m) (look 0 i.fmap m) r →
        (r.1 = fPoisoned → r.2 = 0) → (look fTrimmed i.firn m ≠ fTrimmed ∨ r = (fTrimmed, 0)) → Resolved m r t) ∧
      (∀ x, s.homeDie x ≠ die → t.firn x = s.firn x ∧ t.fmapOf x = s.fmapOf x) ∧
      die ∈ t.freeze.restored ∧ Keeps s t [.shadow, .freeze, .hosts, .regs] := by
  have forgotten := mapChange_forgetMap s.fresh die
  have mapped := mapChange_mapFrom (s.fresh.forgetMap die) die i ((s.fresh.forgetMap die).scanned die sl bad) bad
  have finished := mapChange_finishRestore (fun _ => False)
    ((mapped.lostRanks.trans forgotten.lostRanks).trans hlost) die bad retried
  generalize hv : State.finishRestore _ die bad retried = v at finished
  have change : MapChange (fun x => s.homeDie x = die) s.fresh v :=
    (forgotten.trans (mapped.mono fun x hx => (forgotten.homeDie x).symm.trans hx)).trans
      (finished.mono fun _ => False.elim)
  have keeps : Keeps s (settle (v.noteRestored die)) [.shadow, .freeze, .hosts, .regs] := by
    have all := Keeps.trans (Keeps.fresh s _) change.keeps
    exact Keeps.of_out_nil (Keeps.settle (keeps_setFreeze all (by simp) _))
      ((settle_out _).trans (by rw [change.eq_update]; rfl)) (by simp)
  have firn (x : Nat) : (settle (v.noteRestored die)).firn x = v.firn x := State.firn_settle ..
  have fmap (x : Nat) : (settle (v.noteRestored die)).fmapOf x = v.fmapOf x := by
    rw [State.fmapOf, settle_shadow]; rfl
  refine does_mapRestoreDone hon hdue ?_
  rw [State.mapRestore_of_image (s := s.fresh) hsl hi, hv]
  refine ⟨fun r hr hp hnamed => ?_, fun x hx => ?_, mem_restored_noteRestored v die, keeps⟩
  · have resolved := (resolved_mapFrom (i := i) (scan := (s.fresh.forgetMap die).scanned die sl bad) (bad := bad)
      ((forgotten.homeDie m).trans hm) (resolved_forgetMap (s := s.fresh) hm) (by rw [forgotten.homeIdx]; exact hread)
      (hr.of_change forgotten) hp hnamed).of_change finished id
    exact ⟨(firn m).trans resolved.firn, (fmap m).trans resolved.fmap, fun h => by
      rw [settle_freeze]; exact resolved.listed h⟩
  · obtain ⟨same, entry⟩ := change.others x hx
    exact ⟨(firn x).trans same, (fmap x).trans entry⟩

/-- Without a seal every home flake is lost where some die has one, else the covered ones; without a readable root the
covered ones. -/
theorem does_mapRestoreDone_lost (hr : s.freeze.recovery ≠ 0) {l : List Nat}
    (h : (s.usedSeal die = none ∧ l = if s.anySeal then s.homeFlakes die else s.coveredHome die) ∨
      (l = s.coveredHome die ∧ ∃ x, s.usedSeal die = some x ∧ s.imageOf die x bad = none)) :
    Does (.mapRestoreDone ⟨die, bad, retried⟩) s fun t =>
      (∀ x ∈ l, t.firn x = fPoisoned ∧ x ∈ t.freeze.poisoned) ∧ die ∈ t.freeze.restored := by
  obtain ⟨u, hu, lost⟩ : ∃ u : State,
      s.fresh.mapRestore die bad retried = (u.finishRestore die bad retried).noteRestored die ∧ ∀ x ∈ l, u.lostFlake x := by
    rcases h with ⟨hsl, rfl⟩ | ⟨rfl, sl, hsl, hi⟩
    · exact ⟨_, State.mapRestore_of_no_seal (s := s.fresh) hsl, fun x hx => lostFlake_mapLost hr hx⟩
    · have reported := mapChange_report (fun _ => False) (s.fresh.forgetMap die) die cDieNoSeal 2 0 [die, s.freeze.epoch]
      refine ⟨_, State.mapRestore_of_no_image (s := s.fresh) hsl hi, fun x hx =>
        lostFlake_mapLost (fun h0 => hr (reported.recovery.symm.trans h0)) ?_⟩
      exact (reported.coveredHome die).symm ▸ hx
  refine does_mapRestoreDone hon hdue ?_
  rw [hu]
  exact ⟨fun x hx => ((lost x hx).finishRestore die bad retried).noteRestored die, mem_restored_noteRestored _ die⟩

end

end Sys2Proof.Machine
end

section
/-! PROOFS. The recovery seal of a thaw (09 R231, R232, R235): it stands on every die that works, or is cut short on
some, and the restore begins in the mode that the thaw took. -/
namespace Sys2Proof.Machine

open Sys2Proof.Safety

/-! The seals of the dies. -/

/-- A die's record after its recovery seal: of a first start it holds no seal, else one for an epoch. -/
structure Recovered (kind e : Nat) (x y : DieShadow) : Prop where
  freezeSeal : y.freezeSeal = none
  openSince : y.openSince = []
  unsealed : kind = 0 → y.sealA = none ∧ y.sealB = none
  sealed : kind ≠ 0 → ∃ sl, (y.sealA = some sl ∨ y.sealB = some sl) ∧ sl.epoch = e ∧ sl.whole = true ∧
    (kind = 2 → sl.root = x.rootAddr)

theorem State.sealRecovery_eq (s : State) (d e : Nat) : ∃ y, s.sealRecovery d e = s.setDie d y ∧
    Recovered s.freeze.recovery e (s.die d) y := by
  unfold State.sealRecovery
  dsimp only
  split
  · next h => exact ⟨_, rfl, rfl, rfl, fun _ => ⟨rfl, rfl⟩, fun h' => absurd h h'⟩
  · next h =>
    exact ⟨_, rfl, rfl, rfl, fun h' => absurd h' h, fun _ => ⟨_, DieShadow.seal_writeSeal .., rfl, rfl, fun h2 => if_pos h2⟩⟩

/-- The recovery seals of a list of dies. -/
structure RecoversAll (s t : State) (l : List Nat) (e : Nat) : Prop where
  eq_update : t = s.setDies t.shadow.dies
  others : ∀ d, d ∉ l → t.die d = s.die d
  here : ∀ d ∈ l, Recovered s.freeze.recovery e (s.die d) (t.die d)

theorem recoversAll_foldl {l : List Nat} (hl : l.Nodup) (s : State) (e : Nat) :
    RecoversAll s (l.foldl (fun t d => t.sealRecovery d e) s) l e := by
  induction l generalizing s with
  | nil => exact ⟨rfl, fun _ _ => rfl, fun d hd => absurd hd List.not_mem_nil⟩
  | cons d l ih =>
    obtain ⟨hd, hl⟩ := List.nodup_cons.1 hl
    obtain ⟨y, first, recovered⟩ := s.sealRecovery_eq d e
    rw [List.foldl_cons, first]
    obtain ⟨eq_update, others, here⟩ := ih hl (s.setDie d y)
    refine ⟨?_, fun b hb => ?_, fun b hb => ?_⟩
    · conv_lhs => rw [eq_update]
      exact State.setDies_setDie ..
    · rw [List.mem_cons, not_or] at hb
      rw [others b hb.2, State.die_setDie, if_neg hb.1]
    · rcases List.mem_cons.1 hb with rfl | hb
      · rw [others b hd, State.die_setDie, if_pos rfl]
        exact recovered
      · have sealed := here b hb
        rwa [State.die_setDie, if_neg (ne_of_mem_of_not_mem hb hd)] at sealed

/-- Recovery seals that are cut short: the freeze seal of every die stands, and of a die not among them everything. -/
structure Torn (s t : State) (l : List Nat) : Prop where
  eq_update : t = s.setDies t.shadow.dies
  others : ∀ d, d ∉ l → t.die d = s.die d
  freezeSeal : ∀ d, (t.die d).freezeSeal = (s.die d).freezeSeal

theorem DieShadow.freezeSeal_writeSeal (x : DieShadow) (sl : Seal) : (x.writeSeal sl).freezeSeal = x.freezeSeal := by
  rcases x.writeSeal_eq sl with ⟨written, -⟩ | ⟨written, -⟩ <;> rw [written]

theorem torn_tearRecovery (s : State) (d : Nat) : Torn s (s.tearRecovery d) [d] := by
  unfold State.tearRecovery
  split
  · refine ⟨rfl, fun b hb => ?_, fun b => ?_⟩
    · rw [State.die_setDie, if_neg (List.mem_singleton.not.1 hb)]
    · rw [State.die_setDie]
      split
      · next h => rw [DieShadow.freezeSeal_writeSeal, h]
      · rfl
  · exact ⟨rfl, fun _ _ => rfl, fun _ => rfl⟩

theorem State.setDies_eq {s t : State} (h : t = s.setDies t.shadow.dies) (dies : Sparse DieShadow) :
    t.setDies dies = s.setDies dies := by rw [h]; rfl

theorem torn_foldl (l : List Nat) (s : State) : Torn s (l.foldl (fun t d => t.tearRecovery d) s) l := by
  induction l generalizing s with
  | nil => exact ⟨rfl, fun _ _ => rfl, fun _ => rfl⟩
  | cons d l ih =>
    obtain ⟨eq_update, others, freezeSeal⟩ := torn_tearRecovery s d
    obtain ⟨eq_update', others', freezeSeal'⟩ := ih (s.tearRecovery d)
    refine ⟨?_, fun b hb => ?_, fun b => (freezeSeal' b).trans (freezeSeal b)⟩
    · rw [List.foldl_cons]
      exact eq_update'.trans (by rw [State.setDies_eq eq_update])
    · rw [List.mem_cons, not_or] at hb
      exact (others' b hb.2).trans (others b fun h => hb.1 (List.mem_singleton.1 h))

/-! The keys and tenancies that the seal settles. -/

/-- From s to t sweeps and retirements have ended: of the shadowing state only what sweeps alone have marked has moved. -/
structure KeysEnd (s t : State) : Prop where
  eq_update : t = { s with ten := t.ten, regs := t.regs, shadow := { s.shadow with swept := t.shadow.swept } }
  keeps : Keeps s t [.seq, .ten, .shadow, .freeze, .regs, .out]

namespace KeysEnd

theorem refl (s : State) : KeysEnd s s := ⟨rfl, Keeps.mono (Keeps.refl s) (by simp)⟩

theorem trans {s t u : State} (h : KeysEnd s t) (h' : KeysEnd t u) : KeysEnd s u := by
  refine ⟨?_, Keeps.trans h.keeps h'.keeps⟩
  conv_lhs => rw [h'.eq_update, h.eq_update]

theorem foldl {α : Type} {f : State → α → State} (hf : ∀ t a, KeysEnd t (f t a)) (l : List α) (s : State) :
    KeysEnd s (l.foldl f s) := by
  induction l generalizing s with
  | nil => exact refl s
  | cons a l ih => exact (hf s a).trans (ih _)

end KeysEnd

theorem keysEnd_setTenants (s : State) (x : Tenants) : KeysEnd s { s with ten := x } :=
  ⟨rfl, keeps_setTenancies (KeysEnd.refl s).keeps (by simp) x⟩

theorem keysEnd_setReg (s : State) (i k v : Nat) : KeysEnd s (s.setReg i k v) :=
  ⟨rfl, keeps_setReg (KeysEnd.refl s).keeps (by simp) i k v⟩

theorem keysEnd_forgetSwept (s : State) (n : Nat) : KeysEnd s (s.forgetSwept n) :=
  ⟨rfl, keeps_setShadow (KeysEnd.refl s).keeps (by simp) _⟩

theorem keysEnd_rekeySeal (s : State) : KeysEnd s s.rekeySeal :=
  .foldl (fun t _ => (((keysEnd_setTenants t _).trans (keysEnd_setTenants _ _)).trans (keysEnd_setTenants _ _)).trans
    (keysEnd_forgetSwept _ _)) _ s

theorem keysEnd_endRetires (s : State) : KeysEnd s s.endRetires :=
  .foldl (fun t _ => ((keysEnd_setTenants t _).trans (keysEnd_setReg _ _ _ _)).trans (keysEnd_setReg _ _ _ _)) _ s

/-! The steps of the seal. -/

/-- The recovery seals of every die that works. -/
def State.sealDies (s : State) : State := s.workingDies.foldl (fun t d => t.sealRecovery d s.recoveryEpoch) s

/-- The counter goes on from the epoch that the recovery seals hold; a first start has none. -/
def State.noteSealed (s : State) (kind e : Nat) : State :=
  if kind = 0 then s
  else { s with shadow := { s.shadow with counter := some (e + 1), epoch := e + 1, sealedAll := some e } }

/-- Keys whose sweep has ended move, and begun retirements end. -/
def State.endKeys (s : State) (kind : Nat) : State := (if kind = 0 then s else s.rekeySeal).endRetires

/-- The dies that stopped count again where they work, and the bytes to restore are counted. -/
def State.countRestore (s : State) : State :=
  { s with
    seq := { s.seq with lostDies := s.seq.lostDies.filter s.dieOut }
    freeze := { s.freeze with counted := false, restoreTotal := s.restoreLeft, tenths := 0 } }

/-- The eager restore, or the on-demand one with the sequence let go on. -/
def State.beginRestore (s : State) : State :=
  if s.freeze.mode = 0 then { s with freeze := { s.freeze with thaw := 3 } }
  else { s with freeze := { s.freeze with thaw := 4 }, seq := { s.seq with holds := [] } }.cdatChanged

theorem State.recoverySeal_eq (s : State) : s.recoverySeal =
    (((s.sealDies.noteSealed s.freeze.recovery s.recoveryEpoch).endKeys s.freeze.recovery).countRestore).beginRestore :=
  rfl

/-- The counter is noted: beside it and the epoch last sealed nothing moves. -/
structure SealNoted (kind e : Nat) (s t : State) : Prop where
  eq_update : t = s.setShadow t.shadow
  dies : t.shadow.dies = s.shadow.dies
  firn : t.shadow.firn = s.shadow.firn
  fmap : t.shadow.fmap = s.shadow.fmap
  unsealed : kind = 0 → t.shadow.counter = s.shadow.counter
  sealed : kind ≠ 0 → t.shadow.counter = some (e + 1) ∧ t.shadow.epoch = e + 1 ∧ t.shadow.sealedAll = some e

theorem sealNoted_noteSealed (s : State) (kind e : Nat) : SealNoted kind e s (s.noteSealed kind e) := by
  unfold State.noteSealed
  split
  · next h => exact ⟨rfl, rfl, rfl, rfl, fun _ => rfl, fun h' => absurd h h'⟩
  · next h => exact ⟨rfl, rfl, rfl, rfl, fun h' => absurd h' h, fun _ => ⟨rfl, rfl, rfl⟩⟩

theorem keysEnd_endKeys (s : State) (kind : Nat) : KeysEnd s (s.endKeys kind) := by
  unfold State.endKeys
  split
  · exact keysEnd_endRetires s
  · exact (keysEnd_rekeySeal s).trans (keysEnd_endRetires _)

/-- The restore begins as the mode says; beside the sequence and the thaw it moves nothing. -/
structure RestoreBegun (s t : State) : Prop where
  shadow : t.shadow = s.shadow
  eager : s.freeze.mode = 0 → t.freeze.thaw = 3 ∧ t.seq.holds = s.seq.holds
  onDemand : s.freeze.mode ≠ 0 → t.freeze.thaw = 4 ∧ t.seq.holds = []
  out : t.out = s.out
  keeps : Keeps s t [.seq, .ten, .shadow, .freeze, .regs, .out]

theorem restoreBegun_beginRestore (s : State) : RestoreBegun s s.beginRestore := by
  have same : Keeps s s [.seq, .ten, .shadow, .freeze, .regs, .out] := (KeysEnd.refl s).keeps
  unfold State.beginRestore
  split
  · next h => exact ⟨rfl, fun _ => ⟨rfl, rfl⟩, fun h' => absurd h h', rfl, keeps_setFreeze same (by simp) _⟩
  · next h =>
    unfold State.cdatChanged
    refine ⟨State.report_shadow .., fun h' => absurd h' h, fun _ => ?_, State.report_out .., ?_⟩
    · rw [State.report_freeze, State.report_seq]
      exact ⟨rfl, rfl⟩
    · refine keeps_report_anywhere ?_ (by simp) _ _ _ _ _
      exact keeps_setFreeze (t := { s with seq := { s.seq with holds := [] } }) (keeps_setSeq same (by simp) _) (by simp) _

/-! RECOVERY_SEAL. -/

/-- What RECOVERY_SEAL does: nothing before its time, else the seals, whole or cut short. -/
def State.writeRecovery (s : State) (torn : List Nat) : State :=
  if !s.mayRecover then s
  else if torn.isEmpty || decide (s.freeze.recovery = 0) then s.recoverySeal
  else torn.foldl (fun t d => t.tearRecovery d) s

theorem exec_recoverySeal (torn : List Nat) (s : State) :
    exec (.recoverySeal torn) s = act (fun s => s.writeRecovery torn) s := rfl

theorem State.writeRecovery_torn {s : State} (hmay : s.mayRecover = true) {torn : List Nat} (htorn : torn ≠ [])
    (hr : s.freeze.recovery ≠ 0) : s.writeRecovery torn = torn.foldl (fun t d => t.tearRecovery d) s := by
  simp [State.writeRecovery, hmay, htorn, hr]

theorem State.writeRecovery_whole {s : State} (hmay : s.mayRecover = true) :
    s.writeRecovery [] = s.recoverySeal := by
  simp [State.writeRecovery, hmay]

theorem State.mayRecover_of {s : State} (hst : s.seq.st = 11) (hthaw : s.freeze.thaw = 2)
    (h : ∀ d ∈ s.workingDies, d ∈ s.freeze.restored ∧ (s.freeze.recovery ≠ 2 ∨ (s.die d).phase = 4)) :
    s.mayRecover = true := by
  simpa [State.mayRecover, hst, hthaw] using h

section
variable {s : State} (hon : s.aon.on = true) (hmay : s.mayRecover = true)
include hon hmay

theorem does_recoverySeal_torn {torn : List Nat} (htorn : torn ≠ []) (hr : s.freeze.recovery ≠ 0) :
    Does (.recoverySeal torn) s fun t =>
      t.freeze = s.freeze ∧ (∀ d, d ∉ torn → t.die d = s.die d) ∧
      (∀ d ∈ s.workingDies, d ∈ torn → (t.die d).freezeSeal = (s.die d).freezeSeal) ∧
      t.shadow.firn = s.shadow.firn ∧ Keeps s t [.shadow] := by
  have step := State.writeRecovery_torn (s := s.fresh) hmay htorn hr
  obtain ⟨eq_update, others, freezeSeal⟩ := torn_foldl torn s.fresh
  generalize torn.foldl (fun t d => t.tearRecovery d) s.fresh = u at step eq_update others freezeSeal
  refine does_of_effect hon (exec_recoverySeal torn s) step ⟨?_, fun d hd => ?_, fun d _ _ => ?_, ?_, ?_⟩
  · rw [settle_freeze, eq_update]; rfl
  · exact (State.die_settle u d).trans (others d hd)
  · exact (congrArg DieShadow.freezeSeal (State.die_settle u d)).trans (freezeSeal d)
  · rw [settle_shadow, eq_update]; rfl
  · rw [eq_update]
    exact Keeps.settle (keeps_setShadow (Keeps.fresh s _) (by simp) _)

theorem does_recoverySeal_whole : Does (.recoverySeal []) s fun t =>
    (∀ d ∈ s.workingDies, Recovered s.freeze.recovery s.recoveryEpoch (s.die d) (t.die d)) ∧
    (s.freeze.recovery = 0 → t.shadow.counter = s.shadow.counter) ∧
    (s.freeze.recovery ≠ 0 → t.shadow.counter = some (s.recoveryEpoch + 1) ∧ t.shadow.epoch = s.recoveryEpoch + 1 ∧
      t.shadow.sealedAll = some s.recoveryEpoch) ∧
    (s.freeze.mode = 0 → t.freeze.thaw = 3 ∧ t.seq.holds = s.seq.holds) ∧
    (s.freeze.mode ≠ 0 → t.freeze.thaw = 4 ∧ t.seq.holds = []) ∧ t.shadow.firn = s.shadow.firn ∧
    t.shadow.fmap = s.shadow.fmap ∧ Keeps s t [.seq, .ten, .shadow, .freeze, .regs] := by
  have step := (State.writeRecovery_whole (s := s.fresh) hmay).trans s.fresh.recoverySeal_eq
  have recovers : RecoversAll s.fresh s.fresh.sealDies s.workingDies s.recoveryEpoch :=
    recoversAll_foldl s.nodup_workingDies s.fresh s.recoveryEpoch
  have noted := sealNoted_noteSealed s.fresh.sealDies s.freeze.recovery s.recoveryEpoch
  have keys := keysEnd_endKeys (s.fresh.sealDies.noteSealed s.freeze.recovery s.recoveryEpoch) s.freeze.recovery
  change s.fresh.writeRecovery [] = ((((s.fresh.sealDies.noteSealed s.freeze.recovery s.recoveryEpoch).endKeys
    s.freeze.recovery).countRestore).beginRestore) at step
  generalize s.fresh.sealDies = u at *
  generalize u.noteSealed s.freeze.recovery s.recoveryEpoch = v at *
  generalize v.endKeys s.freeze.recovery = w at *
  have begun := restoreBegun_beginRestore w.countRestore
  generalize w.countRestore.beginRestore = t at *
  have shadow : t.shadow = { v.shadow with swept := w.shadow.swept } :=
    begun.shadow.trans ((congrArg State.shadow keys.eq_update :))
  have freeze : w.freeze = s.freeze := by rw [keys.eq_update, noted.eq_update, recovers.eq_update]; rfl
  have seq : w.seq = s.seq := by rw [keys.eq_update, noted.eq_update, recovers.eq_update]; rfl
  have record (d : Nat) : (settle t).die d = u.die d := by
    rw [State.die_settle, State.die, shadow, State.die, noted.dies]
  refine does_of_effect hon (exec_recoverySeal [] s) step
    ⟨fun d hd => ?_, fun h0 => ?_, fun hr => ?_, fun hm => ?_, fun hm => ?_, ?_, ?_, ?_⟩
  · rw [record]
    exact recovers.here d hd
  · rw [settle_shadow, shadow]
    exact (noted.unsealed h0).trans (by rw [recovers.eq_update]; rfl)
  · rw [settle_shadow, shadow]
    exact noted.sealed hr
  · obtain ⟨thaw, holds⟩ := begun.eager (congrArg Freeze.mode freeze |>.trans hm)
    rw [settle_freeze, settle_seq]
    exact ⟨thaw, holds.trans (congrArg Seq.holds seq :)⟩
  · rw [settle_freeze, settle_seq]
    exact begun.onDemand fun h => hm ((congrArg Freeze.mode freeze).symm.trans h)
  · rw [settle_shadow, shadow]
    exact noted.firn.trans (by rw [recovers.eq_update]; rfl)
  · rw [settle_shadow, shadow]
    exact noted.fmap.trans (by rw [recovers.eq_update]; rfl)
  · have sealedDies : Keeps s v [.seq, .ten, .shadow, .freeze, .regs, .out] := by
      rw [noted.eq_update, recovers.eq_update]
      exact keeps_setShadow (keeps_setShadow (Keeps.fresh s _) (by simp) _) (by simp) _
    have counted : Keeps s w.countRestore [.seq, .ten, .shadow, .freeze, .regs, .out] :=
      keeps_setFreeze (t := { w with seq := w.countRestore.seq })
        (keeps_setSeq (Keeps.trans sealedDies keys.keeps) (by simp) _) (by simp) _
    have out : t.out = [] := by
      refine begun.out.trans (?_ : w.out = [])
      rw [keys.eq_update, noted.eq_update, recovers.eq_update]; rfl
    exact Keeps.of_out_nil (Keeps.settle (Keeps.trans counted begun.keeps)) ((settle_out t).trans out) (by simp)

end

end Sys2Proof.Machine
end

section
/-! PROOFS. The thaw settles intents, resolves every home flake and writes the recovery seal (O44). -/
namespace Sys2Proof.Machine

open Sys2Proof.Safety

/-- Settles O44: a standing intent is taken and its pages are gone; a flake is resolved by the table on what the die's map
says of it, or lost with its map; and each die's seal is replaced in turn. -/
theorem thawResolvesEveryFlake : Obligations.ThawResolvesEveryFlake := by
  intro s die lun b m a n bits sl i bad retried hon hdie
  refine ⟨fun hb h0 hst hl => ⟨fun hbits => ?_, fun hroom erased hfail => ?_⟩,
    fun hst hthaw hworks hwaits hrec hsl hi hlost hm hread => ?_,
    fun hst hthaw hworks hwaits hrec l hl => ?_, fun hst hthaw hdies => ⟨fun torn htorn hrec => ?_, ?_⟩⟩
  · exact does_intentReerase_free hon hb h0 hst hl hbits
  · exact does_intentReerase_retired hon hb h0 hst hl hroom hfail
  · refine does_mono (does_mapRestoreDone_image hon ⟨hst, hthaw, hworks, hwaits⟩ hsl hi hlost hm hread)
      fun t ⟨resolved, others, restored, keeps⟩ => ?_
    have trimmed (h : s.fresh.ResolvesTo die m (look fTrimmed i.firn m) (look 0 i.fmap m) (fTrimmed, 0)) :
        t.firn m = fTrimmed ∧ t.fmapOf m = 0 := by
      obtain ⟨firn, fmap, -⟩ := resolved _ h (fun _ => rfl) (.inr rfl)
      exact ⟨firn, fmap⟩
    refine ⟨fun hfree => trimmed (State.resolvesTo_of_free hfree),
      fun hten hmode => trimmed (State.resolvesTo_of_volatile hten hmode), fun hten hmode hclean ha h0 => ?_,
      fun hten hmode hpoisoned => ?_, others, restored, keeps⟩
    · obtain ⟨firn, fmap, -⟩ := resolved (fUnrestored, a)
        (by rw [hclean, ha]; exact State.resolvesTo_of_clean hten hmode hrec h0)
        (fun h : fUnrestored = fPoisoned => absurd h (by decide))
        (.inl (by rw [hclean]; decide))
      exact ⟨firn, fmap⟩
    · obtain ⟨firn, -, listed⟩ := resolved (fPoisoned, 0)
        (by rw [hpoisoned]; exact State.resolvesTo_of_poisoned hten hmode) (fun _ => rfl)
        (.inl (by rw [hpoisoned]; decide))
      exact ⟨firn, listed rfl⟩
  · exact does_mapRestoreDone_lost hon ⟨hst, hthaw, hworks, hwaits⟩ hrec hl
  · exact does_recoverySeal_torn hon (State.mayRecover_of hst hthaw hdies) htorn hrec
  · refine does_mono (does_recoverySeal_whole hon (State.mayRecover_of hst hthaw hdies))
      fun t ⟨recovered, unsealed, counted, eager, onDemand, firn, fmap, keeps⟩ => ?_
    refine ⟨fun d hd => ⟨(recovered d hd).freezeSeal, (recovered d hd).openSince⟩,
      fun h0 => ⟨unsealed h0, fun d hd => (recovered d hd).unsealed h0⟩, fun hrec => ?_, eager, onDemand, firn, fmap, keeps⟩
    obtain ⟨counter, epoch, sealedAll⟩ := counted hrec
    exact ⟨counter, epoch, sealedAll, fun d hd => (recovered d hd).sealed hrec⟩

end Sys2Proof.Machine
end

section
/-! PROOFS. A fill writes into a rebuild (O45). A rank that failed its training is rebuilt onto a spare while the thaw runs
(05 R119, 10 R249, R261): the restore engine writes the rank's lines to the target, and the redirection entry lists each
of them that lies above the watermark (`State.setCell`). The entries are a part of the state that O45 has unchanged. -/
namespace Sys2Proof.Machine

open Sys2Proof.Safety

/-- Lines of a logical rank have been written ahead of the watermark of its rebuild. -/
def State.wroteEarly (s : State) (r : Nat) : Prop := ∃ d, s.redirectOf r = some d ∧ d.early ≠ []

section
variable {s : State} {r : Nat}

theorem State.wroteEarly.of_sparing {t : State} (h : s.wroteEarly r) (ht : t.sparing = s.sparing) : t.wroteEarly r := by
  unfold State.wroteEarly State.redirectOf at h ⊢
  rwa [ht]

/-- The commands of an access move banks and a queue alone. -/
theorem State.touchBank_eq (s : State) (r off : Nat) : ∃ banks chans,
    s.touchBank r off = { s with dram := { s.dram with banks := banks, chans := chans } } := by
  have opened (sc k b : Nat) (low : Bool) (x : Bank) : ∃ banks chans,
      (if low && (s.setBank sc k b x).throttled (dieOfSub sc) then
        (s.setBank sc k b x).setChan sc { (s.setBank sc k b x).chan sc with actAt := some (s.setBank sc k b x).aon.now }
      else s.setBank sc k b x) = { s with dram := { s.dram with banks := banks, chans := chans } } := by
    split <;> exact ⟨_, _, rfl⟩
  unfold State.touchBank
  dsimp only
  split
  · exact ⟨_, _, rfl⟩
  · obtain ⟨banks, chans, h⟩ : ∃ banks chans, s.activateAt (subOf r off) (r % 2) (s.coord r off).num (s.coord r off).row
        true = { s with dram := { s.dram with banks := banks, chans := chans } } := opened _ _ _ true _
    rw [h]
    exact ⟨_, _, rfl⟩

theorem State.sparing_touchBank (s : State) (r off : Nat) : (s.touchBank r off).sparing = s.sparing := by
  obtain ⟨banks, chans, touched⟩ := s.touchBank_eq r off
  rw [touched]

/-- A cell written to a line leaves the redirections, or its rebuild lists the line. -/
theorem State.redirect_setCell (s : State) (o : Nat) (c : LineCell) : (s.setCell o c).sparing = s.sparing ∨
    ∃ d : Redirect, (s.setCell o c).sparing.redirect =
      insertK s.sparing.redirect (s.place o).rank { d with early := addOnce ((s.place o).off / 64) d.early } := by
  unfold State.setCell
  dsimp only
  split
  · exact .inl rfl
  · split
    · split_ifs
      · exact .inl rfl
      · exact .inl rfl
      · exact .inr ⟨_, rfl⟩
      · exact .inl rfl
      · exact .inl rfl
    · exact .inl rfl

theorem addOnce_ne_nil (x : Nat) (l : List Nat) : addOnce x l ≠ [] := List.ne_nil_of_mem (mem_addOnce_self x l)

theorem State.wroteEarly.setCell (h : s.wroteEarly r) (o : Nat) (c : LineCell) : (s.setCell o c).wroteEarly r := by
  rcases s.redirect_setCell o c with same | ⟨d, listed⟩
  · exact h.of_sparing same
  · unfold State.wroteEarly State.redirectOf at h ⊢
    rw [listed]
    by_cases hr : r = (s.place o).rank
    · subst hr
      exact ⟨_, look?_insertK_same .., addOnce_ne_nil _ _⟩
    · rwa [look?_insertK_ne _ _ hr]

theorem State.wroteEarly.setLine (h : s.wroteEarly r) (o : Nat) (c : LineCell) : (s.setLine o c).wroteEarly r := by
  unfold State.setLine
  split
  · exact h
  · exact (h.of_sparing (s.sparing_touchBank _ _)).setCell o c

/-- A line above the watermark of a rebuild is listed with its write. -/
theorem State.wroteEarly_setLine {o : Nat} {d : Redirect} (hlost : s.isLost (s.place o).rank = false)
    (hd : s.redirectOf (s.place o).rank = some d) (hrun : d.complete = false) (hre : d.rebuild = true)
    (hw : d.watermark ≤ (s.place o).off) (c : LineCell) : (s.setLine o c).wroteEarly (s.place o).rank := by
  have written (t : State) (hp : t.place o = s.place o) (hl : t.isLost (s.place o).rank = false)
      (ht : t.redirectOf (s.place o).rank = some d) : (t.setCell o c).wroteEarly (s.place o).rank := by
    refine ⟨{ d with early := addOnce ((s.place o).off / 64) d.early }, ?_, addOnce_ne_nil _ _⟩
    simp only [State.setCell, hp, hl, ht, hrun, hre, Nat.not_lt.2 hw, Bool.false_eq_true, if_false, if_true]
    exact look?_insertK_same ..
  obtain ⟨banks, chans, touched⟩ := s.touchBank_eq (s.physOf o) (s.place o).off
  rw [State.setLine, if_neg (by rw [hlost]; decide), touched]
  exact written _ rfl hlost hd

/-- The zeros written to a flake with its first line above the watermark of a rebuild. -/
theorem State.wroteEarly_zeroFlake {m : Nat} {d : Redirect} (hlost : s.isLost (s.place (m * flakeBytes)).rank = false)
    (hd : s.redirectOf (s.place (m * flakeBytes)).rank = some d) (hrun : d.complete = false) (hre : d.rebuild = true)
    (hw : d.watermark ≤ (s.place (m * flakeBytes)).off) :
    (s.zeroFlake m).wroteEarly (s.place (m * flakeBytes)).rank := by
  have kept (l : List Nat) (t : State) (ht : t.wroteEarly (s.place (m * flakeBytes)).rank) :
      (l.foldl (fun t o => t.setLine o (.data 0 (t.material o))) t).wroteEarly (s.place (m * flakeBytes)).rank := by
    induction l generalizing t with
    | nil => exact ht
    | cons o l ih => exact ih _ (ht.setLine o _)
  have lines : flakeLines m = m * flakeBytes :: (List.range 255).map fun i => m * flakeBytes + 64 * (i + 1) := by
    rw [flakeLines, show (256 : Nat) = 255 + 1 from rfl, List.range_succ_eq_map, List.map_cons, List.map_map, Nat.mul_zero,
      Nat.add_zero]
    exact congrArg _ (List.map_congr_left fun _ _ => rfl)
  rw [State.zeroFlake, lines, List.foldl_cons]
  exact kept _ _ (State.wroteEarly_setLine hlost hd hrun hre hw _)

end

/-! The end of a fill leaves the redirections. -/

section
variable (s : State)

theorem State.sparing_restartPatrol (d q : Nat) : (s.restartPatrol d q).sparing = s.sparing := by
  unfold State.restartPatrol
  split <;> rfl

theorem State.sparing_remarked (j : Nat) : (s.remarked j).sparing = s.sparing :=
  foldl_leaves (p := fun t : State => t.sparing) (fun t _ => t.sparing_restartPatrol _ _) _ _

theorem State.sparing_settleMark (j : Nat) : (s.settleMark j).sparing = s.sparing := by
  unfold State.settleMark
  dsimp only
  split
  · exact State.sparing_remarked _ _
  · rfl

/-- A flake for which no request waits has none to be served. -/
theorem State.serveWaiting_quiet {m : Nat} (h : s.freeze.fetchWait.filter (fun q => decide (flakeOf q.dpa = m)) = []) :
    s.serveWaiting m = { s with freeze := { s.freeze with
      fetchWait := s.freeze.fetchWait.filter fun q => !decide (flakeOf q.dpa = m) } } := by
  unfold State.serveWaiting
  dsimp only
  rw [h]
  rfl

theorem State.freeze_setLine (o : Nat) (c : LineCell) : (s.setLine o c).freeze = s.freeze := by
  have written (t : State) : (t.setCell o c).freeze = t.freeze := by
    unfold State.setCell
    dsimp only
    split
    · rfl
    · split
      · split_ifs <;> rfl
      · rfl
  unfold State.setLine
  split
  · rfl
  · obtain ⟨banks, chans, touched⟩ := s.touchBank_eq (s.physOf o) (s.place o).off
    rw [touched]
    exact written _

theorem State.freeze_zeroFlake (m : Nat) : (s.zeroFlake m).freeze = s.freeze :=
  foldl_leaves (p := fun t : State => t.freeze) (fun t o => t.freeze_setLine o _) _ _

variable {s}

/-- What the fill of a TRIMMED flake does to the redirections its zeros do. -/
theorem State.sparing_fillOne {m : Nat} (hfirn : s.firn m = fTrimmed)
    (hquiet : s.freeze.fetchWait.filter (fun q => decide (flakeOf q.dpa = m)) = []) :
    (s.fillOne m).sparing = (s.zeroFlake m).sparing := by
  unfold State.fillOne
  dsimp only
  rw [if_neg (by rw [hfirn]; decide), State.sparing_settleMark,
    State.serveWaiting_quiet _ (by rw [State.freeze_zeroFlake]; exact hquiet)]

end

/-- The rebuild of a rank that failed its training, at its first line. -/
def rankRebuild : Redirect :=
  { carrier := 2, source := 0, watermark := 0, complete := false, rebuild := true, reason := 4, queued := false
    order := 1, early := [] }

/-- An eager thaw while rank 0, the one data rank of die 0, is rebuilt onto spare 2; every flake is TRIMMED. -/
def thawOverRebuild : State :=
  { State.reset with
    seq := { State.reset.seq with st := 11 }
    dram := { State.reset.dram with
      quads := [(0, { noQuad with st := 0, trained := true })]
      ranks := [(0, { noRank with train := 3, st := 7, density := 1, stack := 1 }),
        (2, { noRank with train := 1, st := 4, trained := true, density := 1, stack := 1 })]
      spareMask := [(0, 2 ^ 2)], interleave := 0 }
    freeze := { State.reset.freeze with thaw := 3, recovery := 1, markDflt := false }
    sparing := { State.reset.sparing with redirect := [(0, rankRebuild)] } }

theorem flakeAwake_of_quads {s : State} (h : ∀ k, (look noQuad s.dram.quads k).st ≠ 3) (m : Nat) :
    s.flakeAwake m = true := by
  simp [State.flakeAwake, State.quad, h]

/-- No quadrant of that state hibernates. -/
theorem thawOverRebuild_awake (m : Nat) : thawOverRebuild.flakeAwake m = true := by
  refine flakeAwake_of_quads (fun k => ?_) m
  by_cases hk : k = 0
  · subst hk; decide
  · simp [thawOverRebuild, look, look?, hk, noQuad]

/-- What lets RESTORE_FILL fill flake 0 of that state. -/
theorem thawOverRebuild_fills : thawOverRebuild.restores 0 = true ∧ thawOverRebuild.homeDie 0 = 0 ∧
    thawOverRebuild.mark (thawOverRebuild.driftOf 0) = false ∧ thawOverRebuild.restoreTurn 0 = true ∧
    thawOverRebuild.nextDrift 0 = some (thawOverRebuild.driftOf 0) := by decide +kernel

theorem exec_restoreFill (die m : Nat) (s : State) : exec (.restoreFill die m) s = execRestoreFill die m s := rfl

/-- The fill of flake 0 there. -/
theorem thawOverRebuild_restoreFill {t : State} (h : exec (.restoreFill 0 0) thawOverRebuild = .next t) :
    t = settle (thawOverRebuild.fillOne 0) := by
  obtain ⟨hrest, hhome, hmark, hturn, hnext⟩ := thawOverRebuild_fills
  have looked : thawOverRebuild.restoreLook 0 0 = thawOverRebuild := by
    unfold State.restoreLook
    split
    · exact if_pos (by decide)
    · rfl
  rw [exec_restoreFill, execRestoreFill, act_on _ rfl, Host.Outcome.next.injEq] at h
  rw [← h]
  refine congrArg settle ?_
  dsimp only
  rw [show thawOverRebuild.fresh = thawOverRebuild from rfl, looked]
  exact if_pos ⟨hrest, hhome, hmark, .inl rfl, rfl, thawOverRebuild_awake 0, hturn, .inr hnext⟩

/-- Refutes O45: the fill of a TRIMMED flake whose rank is being rebuilt moves the rank's redirection entry. -/
theorem not_thawRestoresDram : ¬ Obligations.ThawRestoresDram := by
  intro h
  obtain ⟨hrest, hhome, hmark, hturn, hnext⟩ := thawOverRebuild_fills
  obtain ⟨-, -, fills, -⟩ := h thawOverRebuild 0 0 0 rfl (by decide) (by decide)
  obtain ⟨zeros, -⟩ := fills hrest hhome hmark rfl (thawOverRebuild_awake 0) hturn hnext rfl
  obtain ⟨t, ht, -, -, -, keeps⟩ := zeros rfl
  have moved : t.sparing = (thawOverRebuild.zeroFlake 0).sparing := by
    rw [thawOverRebuild_restoreFill ht, settle_sparing, State.sparing_fillOne rfl rfl]
  have same : t.sparing = thawOverRebuild.sparing := keeps .sparing (by decide)
  have early : thawOverRebuild.wroteEarly (thawOverRebuild.place (0 * flakeBytes)).rank := by
    refine State.wroteEarly.of_sparing (State.wroteEarly_zeroFlake (d := rankRebuild) ?_ ?_ rfl rfl ?_)
      (same.symm.trans moved)
    · decide +kernel
    · decide +kernel
    · exact Nat.zero_le _
  have none_early : ¬ thawOverRebuild.wroteEarly 0 := by
    rintro ⟨d, hd, hne⟩
    cases hd
    exact hne rfl
  exact none_early (by rwa [show (thawOverRebuild.place (0 * flakeBytes)).rank = 0 by decide +kernel] at early)

end Sys2Proof.Machine
end

section
/-! PROOFS. A die drains and seals in a freeze (09 R220, R225, Tables 09.1 and 09.3): what FREEZE_SNOW_DRAINED,
FREEZE_SEAL, INPUT_POWER_RETURN and FREEZE_HOLD_EXIT do, clause by clause of O42. -/
namespace Sys2Proof.Machine

open Sys2Proof.Safety

/-! Lists without repetition. -/

theorem addOnce_of_not_elem {x : Nat} {l : List Nat} (h : l.elem x = false) : addOnce x l = l ++ [x] := by
  rw [addOnce, if_neg (by rw [h]; decide)]

theorem mem_addOnce_iff {x y : Nat} {l : List Nat} : x ∈ addOnce y l ↔ x = y ∨ x ∈ l := by
  constructor
  · unfold addOnce
    split
    · exact .inr
    · intro h
      exact (List.mem_append.1 h).elim .inr fun h => .inl (List.mem_singleton.1 h)
  · rintro (rfl | h)
    · exact mem_addOnce_self x l
    · exact mem_addOnce_of_mem h y

theorem mem_foldl_addOnce_iff {l acc : List Nat} {x : Nat} :
    x ∈ l.foldl (fun l m => addOnce m l) acc ↔ x ∈ acc ∨ x ∈ l := by
  induction l generalizing acc with
  | nil => simp
  | cons a l ih => rw [List.foldl_cons, ih, mem_addOnce_iff, List.mem_cons, or_assoc, or_left_comm]

section
variable {s : State} {die : Nat}

/-! Step 8: the map of a drained die is programmed. -/

/-- A die's map begins to be saved: these pages are programmed, none has changed since, and of the rest of the state only
the die's own record moves. -/
structure SavesMap (s t : State) (d : Nat) (pages : List Nat) : Prop where
  eq_update : t = s.setDies t.shadow.dies
  others : ∀ e, e ≠ d → t.die e = s.die e
  mapPages : (t.die d).mapPages = pages
  mapChanged : (t.die d).mapChanged = []
  phase : (t.die d).phase ≠ 0

/-- A die's record with these map pages about to be programmed. -/
def State.mapRecord (s : State) (d : Nat) (pages : List Nat) : DieShadow :=
  { s.die d with phase := 1, mapPages := pages, jobs := pages.map (s.mapJob d) }

theorem State.startMaps_eq (s : State) (d : Nat) (pages : List Nat) :
    s.startMaps d pages = (s.setDie d (s.mapRecord d pages)).advanceMaps d := rfl

theorem savesMap_startMaps (s : State) (d : Nat) {pages : List Nat} (h : (s.die d).mapChanged = []) :
    SavesMap s (s.startMaps d pages) d pages := by
  obtain ⟨eq_update, others, same⟩ := mapWork_advanceMaps (d := d) (s.setDie d (s.mapRecord d pages))
  rw [State.die_setDie, if_pos rfl] at same
  rw [State.startMaps_eq]
  refine ⟨eq_update.trans (s.setDies_setDie ..), fun e he => (others e he).trans ?_, same.mapPages,
    same.mapChanged.trans h, same.phase (Nat.succ_ne_zero 0)⟩
  rw [State.die_setDie, if_neg he]

/-- A die's record with no map page changed since the last save. -/
def DieShadow.mapClean (x : DieShadow) : DieShadow := { x with mapChanged := [], heatChanged := [] }

theorem State.saveMap_eq (s : State) (d : Nat) : s.saveMap d = (s.setDie d (s.die d).mapClean).startMaps d
    ((s.die d).heatChanged.foldl (fun l p => addOnce p l) (s.die d).mapChanged) := rfl

/-- Of the changed map pages, and those with changed heat counters (09 Table 09.1 step 8). -/
theorem savesMap_saveMap (s : State) (d : Nat) :
    SavesMap s (s.saveMap d) d ((s.die d).heatChanged.foldl (fun l p => addOnce p l) (s.die d).mapChanged) := by
  have cleared : ((s.setDie d (s.die d).mapClean).die d).mapChanged = [] := by rw [State.die_setDie, if_pos rfl]; rfl
  rw [State.saveMap_eq]
  obtain ⟨eq_update, others, mapPages, mapChanged, phase⟩ := savesMap_startMaps _ d cleared
  refine ⟨eq_update.trans (s.setDies_setDie ..), fun e he => (others e he).trans ?_, mapPages, mapChanged, phase⟩
  rw [State.die_setDie, if_neg he]

/-- The snow of a die has drained: its firn cache is written back, and its map is about to be saved. -/
def State.snowDrained (s : State) (d : Nat) : State :=
  { s with
    shadow := { s.shadow with cache := put [] s.shadow.cache d [] }
    freeze := { s.freeze with drained := addOnce d s.freeze.drained } }

theorem keeps_snowDrained (s : State) (d : Nat) : Keeps s (s.fresh.snowDrained d) [.shadow, .freeze] := by
  intro p hp
  have kept := Keeps.fresh s [.shadow, .freeze] p hp
  cases p with
  | shadow | freeze => simp at hp
  | _ => exact kept

/-! Neither the choice of a freeze's next flake nor anything else reads what was put out before. -/

theorem State.homeIn_fresh (s : State) (d : Nat) (p : Nat → Bool) : s.fresh.homeIn d p = s.homeIn d p := rfl

theorem State.inPersistent_fresh (s : State) (m : Nat) : s.fresh.inPersistent m = s.inPersistent m := rfl

theorem State.drainKey_fresh (s : State) (m : Nat) : s.fresh.drainKey m = s.drainKey m := rfl

theorem State.byCode_fresh (s : State) (d : Nat) (l codes : List Nat) :
    s.fresh.byCode d l codes = s.byCode d l codes := by
  induction codes with
  | nil => rfl
  | cons c codes ih =>
    rw [State.byCode, State.byCode, ih]
    rfl

theorem State.pickFreeze_fresh (s : State) (d : Nat) : s.fresh.pickFreeze d = s.pickFreeze d := by
  simp only [State.pickFreeze, State.homeIn_fresh, State.inPersistent_fresh, State.drainKey_fresh, State.byCode_fresh]
  rfl

theorem exec_freezeSnowDrained (die : Nat) (s : State) :
    exec (.freezeSnowDrained die) s = execFreezeSnowDrained die s := rfl

theorem does_freezeSnowDrained {P : State → Prop} (hon : s.aon.on = true) (hact : s.freeze.active = true)
    (hdie : s.freezeDies.elem die = true) (hnot : s.freeze.drained.elem die = false) (hpick : s.pickFreeze die = none)
    (hpumps : (s.die die).pumps = []) (hunits : (s.die die).units = [])
    (h : P (settle ((s.fresh.snowDrained die).saveMap die))) : Does (.freezeSnowDrained die) s P := by
  have none_left : (s.fresh.pickFreeze die).isNone = true := by rw [State.pickFreeze_fresh, hpick]; rfl
  exact does_of_effect hon (exec_freezeSnowDrained die s) (if_pos ⟨hact, hdie, hnot, none_left, hpumps, hunits⟩) h

/-- What FREEZE_SNOW_DRAINED says of the state where it ends. -/
theorem SavesMap.settled {t : State} {pages : List Nat} (h : SavesMap (s.fresh.snowDrained die) t die pages)
    (hnot : s.freeze.drained.elem die = false) :
    (settle t).freeze = { s.freeze with drained := s.freeze.drained ++ [die] } ∧
      look [] (settle t).shadow.cache die = [] ∧ ((settle t).die die).mapPages = pages ∧
      ((settle t).die die).mapChanged = [] ∧ ((settle t).die die).phase ≠ 0 ∧
      (∀ d, d ≠ die → (settle t).die d = s.die d) ∧ (settle t).shadow.firn = s.shadow.firn ∧
      (settle t).shadow.fmap = s.shadow.fmap ∧ Keeps s (settle t) [.shadow, .freeze] := by
  obtain ⟨eq_update, others, mapPages, mapChanged, phase⟩ := h
  have freeze : t.freeze = { s.freeze with drained := addOnce die s.freeze.drained } := by rw [eq_update]; rfl
  have cache : t.shadow.cache = put [] s.shadow.cache die [] := by rw [eq_update]; rfl
  have firn : t.shadow.firn = s.shadow.firn := by rw [eq_update]; rfl
  have fmap : t.shadow.fmap = s.shadow.fmap := by rw [eq_update]; rfl
  have keeps : Keeps s t [.shadow, .freeze] := by
    rw [eq_update]
    exact keeps_setShadow (keeps_snowDrained s die) (by decide) _
  simp only [State.die_settle]
  rw [settle_freeze, settle_shadow, freeze, addOnce_of_not_elem hnot]
  refine ⟨rfl, ?_, mapPages, mapChanged, phase, others, firn, fmap, Keeps.settle keeps⟩
  dsimp only
  rw [cache, look_put_same]

/-! Step 9: the die's seal. -/

theorem State.maySealFreeze_of (hact : s.freeze.active = true) (hseals : s.freezeSeals = true)
    (hdrained : s.freeze.drained.elem die = true) (hnot : s.freeze.sealedBy.elem die = false)
    (hphase : (s.die die).phase = 4) : s.maySealFreeze die = true := by
  simp only [State.maySealFreeze, hact, hseals, hdrained, hnot, hphase, decide_true, Bool.not_false, Bool.and_self]

theorem exec_freezeSeal (die : Nat) (whole : Bool) (s : State) :
    exec (.freezeSeal die whole) s = execFreezeSeal die whole s := rfl

theorem does_freezeSeal {P : State → Prop} {whole : Bool} (hon : s.aon.on = true) (hmay : s.maySealFreeze die = true)
    (h : P (settle (s.fresh.freezeSeal die whole))) : Does (.freezeSeal die whole) s P :=
  does_of_effect hon (exec_freezeSeal die whole s) (if_pos hmay) h

/-- A seal that is cut short is in its slot and invalid; nothing else moves. -/
theorem settled_freezeSeal_torn (s : State) (die : Nat) :
    let t := settle (s.fresh.freezeSeal die false)
    (∃ sl, t.die die = { s.die die with freezeSeal := some sl } ∧ sl.whole = false) ∧
      (∀ d, d ≠ die → t.die d = s.die d) ∧ t.shadow.firn = s.shadow.firn ∧ Keeps s t [.shadow] := by
  have torn : s.fresh.freezeSeal die false =
      s.fresh.setDie die { s.die die with freezeSeal := some { s.freezeSealOf die with whole := false } } := rfl
  dsimp only
  rw [torn]
  refine ⟨⟨{ s.freezeSealOf die with whole := false }, ?_, rfl⟩, fun d hd => ?_, ?_,
    Keeps.settle (keeps_setDie (Keeps.fresh s _) (by decide) _ _)⟩
  · rw [State.die_settle, State.die_setDie, if_pos rfl]
  · rw [State.die_settle, State.die_setDie, if_neg hd]
    rfl
  · rw [settle_shadow]
    rfl

/-- A die's record with the whole seal of the freeze written. -/
def State.sealedRecord (s : State) (d : Nat) : DieShadow :=
  { s.die d with freezeSeal := some (s.freezeSealOf d), phase := 0, mapPages := [] }

/-- A die has sealed, and releases SEQSYNC (09 Table 09.1 step 9). -/
def State.sealedOff (s : State) (d : Nat) : State :=
  { s.setDie d (s.sealedRecord d) with
    freeze := { s.freeze with sealedBy := addOnce d s.freeze.sealedBy }
    seq := { s.seq with holds := without d s.seq.holds } }

theorem State.freezeSeal_whole (s : State) (d : Nat) : s.freezeSeal d true = s.sealedOff d := rfl

theorem keeps_sealedOff (s : State) (d : Nat) : Keeps s (s.fresh.sealedOff d) [.shadow, .freeze, .seq] := by
  intro p hp
  have kept := Keeps.fresh s [.shadow, .freeze, .seq] p hp
  cases p with
  | shadow | freeze | seq => simp at hp
  | _ => exact kept

/-- The sealed die, the rest of the dies, and the frame. -/
theorem settled_freezeSeal_whole (hnot : s.freeze.sealedBy.elem die = false) :
    let t := settle (s.fresh.freezeSeal die true)
    t.die die = s.sealedRecord die ∧
      (∀ d, d ≠ die → t.die d = s.die d) ∧ t.freeze = { s.freeze with sealedBy := s.freeze.sealedBy ++ [die] } ∧
      t.seq = { s.seq with holds := without die s.seq.holds } ∧ t.shadow.firn = s.shadow.firn ∧
      t.shadow.fmap = s.shadow.fmap ∧ Keeps s t [.shadow, .freeze, .seq] := by
  dsimp only
  rw [State.freezeSeal_whole, settle_shadow, settle_freeze, ← addOnce_of_not_elem hnot]
  refine ⟨?_, fun d hd => ?_, rfl, settle_seq _, rfl, rfl, Keeps.settle (keeps_sealedOff s die)⟩
  · rw [State.die_settle]
    exact (State.die_setDie s die die _).trans (if_pos rfl)
  · rw [State.die_settle]
    exact (State.die_setDie s die d _).trans (if_neg hd)

/-! Input power. -/

theorem exec_inputPowerReturn (s : State) : exec .inputPowerReturn s = execInputPowerReturn s := rfl

theorem does_inputPowerReturn (hon : s.aon.on = true) : Does .inputPowerReturn s fun t =>
    t.aon = { s.aon with pwrfailLow := false, senseLow := false, holdRunning := decide (s.seq.st = 14) } ∧
      Keeps s t [.aon] :=
  does_of_effect hon (exec_inputPowerReturn s) rfl
    ⟨settle_aon _, Keeps.settle (keeps_setAon (Keeps.fresh s _) (by decide) _)⟩

theorem exec_freezeHoldExit (s : State) : exec .freezeHoldExit s = execFreezeHoldExit s := rfl

theorem does_freezeHoldExit (hon : s.aon.on = true) (hst : s.seq.st = 14) (hpwr : s.aon.pwrfailLow = false)
    (hvin : s.aon.senseLow = false) (hhold : s.aon.holdRunning = true) (hrel : s.seq.release = [])
    (hwake : s.reg 0x7101 2 = 1 → s.aon.wakeStored ≠ []) : Does .freezeHoldExit s fun t =>
      t.seq = { s.seq with holds := [] } ∧ t.aon = { s.aon with holdRunning := false } ∧ Keeps s t [.aon, .seq] := by
  refine does_of_effect hon (exec_freezeHoldExit s) (if_pos ⟨hst, hpwr, hvin, hhold, hrel, hwake⟩)
    ⟨settle_seq _, settle_aon _, Keeps.settle ?_⟩
  exact keeps_setAon (t := { s.fresh with seq := { s.seq with holds := [] } })
    (keeps_setSeq (Keeps.fresh s _) (by decide) _) (by decide) _

end

end Sys2Proof.Machine
end

section
/-! PROOFS. The end of a freeze (09 Table 09.1 step 10): the final record and the queues of the recorders are written
out, the learned record is kept, and quadrants and rails are released. -/
namespace Sys2Proof.Machine

open Sys2Proof.Safety

/-! What the writing of records may change. -/

/-- From the first state to the second records have been written and announced. -/
structure WritesRecords (s t : State) : Prop where
  keeps : Keeps s t [.hosts, .bus, .wire, .rings, .regs, .out]
  reg : ∀ i k, k < 256 → ¬ (0x1210 ≤ i ∧ i ≤ 0x1217) → t.reg i k = s.reg i k

section
variable {s t u : State}

theorem WritesRecords.refl (s : State) : WritesRecords s s := ⟨Keeps.mono (Keeps.refl s) (by simp), fun _ _ _ _ => rfl⟩

theorem WritesRecords.trans (h : WritesRecords s t) (h' : WritesRecords t u) : WritesRecords s u :=
  ⟨Keeps.trans h.keeps h'.keeps, fun i k hk hi => (h'.reg i k hk hi).trans (h.reg i k hk hi)⟩

theorem WritesRecords.foldl {α : Type} {f : State → α → State} {l : List α} (hf : ∀ t, ∀ a ∈ l, WritesRecords t (f t a))
    (s : State) : WritesRecords s (l.foldl f s) := by
  induction l generalizing s with
  | nil => exact .refl s
  | cons a l ih =>
    exact (hf s a List.mem_cons_self).trans (ih (fun t b hb => hf t b (List.mem_cons_of_mem a hb)) _)

theorem writesRecords_emit (s : State) (o : Output) : WritesRecords s (s.emit o) :=
  ⟨keeps_emit (WritesRecords.refl s).keeps (by simp) o, fun _ _ _ _ => rfl⟩

theorem writesRecords_setLink (s : State) (port link : Nat) (x : HLink) : WritesRecords s (s.setLink port link x) :=
  ⟨keeps_setLink (WritesRecords.refl s).keeps (by simp) port link x, fun _ _ _ _ => rfl⟩

theorem writesRecords_setWire (s : State) (x : Wire) : WritesRecords s { s with wire := x } :=
  ⟨keeps_setWire (WritesRecords.refl s).keeps (by simp) x, fun _ _ _ _ => rfl⟩

theorem writesRecords_setBus (s : State) (x : Bus) : WritesRecords s { s with bus := x } := by
  refine ⟨fun p hp => ?_, fun _ _ _ _ => rfl⟩
  have kept := (WritesRecords.refl s).keeps p hp
  cases p with
  | bus => simp at hp
  | _ => exact kept

theorem writesRecords_setRecorder (s : State) (d : Nat) (r : Recorder) : WritesRecords s (s.setRecorder d r) := by
  refine ⟨fun p hp => ?_, fun _ _ _ _ => rfl⟩
  have kept := (WritesRecords.refl s).keeps p hp
  cases p with
  | rings => simp at hp
  | _ => exact kept

/-- The counter of records written, 0x1210+d.03. -/
theorem writesRecords_inc (s : State) {d : Nat} (hd : d < 8) : WritesRecords s (s.inc (0x1210 + d) 3) := by
  refine ⟨keeps_inc (WritesRecords.refl s).keeps (by simp) _ _, fun i k hk hi => State.reg_inc_ne s ?_⟩
  exact okey_ne hk (by decide) (.inl fun h => hi (by omega))

theorem writesRecords_signalLog (s : State) (port link sev : Nat) : WritesRecords s (s.signalLog port link sev) := by
  unfold State.signalLog
  dsimp only
  split
  · exact writesRecords_emit s _
  · exact .refl s

theorem writesRecords_logRecord (s : State) (sev : Nat) (kind : EventKind) (ws : List LWord) :
    WritesRecords s (s.logRecord sev kind ws) :=
  .foldl (fun t p _ => (writesRecords_setLink t p.1 p.2 _).trans (writesRecords_signalLog _ p.1 p.2 sev)) s

theorem writesRecords_sendFrame (s : State) (f : TxFrame) : WritesRecords s (s.sendFrame f) := by
  unfold State.sendFrame
  split
  · exact writesRecords_setBus s _
  · exact .refl s

theorem writesRecords_attention (s : State) (cause die seq sev : Nat) :
    WritesRecords s (s.attention cause die seq sev) := by
  unfold State.attention
  dsimp only
  split_ifs
  · exact (writesRecords_sendFrame s _).trans (writesRecords_setBus _ _)
  · exact .refl s
  · exact (writesRecords_sendFrame s _).trans (writesRecords_setBus _ _)
  · exact .refl s

theorem writesRecords_hostNotify (s : State) (sev die : Nat) : WritesRecords s (s.hostNotify sev die) := by
  have attn : WritesRecords s s.setAttn := writesRecords_setWire s _
  unfold State.hostNotify
  dsimp only
  split
  · exact attn.trans (writesRecords_setWire _ _)
  · split
    · exact ((attn.trans (writesRecords_setWire _ _)).trans (writesRecords_setWire _ _)).trans (writesRecords_emit _ _)
    · exact attn.trans (writesRecords_setWire _ _)

theorem writesRecords_writeRecord (s : State) {d : Nat} (hd : d < 8) (x : Staged) :
    WritesRecords s (s.writeRecord d x) := by
  have written := (writesRecords_setRecorder s d ((s.recorder d).write x)).trans (writesRecords_inc _ hd)
  have announced (t : State) (seq : Nat) (ht : WritesRecords s t) :
      WritesRecords s (if t.reg 0x1101 7 ≤ x.sev then t.attention 2 d seq x.sev else t) := by
    split
    · exact ht.trans (writesRecords_attention t _ _ _ _)
    · exact ht
  have notified (t : State) (ht : WritesRecords s t) :
      WritesRecords s (if t.reg 0x7400 5 ≤ x.sev ∧ t.reg 0x7400 6 = 1 ∧ t.domainOn 0 7 = true then t.hostNotify x.sev d
        else t) := by
    split
    · exact ht.trans (writesRecords_hostNotify t _ _)
    · exact ht
  unfold State.writeRecord
  refine notified _ (announced _ _ ?_)
  split
  · split
    · exact written.trans (writesRecords_logRecord _ _ _ _)
    · exact written
  · exact written

theorem writesRecords_writeNext (s : State) {d : Nat} (hd : d < 8) : WritesRecords s (s.writeNext d) := by
  unfold State.writeNext
  dsimp only
  split
  · exact (writesRecords_setRecorder s d _).trans (writesRecords_writeRecord _ hd _)
  · split
    · exact .refl s
    · exact (writesRecords_setRecorder s d _).trans (writesRecords_writeRecord _ hd _)

theorem writesRecords_drainQueue (s : State) {d : Nat} (hd : d < 8) (k : Nat) : WritesRecords s (s.drainQueue d k) := by
  induction k generalizing s with
  | zero => exact .refl s
  | succ k ih =>
    unfold State.drainQueue
    split
    · exact (writesRecords_writeNext s hd).trans (ih _)
    · exact .refl s

/-! The dies that work are named by two objects that no record moves. -/

theorem State.dieOut_eq (hreg : t.reg 0x7100 3 = s.reg 0x7100 3) (hseq : t.seq.leadDead = s.seq.leadDead) (d : Nat) :
    t.dieOut d = s.dieOut d := by
  rw [State.dieOut, State.dieOut, hreg, hseq]

theorem State.workingDies_eq (hbuild : t.build = s.build) (hreg : t.reg 0x7100 3 = s.reg 0x7100 3)
    (hseq : t.seq.leadDead = s.seq.leadDead) : t.workingDies = s.workingDies := by
  have count : t.n = s.n := by rw [State.n, State.n, hbuild]
  rw [State.workingDies, State.workingDies, State.dieList, State.dieList, count]
  exact List.filter_congr fun d _ => congrArg _ (State.dieOut_eq hreg hseq d)

theorem State.lt_eight_of_mem_freezeDies {d : Nat} (h : d ∈ s.freezeDies) : d < 8 :=
  (State.mem_workingDies.1 (List.mem_filter.1 h).1).1.trans_le s.n_le_eight

end

/-! Quadrants are released. -/

/-- A quadrant that is left is released. -/
def State.restQuad (s : State) (d q : Nat) : State :=
  if 3 ≤ (s.quad d q).st then s else s.setQuad d q { s.quad d q with st := 5 }

/-- The quadrants of the dies are released, each with every quadrant of it. -/
def State.restQuads (s : State) (l : List Nat) : State := l.foldl (fun u d => u.releaseRest d) s

theorem State.releaseRest_eq (s : State) (d : Nat) :
    s.releaseRest d = (List.range 4).foldl (fun t q => t.restQuad d q) s := rfl

section
variable {s : State} {d q : Nat}

theorem State.quad_restQuad_self (s : State) (d q : Nat) : 3 ≤ ((s.restQuad d q).quad d q).st := by
  unfold State.restQuad
  split
  · assumption
  · rw [show (s.setQuad d q { s.quad d q with st := 5 }).quad d q = { s.quad d q with st := 5 } from look_put_same ..]
    exact Nat.le_add_left 3 2

/-- Whatever is released stays so. -/
theorem State.quad_restQuad_of_released {e p : Nat} (h : 3 ≤ (s.quad e p).st) (d q : Nat) :
    3 ≤ ((s.restQuad d q).quad e p).st := by
  by_cases hk : 4 * e + p = 4 * d + q
  · have same (t : State) : t.quad e p = t.quad d q := by rw [State.quad, State.quad, hk]
    rw [same]
    exact s.quad_restQuad_self d q
  · unfold State.restQuad
    split
    · exact h
    · rwa [show (s.setQuad d q _).quad e p = s.quad e p from look_put_ne _ _ _ hk]

theorem State.quad_releaseRest_of_released {e p : Nat} (h : 3 ≤ (s.quad e p).st) (d : Nat) :
    3 ≤ ((s.releaseRest d).quad e p).st := by
  rw [State.releaseRest_eq]
  generalize List.range 4 = l
  induction l generalizing s with
  | nil => exact h
  | cons q l ih => exact ih (State.quad_restQuad_of_released h d q)

theorem State.quad_releaseRest_self (s : State) (d : Nat) (hq : q < 4) : 3 ≤ ((s.releaseRest d).quad d q).st :=
  foldl_reaches (I := fun _ => True) (Q := fun t => 3 ≤ (t.quad d q).st) (fun _ _ => id)
    (fun t _ => t.quad_restQuad_self d q) (fun _ b _ h _ => State.quad_restQuad_of_released h d b) trivial
    (.inl (List.mem_range.2 hq))

theorem State.quad_restQuads {l : List Nat} (hd : d ∈ l) (hq : q < 4) : 3 ≤ ((s.restQuads l).quad d q).st :=
  foldl_reaches (I := fun _ => True) (Q := fun t => 3 ≤ (t.quad d q).st) (fun _ _ => id)
    (fun t _ => t.quad_releaseRest_self d hq) (fun _ b _ h _ => State.quad_releaseRest_of_released h b) trivial (.inl hd)

/-- Nothing but quadrants moves. -/
theorem State.restQuads_eq (s : State) (l : List Nat) : ∃ quads,
    s.restQuads l = { s with dram := { s.dram with quads := quads } } := by
  have one (t : State) (d q : Nat) : ∃ quads, t.restQuad d q = { t with dram := { t.dram with quads := quads } } := by
    unfold State.restQuad
    split <;> exact ⟨_, rfl⟩
  have die (ps : List Nat) (t : State) (d : Nat) : ∃ quads,
      ps.foldl (fun t q => t.restQuad d q) t = { t with dram := { t.dram with quads := quads } } := by
    induction ps generalizing t with
    | nil => exact ⟨_, rfl⟩
    | cons q ps ih =>
      obtain ⟨first, h⟩ := one t d q
      obtain ⟨rest, h'⟩ := ih (t.restQuad d q)
      exact ⟨rest, by rw [List.foldl_cons, h', h]⟩
  induction l generalizing s with
  | nil => exact ⟨_, rfl⟩
  | cons d l ih =>
    obtain ⟨first, h⟩ := die (List.range 4) s d
    obtain ⟨rest, h'⟩ := ih (s.releaseRest d)
    refine ⟨rest, ?_⟩
    rw [State.releaseRest_eq, h] at h'
    rw [State.restQuads, List.foldl_cons, State.releaseRest_eq, h]
    exact h'

/-- Latching the pads of a change moves nothing else. -/
theorem State.allPads_eq (s : State) (f : State → State) : ∃ pads,
    s.allPads f = { f s with seq := { (f s).seq with pads := pads } } := by
  unfold State.allPads
  dsimp only
  generalize s.dieList.zip (s.dieList.map s.domainMask) = l
  generalize f s = t
  induction l generalizing t with
  | nil => exact ⟨_, rfl⟩
  | cons e l ih =>
    obtain ⟨pads, h⟩ := ih (t.latchPads e.1 e.2)
    exact ⟨pads, h⟩

/-! The end of the freeze. -/

/-- What is written before the rails go: the final record, and what waits in the recorders' queues. -/
def State.lastRecords (s : State) : State :=
  let t := if s.freezeDies.elem 0 then s.writeRecord 0 s.finalRecord else s
  t.freezeDies.foldl (fun u d => u.drainQueue d 128) t

theorem writesRecords_lastRecords (s : State) : WritesRecords s s.lastRecords := by
  have final : WritesRecords s (if s.freezeDies.elem 0 then s.writeRecord 0 s.finalRecord else s) := by
    split
    · exact writesRecords_writeRecord s (by decide) _
    · exact .refl s
  exact final.trans
    (.foldl (fun t d hd => writesRecords_drainQueue t (State.lt_eight_of_mem_freezeDies hd) 128) _)

/-- What is written before the rails go: the records, the source and the count of freezes, and the learned record. -/
def State.lastWrites (s : State) : State :=
  let t := s.lastRecords
  let t := (t.setReg 0x6800 0x11 t.freeze.source).inc 0x6800 0x12
  if t.bat.counting then t.writeLearned else t

/-- The freeze is over, and the rails are to be released. -/
def State.railsGo (s : State) : State :=
  { s with
    aon := { s.aon with savedTime := s.aon.deviceTime }
    seq := { s.seq with release := s.workingDies }
    freeze := { s.freeze with active := false }
    bus := { s.bus with st := 0 } }

theorem State.endFreeze_eq (s : State) :
    s.endFreeze = s.lastWrites.allPads fun t => t.railsGo.restQuads t.workingDies := rfl

/-- The last writes of a freeze, and the objects that they and no others write. -/
structure LastWrites (s t : State) : Prop where
  keeps : Keeps s t [.hosts, .bat, .bus, .wire, .rings, .regs, .out]
  source : t.reg 0x6800 0x11 = s.freeze.source
  count : t.reg 0x6800 0x12 = min 0xFFFFFFFF (s.reg 0x6800 0x12 + 1)
  dies : t.reg 0x7100 3 = s.reg 0x7100 3

theorem keeps_writeLearned {t : State} {l : List Part} (h : Keeps s t l) (hl : Part.bat ∈ l) :
    Keeps s t.writeLearned l := by
  have battery (x : Battery) : Keeps s { t with bat := x } l := by
    intro p hp
    have kept := h p hp
    cases p with
    | bat => exact absurd hl hp
    | _ => exact kept
  unfold State.writeLearned
  split
  · exact battery _
  · exact battery _

theorem State.reg_writeLearned (s : State) (i k : Nat) : s.writeLearned.reg i k = s.reg i k := by
  unfold State.writeLearned
  split <;> rfl

theorem LastWrites.writeLearned {t : State} (h : LastWrites s t) : LastWrites s t.writeLearned :=
  ⟨keeps_writeLearned h.keeps (by simp), (t.reg_writeLearned _ _).trans h.source, (t.reg_writeLearned _ _).trans h.count,
    (t.reg_writeLearned _ _).trans h.dies⟩

theorem lastWrites_lastWrites (s : State) : LastWrites s s.lastWrites := by
  obtain ⟨keeps, reg⟩ := writesRecords_lastRecords s
  have freeze : s.lastRecords.freeze = s.freeze := keeps .freeze (by simp)
  have counted : LastWrites s ((s.lastRecords.setReg 0x6800 0x11 s.lastRecords.freeze.source).inc 0x6800 0x12) := by
    refine ⟨keeps_inc (keeps_setReg (Keeps.mono keeps (by simp)) (by simp) _ _ _) (by simp) _ _, ?_, ?_, ?_⟩
    · rw [State.reg_inc_ne _ (by decide), State.reg_setReg_same, freeze]
    · rw [State.reg_inc_same, State.reg_setReg_ne _ _ (by decide), reg _ _ (by decide) (by decide)]
      rfl
    · rw [State.reg_inc_ne _ (by decide), State.reg_setReg_ne _ _ (by decide), reg _ _ (by decide) (by decide)]
  unfold State.lastWrites
  dsimp only
  split
  · exact counted.writeLearned
  · exact counted

/-- What the end of a freeze leaves, in the quadrants and pads that it finds. -/
def State.freezeOver (s : State) (quads : Sparse Quad) (pads : Sparse Nat) : State :=
  { s.railsGo with
    dram := { s.dram with quads := quads }
    seq := { s.seq with release := s.workingDies, pads := pads } }

theorem State.endFreeze_freezeOver (s : State) : ∃ quads pads,
    s.endFreeze = s.lastWrites.freezeOver quads pads ∧
      ∀ d ∈ s.lastWrites.workingDies, ∀ q, q < 4 → 3 ≤ ((s.lastWrites.freezeOver quads pads).quad d q).st := by
  generalize ht : s.lastWrites = t
  obtain ⟨pads, latched⟩ := t.allPads_eq fun t => t.railsGo.restQuads t.workingDies
  obtain ⟨quads, rested⟩ := t.railsGo.restQuads_eq t.workingDies
  refine ⟨quads, pads, ?_, fun d hd q hq => ?_⟩
  · rw [State.endFreeze_eq, ht, latched, rested]
    rfl
  · have released := State.quad_restQuads (s := t.railsGo) hd hq
    rw [rested] at released
    exact released

theorem keeps_freezeOver {t : State} {l : List Part} (h : Keeps s t l) (hl : [.aon, .seq, .dram, .freeze, .bus] ⊆ l)
    (quads : Sparse Quad) (pads : Sparse Nat) : Keeps s (t.freezeOver quads pads) l := by
  intro p hp
  have kept := h p hp
  cases p with
  | aon | seq | dram | freeze | bus => exact absurd (hl (by simp)) hp
  | _ => exact kept

theorem exec_freezeAllSealed (s : State) : exec .freezeAllSealed s = execFreezeAllSealed s := rfl

/-- The freeze ends with the last seal (09 R226, Table 09.1). -/
theorem does_freezeAllSealed (hon : s.aon.on = true) (hact : s.freeze.active = true)
    (hall : ∀ d ∈ s.freezeDies, d ∈ s.freeze.sealedBy) : Does .freezeAllSealed s fun t =>
      t.freeze = { s.freeze with active := false } ∧ t.seq.release = s.workingDies ∧ t.seq.st = s.seq.st ∧
      t.aon.savedTime = s.aon.deviceTime ∧ t.reg 0x6800 0x11 = s.freeze.source ∧
      t.reg 0x6800 0x12 = min 0xFFFFFFFF (s.reg 0x6800 0x12 + 1) ∧ t.bus.st = 0 ∧
      (∀ d ∈ s.workingDies, ∀ q, q < 4 → 3 ≤ (t.quad d q).st) ∧ t.dram.lines = s.dram.lines ∧
      Keeps s t [.aon, .seq, .hosts, .dram, .freeze, .bat, .bus, .wire, .rings, .regs, .out, .freeCount] := by
  have sealed_all : (s.freezeDies.all fun d => s.freeze.sealedBy.elem d || !s.freezeSeals) = true :=
    List.all_eq_true.2 fun d hd => by simp [hall d hd]
  refine does_of_effect hon (exec_freezeAllSealed s) (if_pos ⟨hact, sealed_all⟩) ?_
  obtain ⟨quads, pads, ended, released⟩ := s.fresh.endFreeze_freezeOver
  obtain ⟨keeps, source, count, dies⟩ := lastWrites_lastWrites s.fresh
  rw [ended]
  generalize s.fresh.lastWrites = t at keeps source count dies released
  have build : t.build = s.build := keeps .build (by simp)
  have aon : t.aon = s.aon := keeps .aon (by simp)
  have seq : t.seq = s.seq := keeps .seq (by simp)
  have dram : t.dram = s.dram := keeps .dram (by simp)
  have freeze : t.freeze = s.freeze := keeps .freeze (by simp)
  have working : t.workingDies = s.workingDies := State.workingDies_eq build dies (by rw [seq])
  have kept : Keeps s t [.aon, .seq, .hosts, .dram, .freeze, .bat, .bus, .wire, .rings, .regs, .out, .freeCount] :=
    Keeps.trans (Keeps.fresh s _) (Keeps.mono keeps (by simp))
  rw [working] at released
  have settled_reg (k : Nat) (hk : k < 256) : (settle (t.freezeOver quads pads)).reg 0x6800 k = t.reg 0x6800 k :=
    reg_settle_of_not_stagingCount _ hk fun h => absurd h.2.1 (by decide : ¬ 0x6800 ≤ 0x1217)
  have settled_quad (d q : Nat) : (settle (t.freezeOver quads pads)).quad d q = (t.freezeOver quads pads).quad d q := by
    rw [State.quad, settle_dram]
    rfl
  refine ⟨?_, ?_, ?_, ?_, (settled_reg _ (by decide)).trans source, (settled_reg _ (by decide)).trans count, ?_,
    fun d hd q hq => ?_, ?_, Keeps.settle (keeps_freezeOver kept (by simp) quads pads)⟩
  · rw [settle_freeze, ← freeze]
    rfl
  · rw [settle_seq, ← working]
    rfl
  · rw [settle_seq, ← seq]
    rfl
  · rw [settle_aon, ← aon]
    rfl
  · rw [settle_bus]
    rfl
  · rw [settled_quad]
    exact released d hd q hq
  · rw [settle_dram, ← dram]
    rfl

end

/-- Settles O42, clause by clause: a die drains, it seals, the freeze ends with the last seal, and input power returns. -/
theorem freezeSealsAndEnds : Obligations.FreezeSealsAndEnds := by
  intro s die hon _
  refine ⟨fun hact hdie hnot hpick hpumps hunits => ?_, fun hact hseals hdrained hnot hphase => ⟨?_, ?_⟩,
    does_freezeAllSealed hon, does_inputPowerReturn hon, does_freezeHoldExit hon⟩
  · exact does_freezeSnowDrained hon hact hdie hnot hpick hpumps hunits ((savesMap_saveMap _ die).settled hnot)
  · exact does_freezeSeal hon (State.maySealFreeze_of hact hseals hdrained hnot hphase) (settled_freezeSeal_torn s die)
  · obtain ⟨here, others, frame⟩ := settled_freezeSeal_whole hnot
    refine does_freezeSeal hon (State.maySealFreeze_of hact hseals hdrained hnot hphase) ⟨⟨_, here, rfl, rfl, rfl, rfl, rfl,
      rfl, rfl, rfl, rfl, fun n => mem_foldl_addOnce_iff, rfl, rfl, rfl⟩, others, frame⟩

end Sys2Proof.Machine
end

section
/-! PROOFS. A lost rank that migrates (O46). A rank in service that fails with no spare left is lost, and the migration that
waits longest on its die may then begin (`State.retireRank`; 10 R245, R250, Table 10.3): its source becomes migrating. O46
speaks of every state, also of one whose redirection table holds an entry that is complete and still waits for its turn; its
source need not be the rank that its logical rank stands for, and can be the rank just lost. -/
namespace Sys2Proof.Machine

open Sys2Proof.Safety

theorem exec_rankRetireTrigger (r reason : Nat) (s : State) :
    exec (.rankRetireTrigger r reason) s = execRankRetireTrigger r reason s := rfl

/-- A rank in service is retired, and the next migration of its die may begin. -/
theorem State.retireRank_serving {s : State} {r : Nat} (h : (s.rank r).st = 1) (reason : Nat) :
    s.retireRank r reason = (s.retireServing r reason).nextMigration (dieOfRank r) := if_pos (.inl h)

/-- The source of the migration that begins is migrating. -/
theorem State.rank_nextMigration {s : State} {d : Nat} {e : Nat × Redirect} (hfree : s.migrating d = false)
    (he : earliest (s.sparing.redirect.filter fun e => decide (dieOfRank e.1 = d) && e.2.queued) = some e) :
    ((s.nextMigration d).rank e.2.source).st = 6 := by
  have begins : s.nextMigration d = ((s.setRedirect e.1 (some { e.2 with queued := false })).setRankSt e.2.source 6).report d
      cCopyStart 1 0 [e.1, e.2.carrier, e.2.reason] := by
    rw [State.nextMigration, if_neg (by simp [hfree]), he]
  rw [begins, State.rank_report]
  exact congrArg (·.st) (State.rank_setRank_same ..)

/-- A copy of rank 0 for logical rank 1 that is complete and yet waits for its turn. -/
def waitingCopy : Redirect :=
  { carrier := 2, source := 0, watermark := 0, complete := true, rebuild := false, reason := 1, queued := true, order := 0
    early := [] }

/-- Rank 0 in service has failed its training; no rank is a spare. -/
def sourceFails : State :=
  { State.reset with
    dram := { State.reset.dram with ranks := [(0, { noRank with train := 3, st := 1 })] }
    sparing := { redirect := [(1, waitingCopy)], heals := [] } }

/-- The loss of rank 0 leaves the waiting copy. -/
theorem sparing_retireServing_sourceFails : (sourceFails.retireServing 0 7).sparing = sourceFails.sparing := by
  decide +kernel

theorem rank_rankRetireTrigger_sourceFails {t : State} (h : exec (.rankRetireTrigger 0 7) sourceFails = .next t) :
    (t.rank 0).st = 6 := by
  have retires : (if sourceFails.fresh.reached 0 7 then sourceFails.fresh.retireRank 0 7 else sourceFails.fresh) =
      sourceFails.retireRank 0 7 := if_pos rfl
  rw [exec_rankRetireTrigger, execRankRetireTrigger, act_on _ rfl, Host.Outcome.next.injEq] at h
  rw [← h, State.rank_settle, retires, State.retireRank_serving rfl]
  refine State.rank_nextMigration (e := (1, waitingCopy)) ?_ ?_
  · rw [State.migrating, sparing_retireServing_sourceFails]
    rfl
  · rw [sparing_retireServing_sourceFails]
    rfl

/-- Refutes O46: a rank that is lost for want of a spare is migrating at the end of the command, where a complete copy from it
waits for its turn. -/
theorem not_ranksAreSparedAndHealed : ¬ Obligations.RanksAreSparedAndHealed := by
  intro h
  obtain ⟨-, retires, -⟩ := h sourceFails 0 0 7 0 0 0 (1, waitingCopy) 0 0 rfl (by decide) (by decide)
  obtain ⟨-, loses⟩ := retires rfl rfl rfl rfl
  obtain ⟨t, ht, lost, -⟩ := loses rfl (by decide) (by decide)
  rw [rank_rankRetireTrigger_sourceFails ht] at lost
  exact absurd lost (by decide)

end Sys2Proof.Machine
end

section
/-! PROOFS. Hibernation of a quadrant (10 R256, R257, R259, Table 10.5): its clean flakes are let go, the rails that feed
it alone are released, and it returns (O47). -/
namespace Sys2Proof.Machine

open Sys2Proof.Safety

@[simp] theorem State.quad_settle (s : State) (d q : Nat) : (settle s).quad d q = s.quad d q := by
  rw [State.quad, State.quad, settle_dram]

theorem State.quad_setQuad_same (s : State) (d q : Nat) (x : Quad) : (s.setQuad d q x).quad d q = x :=
  look_put_same ..

@[simp] theorem State.mark_settle (s : State) (j : Nat) : (settle s).mark j = s.mark j := by
  rw [State.mark, State.mark, settle_freeze]

theorem keeps_setQuad {s t : State} {l : List Part} (h : Keeps s t l) (hl : Part.dram ∈ l) (d q : Nat) (x : Quad) :
    Keeps s (t.setQuad d q x) l := keeps_setDram h hl _

theorem keeps_setRegs {s t : State} {l : List Part} (h : Keeps s t l) (hl : Part.regs ∈ l) (regs : Sparse Nat) :
    Keeps s { t with regs := regs } l := by
  intro p hp
  have hk := h p hp
  cases p with
  | regs => exact absurd hl hp
  | _ => exact hk

theorem exec_hibernateRailsOff (die q : Nat) (s : State) :
    exec (.hibernateRailsOff die q) s = execHibernateRailsOff die q s := rfl
theorem exec_hibernateReturn (die q : Nat) (s : State) :
    exec (.hibernateReturn die q) s = execHibernateReturn die q s := rfl

/-! Entry: flakes become UNRESTORED (Table 10.5 step 1). -/

/-- The flakes of a list become UNRESTORED. -/
def State.unrestore (s : State) (l : List Nat) : State := l.foldl (fun t m => t.setFirn m fUnrestored) s

theorem State.unrestore_eq (s : State) (l : List Nat) :
    ∃ firn, s.unrestore l = s.setShadow { s.shadow with firn := firn } := by
  unfold State.unrestore
  induction l generalizing s with
  | nil => exact ⟨_, rfl⟩
  | cons m l ih => exact ih (s.setFirn m fUnrestored)

theorem State.firn_unrestore_of_mem {l : List Nat} {m : Nat} (hm : m ∈ l) (s : State) :
    (s.unrestore l).firn m = fUnrestored :=
  foldl_reaches (a := m) (I := fun _ => True) (Q := fun t => t.firn m = fUnrestored) (fun _ _ => id)
    (fun t _ => t.firn_setFirn_same m _) (fun t _ _ h hb => (t.firn_setFirn_ne fUnrestored hb.symm).trans h) trivial
    (.inl hm)

theorem State.firn_unrestore_of_notMem {l : List Nat} {m : Nat} (hm : m ∉ l) (s : State) :
    (s.unrestore l).firn m = s.firn m := by
  unfold State.unrestore
  induction l generalizing s with
  | nil => rfl
  | cons k l ih =>
    obtain ⟨hk, hl⟩ := List.ne_and_not_mem_of_not_mem_cons hm
    exact (ih hl _).trans (s.firn_setFirn_ne _ hk)

/-! Entry: thaw marks are cleared (Table 10.5 step 2). -/

theorem State.mark_setMark_same (s : State) (j : Nat) (b : Bool) : (s.setMark j b).mark j = b := by
  by_cases hb : b = s.freeze.markDflt
  · simp [State.mark, State.setMark, hb, without]
  · have flipped : (!s.freeze.markDflt) = b := by cases b <;> simp_all
    simp [State.mark, State.setMark, hb, mem_addOnce_self, flipped]

theorem State.mark_setMark_ne (s : State) {j k : Nat} (b : Bool) (h : k ≠ j) : (s.setMark j b).mark k = s.mark k := by
  have listed : (s.setMark j b).freeze.markFlip.elem k = s.freeze.markFlip.elem k := by
    rw [Bool.eq_iff_iff, List.elem_iff, List.elem_iff]
    unfold State.setMark
    dsimp only
    split
    · simp [without, h]
    · simp [mem_addOnce_iff, h]
  rw [State.mark, State.mark, listed]
  rfl

/-- The marks of a list of drifts are cleared. -/
def State.unmarkAll (s : State) (l : List Nat) : State := l.foldl (fun t j => t.unmark j) s

theorem State.unmarkAll_eq (s : State) (l : List Nat) : ∃ freeze, s.unmarkAll l = { s with freeze := freeze } := by
  unfold State.unmarkAll
  induction l generalizing s with
  | nil => exact ⟨_, rfl⟩
  | cons j l ih => exact ih (s.unmark j)

theorem State.mark_unmark_same (s : State) (j : Nat) : (s.unmark j).mark j = false := s.mark_setMark_same j false

theorem State.mark_unmark_ne (s : State) {j k : Nat} (h : k ≠ j) : (s.unmark j).mark k = s.mark k :=
  s.mark_setMark_ne false h

theorem State.mark_unmarkAll_of_mem {l : List Nat} {j : Nat} (hj : j ∈ l) (s : State) :
    (s.unmarkAll l).mark j = false :=
  foldl_reaches (I := fun _ => True) (Q := fun t => t.mark j = false) (fun _ _ => id)
    (fun t _ => t.mark_unmark_same j) (fun t _ _ h hb => (t.mark_unmark_ne hb.symm).trans h) trivial (.inl hj)

theorem State.mark_unmarkAll_of_notMem {l : List Nat} {j : Nat} (hj : j ∉ l) (s : State) :
    (s.unmarkAll l).mark j = s.mark j := by
  unfold State.unmarkAll
  induction l generalizing s with
  | nil => rfl
  | cons k l ih =>
    obtain ⟨hk, hl⟩ := List.ne_and_not_mem_of_not_mem_cons hj
    exact (ih hl _).trans (s.mark_unmark_ne hk)

/-! What an entry looks at depends on no output. -/

section
variable (s : State) (d q : Nat)

theorem State.flakeRanks_fresh (m : Nat) : s.fresh.flakeRanks m = s.flakeRanks m := by
  simp only [State.flakeRanks, (sameWay_fresh s).place, (sameWay_fresh s).readRank]

theorem State.flakeInQuad_fresh : s.fresh.flakeInQuad d q = s.flakeInQuad d q := by
  funext m
  rw [State.flakeInQuad, State.flakeInQuad, State.flakeRanks_fresh]

theorem State.quadFlakes_fresh : s.fresh.quadFlakes d q = s.quadFlakes d q := by
  rw [State.quadFlakes, State.quadFlakes, State.flakeInQuad_fresh, State.fresh_shadow]

theorem State.quadDrifts_fresh : s.fresh.quadDrifts d q = s.quadDrifts d q := by
  simp only [State.quadDrifts, State.flakeInQuad_fresh]
  rfl

theorem State.hibCount_fresh : s.fresh.hibCount d q = s.hibCount d q := by
  rw [State.hibCount, State.hibCount, State.quadFlakes_fresh]
  rfl

theorem State.holdsSump_fresh : s.fresh.holdsSump d q = s.holdsSump d q := rfl

theorem State.mayHibernate_fresh : s.fresh.mayHibernate d q = s.mayHibernate d q := by
  simp only [State.mayHibernate, State.hibCount_fresh, State.holdsSump_fresh]
  rfl

end

/-! Entry. -/

/-- The CLEAN flakes with a line in a quadrant. -/
def State.quadClean (s : State) (d q : Nat) : List Nat := (s.quadFlakes d q).filter fun m => decide (s.firn m = fClean)

/-- A quadrant whose entry has run: flakes are let go and marks cleared. -/
def State.enterHib (s : State) (d q : Nat) : State :=
  ((s.setQuad d q { s.quad d q with hibEntry := true, unmarked := s.quadDrifts d q }).unrestore
    (s.quadClean d q)).unmarkAll (s.quadDrifts d q)

theorem exec_hibernateEntry (die q : Nat) (s : State) : exec (.hibernateEntry die q) s =
    act (fun t => if t.mayHibernate die q then t.enterHib die q else t) s := rfl

theorem State.quadClean_fresh (s : State) (d q : Nat) : s.fresh.quadClean d q = s.quadClean d q := by
  rw [State.quadClean, State.quadClean, State.quadFlakes_fresh]
  rfl

/-- The quadrant is entered, with the marks that it clears, on a clean output. -/
def State.enteredQuad (s : State) (d q : Nat) : State :=
  s.fresh.setQuad d q { s.quad d q with hibEntry := true, unmarked := s.quadDrifts d q }

theorem State.enterHib_fresh (s : State) (d q : Nat) : s.fresh.enterHib d q =
    ((s.enteredQuad d q).unrestore (s.quadClean d q)).unmarkAll (s.quadDrifts d q) := by
  rw [State.enterHib, State.quadDrifts_fresh, State.quadClean_fresh]
  rfl

/-- HIBERNATE_ENTRY where every condition of R256 holds. -/
theorem does_hibernateEntry {s : State} {die q : Nat} (hon : s.aon.on = true) (hmay : s.mayHibernate die q = true) :
    Does (.hibernateEntry die q) s fun t =>
      t.quad die q = { s.quad die q with hibEntry := true, unmarked := s.quadDrifts die q } ∧
      (∀ m ∈ s.quadFlakes die q, s.firn m = fClean → t.firn m = fUnrestored) ∧
      (∀ m, m ∉ s.quadFlakes die q → t.firn m = s.firn m) ∧ (∀ j ∈ s.quadDrifts die q, t.mark j = false) ∧
      (∀ j, j ∉ s.quadDrifts die q → t.mark j = s.mark j) ∧ t.shadow.fmap = s.shadow.fmap ∧
      t.dram.lines = s.dram.lines ∧ Keeps s t [.dram, .shadow, .freeze] := by
  refine does_of_effect hon (exec_hibernateEntry die q s)
    ((if_pos ((s.mayHibernate_fresh die q).trans hmay)).trans (s.enterHib_fresh die q)) ?_
  have entered : (s.enteredQuad die q).quad die q =
      { s.quad die q with hibEntry := true, unmarked := s.quadDrifts die q } := State.quad_setQuad_same ..
  have frame : Keeps s (s.enteredQuad die q) [.dram, .shadow, .freeze] :=
    keeps_setQuad (Keeps.fresh s _) (by simp) die q _
  have firn (m : Nat) : (s.enteredQuad die q).firn m = s.firn m := rfl
  have mark (j : Nat) : (s.enteredQuad die q).mark j = s.mark j := rfl
  have fmap : (s.enteredQuad die q).shadow.fmap = s.shadow.fmap := rfl
  have lines : (s.enteredQuad die q).dram.lines = s.dram.lines := rfl
  generalize s.enteredQuad die q = u at *
  have firn_of_mem (m : Nat) (hm : m ∈ s.quadClean die q) := State.firn_unrestore_of_mem hm u
  have firn_of_notMem (m : Nat) (hm : m ∉ s.quadClean die q) := State.firn_unrestore_of_notMem hm u
  obtain ⟨firns, unrestored⟩ := u.unrestore_eq (s.quadClean die q)
  have unrestored_mark (j : Nat) : (u.unrestore (s.quadClean die q)).mark j = u.mark j := by rw [unrestored]; rfl
  obtain ⟨marks, unmarked⟩ := (u.unrestore (s.quadClean die q)).unmarkAll_eq (s.quadDrifts die q)
  have unmarked_firn (m : Nat) : (settle ((u.unrestore (s.quadClean die q)).unmarkAll (s.quadDrifts die q))).firn m =
      (u.unrestore (s.quadClean die q)).firn m := by rw [State.firn_settle, unmarked]; rfl
  refine ⟨?_, fun m hm hc => ?_, fun m hm => ?_, fun j hj => ?_, fun j hj => ?_, ?_, ?_, ?_⟩
  · rw [State.quad_settle, unmarked, unrestored]
    exact entered
  · rw [unmarked_firn]
    exact firn_of_mem m (List.mem_filter.2 ⟨hm, decide_eq_true hc⟩)
  · rw [unmarked_firn, firn_of_notMem m fun h => hm (List.mem_filter.1 h).1, firn]
  · rw [State.mark_settle]
    exact State.mark_unmarkAll_of_mem hj _
  · rw [State.mark_settle, State.mark_unmarkAll_of_notMem hj, unrestored_mark, mark]
  · rw [settle_shadow, unmarked, unrestored]
    exact fmap
  · rw [settle_dram, unmarked, unrestored]
    exact lines
  · rw [unmarked, unrestored]
    exact Keeps.settle (keeps_setFreeze (keeps_setShadow frame (by simp) _) (by simp) marks)

/-! Rails of a set are released, each once no dependant of it is on (12 R295). -/

theorem ixRail_inj {d i j : Nat} (h : ixRail d i = ixRail d j) : i = j := Nat.add_left_cancel h

theorem not_stagingCount_ixRail (d i k : Nat) : ¬ stagingCount (ixRail d i) k := by
  unfold stagingCount ixRail; omega

section
variable (s : State) (d i j st reason attempts : Nat)

theorem State.railSt_setRail_same : (s.setRail d i st reason attempts).railSt d i = st := by
  unfold State.railSt State.setRail
  rw [State.reg_setReg_ne _ _ (okey_ne (by decide) (by decide) (.inr (by decide))),
    State.reg_setReg_ne _ _ (okey_ne (by decide) (by decide) (.inr (by decide))), State.reg_setReg_same]

variable {i j}

theorem State.reg_setRail_ne (h : j ≠ i) {k : Nat} (hk : k < 256) :
    (s.setRail d i st reason attempts).reg (ixRail d j) k = s.reg (ixRail d j) k := by
  have other : ixRail d j ≠ ixRail d i := fun he => h (ixRail_inj he)
  unfold State.setRail
  rw [State.reg_setReg_ne _ _ (okey_ne hk (by decide) (.inl other)),
    State.reg_setReg_ne _ _ (okey_ne hk (by decide) (.inl other)),
    State.reg_setReg_ne _ _ (okey_ne hk (by decide) (.inl other))]

theorem State.railSt_setRail_ne (h : j ≠ i) : (s.setRail d i st reason attempts).railSt d j = s.railSt d j :=
  s.reg_setRail_ne d st reason attempts h (by decide)

end

/-- Rails of a set may have been switched off; their attempts stand, and nothing else has changed. -/
structure RailsReleased (s t : State) (d : Nat) (among : List Nat) : Prop where
  regs_only : t = { s with regs := t.regs }
  attempts : ∀ i, t.reg (ixRail d i) 0x0B = s.reg (ixRail d i) 0x0B
  outside : ∀ i, i ∉ among → t.railSt d i = s.railSt d i
  off_or_same : ∀ i, t.railSt d i = 1 ∨ t.railSt d i = s.railSt d i

namespace RailsReleased

variable {s t u : State} {d : Nat} {among : List Nat}

theorem refl (s : State) (d : Nat) (among : List Nat) : RailsReleased s s d among :=
  ⟨rfl, fun _ => rfl, fun _ _ => rfl, fun _ => .inr rfl⟩

theorem trans (h : RailsReleased s t d among) (h' : RailsReleased t u d among) : RailsReleased s u d among where
  regs_only := by rw [h'.regs_only, h.regs_only]
  attempts i := (h'.attempts i).trans (h.attempts i)
  outside i hi := (h'.outside i hi).trans (h.outside i hi)
  off_or_same i := (h'.off_or_same i).elim .inl fun same => by rw [same]; exact h.off_or_same i

end RailsReleased

/-- One rail of a die is switched off. -/
def State.railOff (s : State) (d i : Nat) : State := s.setRail d i 1 0 (s.reg (ixRail d i) 0x0B)

theorem railsReleased_railOff {s : State} {d i : Nat} {among : List Nat} (hi : i ∈ among) :
    RailsReleased s (s.railOff d i) d among where
  regs_only := rfl
  attempts j := by
    by_cases hj : j = i
    · subst hj; exact State.reg_setReg_same ..
    · exact s.reg_setRail_ne d _ _ _ hj (by decide)
  outside j hj := s.railSt_setRail_ne d _ _ _ fun h => hj (h ▸ hi)
  off_or_same j := by
    by_cases hj : j = i
    · subst hj; exact .inl (s.railSt_setRail_same ..)
    · exact .inr (s.railSt_setRail_ne d _ _ _ hj)

/-- A choice between two at each step ends in the first or in one of the list. -/
theorem mem_foldl_choice {α : Type} {f : α → α → α} (hf : ∀ a b, f a b = a ∨ f a b = b) (l : List α) (a : α) :
    l.foldl f a ∈ a :: l := by
  induction l generalizing a with
  | nil => exact List.mem_singleton.2 rfl
  | cons b l ih =>
    rcases hf a b with h | h
    · exact (List.mem_cons.1 (ih (f a b))).elim (fun e => by rw [List.foldl_cons, e, h]; exact List.mem_cons_self)
        fun e => List.mem_cons_of_mem _ (List.mem_cons_of_mem _ e)
    · have rest := ih (f a b)
      rw [h] at rest
      rw [List.foldl_cons, h]
      exact List.mem_cons_of_mem _ rest

section
variable {s : State} {d i : Nat} {among : List Nat}

/-- The rail that comes next is one of the set that is on. -/
theorem State.mem_of_nextOff (h : s.nextOff d among = some i) : i ∈ among ∧ s.railOn d i = true := by
  unfold State.nextOff at h
  dsimp only at h
  split at h
  · cases h
  · next k ks hl =>
    have chosen : i ∈ k :: ks := by
      rw [← Option.some.inj h]
      exact mem_foldl_choice (fun a b => by split <;> simp) ks k
    rw [← hl] at chosen
    obtain ⟨mem, on⟩ := List.mem_filter.1 chosen
    exact ⟨mem, (Bool.and_eq_true _ _ ▸ on).1⟩

/-- Once no rail of a set comes next, each that is on has a dependant that is. -/
theorem State.dependant_of_nextOff_none (h : s.nextOff d among = none) (hi : i ∈ among) (hon : s.railOn d i = true) :
    ∃ j, j < 24 ∧ s.dependsOn d j i = true := by
  unfold State.nextOff at h
  dsimp only at h
  split at h
  · next hl =>
    have kept := List.filter_eq_nil_iff.1 hl i hi
    rw [hon, Bool.true_and, List.all_eq_true] at kept
    push Not at kept
    obtain ⟨j, hj, hdep⟩ := kept
    exact ⟨j, List.mem_range.1 hj, by simp_all⟩
  · cases h

theorem State.nextOff_congr {t : State} (hrail : ∀ i, t.railSt d i = s.railSt d i) (hbuild : t.build = s.build)
    (hcfg : t.seq.cfg = s.seq.cfg) (among : List Nat) : t.nextOff d among = s.nextOff d among := by
  have cfg (i sub : Nat) : t.railCfg d i sub = s.railCfg d i sub := by
    rw [State.railCfg, State.railCfg, State.n, State.n, hbuild, hcfg]
  have on (i : Nat) : t.railOn d i = s.railOn d i := by rw [State.railOn, State.railOn, hrail]
  have depends (i j : Nat) : t.dependsOn d i j = s.dependsOn d i j := by
    rw [State.dependsOn, State.dependsOn, State.railUsed, State.railUsed, cfg, cfg]
  unfold State.nextOff
  simp only [cfg, on, depends]

theorem State.railOn_railOff (s : State) (d i j : Nat) : (s.railOff d i).railOn d j = (s.railOn d j && decide (j ≠ i)) := by
  by_cases hj : j = i
  · subst hj
    have off : (s.railOff d j).railSt d j = 1 := s.railSt_setRail_same ..
    simp [State.railOn, off]
  · have same : (s.railOff d i).railSt d j = s.railSt d j := s.railSt_setRail_ne d _ _ _ hj
    simp [State.railOn, same, hj]

/-- The rails of a set that are on. -/
def State.railsOn (s : State) (d : Nat) (among : List Nat) : List Nat := among.filter (s.railOn d)

/-- Switching one of them off leaves fewer. -/
theorem State.length_railsOn_railOff (hi : i ∈ among) (hon : s.railOn d i = true) :
    ((s.railOff d i).railsOn d among).length < (s.railsOn d among).length := by
  have fewer : (s.railOff d i).railsOn d among = (s.railsOn d among).filter fun j => decide (j ≠ i) := by
    unfold State.railsOn
    rw [List.filter_filter]
    exact List.filter_congr fun j _ => by rw [State.railOn_railOff, Bool.and_comm]
  rw [fewer, List.length_filter_lt_length_iff_exists]
  exact ⟨i, List.mem_filter.2 ⟨hi, hon⟩, by simp⟩

theorem State.releaseRails_some {k : Nat} (h : s.nextOff d among = some i) :
    s.releaseRails d among (k + 1) = (s.railOff d i).releaseRails d among k := by
  rw [State.releaseRails, h]
  rfl

theorem State.releaseRails_none {k : Nat} (h : s.nextOff d among = none) : s.releaseRails d among k = s := by
  cases k with
  | zero => rfl
  | succ k => rw [State.releaseRails, h]

theorem railsReleased_releaseRails (s : State) (d : Nat) (among : List Nat) (k : Nat) :
    RailsReleased s (s.releaseRails d among k) d among := by
  induction k generalizing s with
  | zero => exact RailsReleased.refl s d among
  | succ k ih =>
    cases hnext : s.nextOff d among with
    | none =>
      rw [State.releaseRails_none hnext]
      exact RailsReleased.refl s d among
    | some i =>
      rw [State.releaseRails_some hnext]
      exact RailsReleased.trans (railsReleased_railOff (State.mem_of_nextOff hnext).1) (ih _)

/-- As many steps as rails of the set are on release all that can be released. -/
theorem State.nextOff_releaseRails {k : Nat} (hk : (s.railsOn d among).length ≤ k) :
    (s.releaseRails d among k).nextOff d among = none := by
  induction k generalizing s with
  | zero =>
    cases hnext : s.nextOff d among with
    | none => exact hnext
    | some i =>
      obtain ⟨mem, on⟩ := State.mem_of_nextOff hnext
      exact absurd (List.length_pos_of_mem (List.mem_filter.2 ⟨mem, on⟩)) (by unfold State.railsOn at hk; omega)
  | succ k ih =>
    cases hnext : s.nextOff d among with
    | none => rwa [State.releaseRails_none hnext]
    | some i =>
      obtain ⟨mem, on⟩ := State.mem_of_nextOff hnext
      rw [State.releaseRails_some hnext]
      exact ih (by have := State.length_railsOn_railOff mem on; omega)

end

/-- Once no rail of the set comes next, one that was on without a dependant is off. -/
theorem RailsReleased.off_of_free {s t : State} {d i : Nat} {among : List Nat} (h : RailsReleased s t d among)
    (hend : t.nextOff d among = none) (hi : i ∈ among) (hon : s.railOn d i = true)
    (hfree : ∀ j, j < 24 → s.dependsOn d j i = false) : t.railSt d i = 1 := by
  refine (h.off_or_same i).resolve_right fun same => ?_
  have still_on : t.railOn d i = true := by rw [State.railOn, same]; exact hon
  obtain ⟨j, hj, depends⟩ := State.dependant_of_nextOff_none hend hi still_on
  have free : t.dependsOn d j i = false := by rw [h.regs_only]; exact hfree j hj
  exact absurd (depends.symm.trans free) (by decide)

/-! The rails of a quadrant. -/

theorem State.length_quadRails (s : State) (d q : Nat) : (s.quadRails d q).length ≤ 24 := List.length_filter_le ..

theorem State.reg_ixRail_settle (s : State) (d i : Nat) {k : Nat} (hk : k < 256) :
    (settle s).reg (ixRail d i) k = s.reg (ixRail d i) k :=
  reg_settle_of_not_stagingCount s hk (not_stagingCount_ixRail d i k)

@[simp] theorem State.railSt_settle (s : State) (d i : Nat) : (settle s).railSt d i = s.railSt d i :=
  s.reg_ixRail_settle d i (by decide)

@[simp] theorem State.nextOff_settle (s : State) (d : Nat) (among : List Nat) :
    (settle s).nextOff d among = s.nextOff d among :=
  State.nextOff_congr (s.railSt_settle d) (settle_build s) (by rw [settle_seq]) among

/-- A quadrant in Hibernate-Quadrant has no power, whatever its rails (12 R297). -/
theorem State.domainOn_hibernated {s : State} {d q : Nat} (hq : q < 4) (hst : (s.quad d q).st = 3)
    (hret : (s.quad d q).returning = false) : s.domainOn d (13 + q) = false := by
  have asleep : s.hibernated d q = true := by simp [State.hibernated, hst, hret]
  have isQuad : 13 + q ≤ 16 := by omega
  simp [State.domainOn, asleep, isQuad]

/-- The quadrant is in hibernation, its rails as before, on a clean output. -/
def State.asleepQuad (s : State) (d q : Nat) : State :=
  s.fresh.setQuad d q { s.quad d q with st := 3, hibEntry := false }

/-- A quadrant in hibernation, its rails released. -/
def State.sleepQuad (s : State) (d q : Nat) : State := (s.asleepQuad d q).releaseRails d (s.quadRails d q) 24

theorem railsReleased_sleepQuad (s : State) (d q : Nat) :
    RailsReleased (s.asleepQuad d q) (s.sleepQuad d q) d (s.quadRails d q) := railsReleased_releaseRails ..

theorem State.nextOff_sleepQuad (s : State) (d q : Nat) : (s.sleepQuad d q).nextOff d (s.quadRails d q) = none :=
  State.nextOff_releaseRails ((List.length_filter_le ..).trans (s.length_quadRails d q))

/-- HIBERNATE_RAILS_OFF after the entry. -/
theorem does_hibernateRailsOff {s : State} {die q : Nat} (hon : s.aon.on = true) (hq : q < 4)
    (hdeep : (s.quad die q).st = 2) (hentry : (s.quad die q).hibEntry = true) (hret : (s.quad die q).returning = false)
    (hst : s.seq.st = 12) : Does (.hibernateRailsOff die q) s fun t =>
      t.quad die q = { s.quad die q with st := 3, hibEntry := false } ∧ t.nextOff die (s.quadRails die q) = none ∧
      (∀ i, i < 24 → t.reg (ixRail die i) 0x0B = s.reg (ixRail die i) 0x0B ∧
        (i ∉ s.quadRails die q → t.railSt die i = s.railSt die i) ∧
        (i ∈ s.quadRails die q → t.railSt die i = 1 ∨ t.railSt die i = s.railSt die i) ∧
        (i ∈ s.quadRails die q → s.railOn die i = true → (∀ j, j < 24 → s.dependsOn die j i = false) →
          t.railSt die i = 1)) ∧
      t.domainOn die (13 + q) = false ∧ t.dram.lines = s.dram.lines ∧ Keeps s t [.seq, .dram, .regs] := by
  refine does_of_effect (t := (s.sleepQuad die q).latchPads die (s.fresh.domainMask die)) hon
    (exec_hibernateRailsOff die q s) (if_pos ⟨hdeep, hentry, hst⟩) ?_
  have released := railsReleased_sleepQuad s die q
  have ended := s.nextOff_sleepQuad die q
  have quad : (s.asleepQuad die q).quad die q = { s.quad die q with st := 3, hibEntry := false } :=
    State.quad_setQuad_same ..
  have frame : Keeps s (s.asleepQuad die q) [.seq, .dram, .regs] :=
    keeps_setQuad (Keeps.fresh s _) (by simp) die q _
  generalize s.sleepQuad die q = u at released ended ⊢
  have rail (i : Nat) : (settle (u.latchPads die (s.fresh.domainMask die))).railSt die i = u.railSt die i :=
    State.railSt_settle ..
  have settled_quad : (settle (u.latchPads die (s.fresh.domainMask die))).quad die q =
      { s.quad die q with st := 3, hibEntry := false } := by
    rw [State.quad_settle, released.regs_only]
    exact quad
  refine ⟨settled_quad, ?_, fun i _ => ⟨?_, fun hi => ?_, fun _ => ?_, fun hi on free => ?_⟩, ?_, ?_, ?_⟩
  · rw [State.nextOff_settle]
    exact ended
  · rw [State.reg_ixRail_settle _ _ _ (by decide)]
    exact released.attempts i
  · rw [rail]
    exact released.outside i hi
  · rw [rail]
    exact released.off_or_same i
  · rw [rail]
    exact released.off_of_free ended hi on free
  · exact State.domainOn_hibernated hq (by rw [settled_quad]) (by rw [settled_quad]; exact hret)
  · rw [settle_dram, released.regs_only]
    rfl
  · refine Keeps.settle (keeps_setSeq ?_ (by simp) _)
    rw [released.regs_only]
    exact keeps_setRegs frame (by simp) _

/-- HIBERNATE_RETURN of a quadrant that is needed. -/
theorem does_hibernateReturn {s : State} {die q : Nat} (hon : s.aon.on = true) (hst : (s.quad die q).st = 3)
    (hret : (s.quad die q).returning = false) (hseq : s.seq.st = 12) (hfr : s.freeze.active = false) :
    Does (.hibernateReturn die q) s fun t =>
      t.quad die q = { s.quad die q with returning := true } ∧ t.dram.lines = s.dram.lines ∧ Keeps s t [.dram] := by
  refine does_of_effect (t := s.fresh.setQuad die q { s.quad die q with returning := true }) hon
    (exec_hibernateReturn die q s) (if_pos ⟨hst, hret, hseq, hfr⟩) ⟨?_, ?_, ?_⟩
  · rw [State.quad_settle]; exact State.quad_setQuad_same ..
  · rw [settle_dram]; rfl
  · exact Keeps.settle (keeps_setQuad (Keeps.fresh s _) (by simp) die q _)

/-- Settles O47: the entry lets the clean flakes go, the rails off release what feeds the quadrant alone, and the return
begins. -/
theorem quadrantsHibernateAndReturn : Obligations.QuadrantsHibernateAndReturn := by
  intro s die q hon _ hq
  refine ⟨does_hibernateEntry hon, fun hnot => ?_, does_hibernateRailsOff hon hq, does_hibernateReturn hon⟩
  exact does_nothing hon (exec_hibernateEntry die q s) (if_neg (by simp [State.mayHibernate_fresh, hnot]))

end Sys2Proof.Machine
end
